-- ==== Sys2Proof/Word.lean ====
section
/-! DEFINITION. The words of the CS460's formats: bytes, 16-bit fields and counters, 32-bit counters. -/

namespace Sys2Proof

/-- A byte of a frame, of the flash or of a picture component. -/
abbrev Byte := BitVec 8

/-- A 16-bit field: a statistics counter (R32, R167), a sequence (R25), a set of notice kinds (R168). -/
abbrev Half := BitVec 16

/-- A 32-bit field: the millisecond counter and the output frame counter (00_scope, Fixed parameters). -/
abbrev Word := BitVec 32

/-- A set of zones Z0 to Z7, zone z in bit z (10.7). -/
abbrev ZoneSet := BitVec 8

end Sys2Proof
end

