-- ==== Sys2Proof/Syntax.lean ====
section
/-! DEFINITION. The commands of the CS460: one constructor of `Instr` for each row of spec/opcode_table.json, with its operands. -/

namespace Sys2Proof

/-- Cameras C0 to C3, which are also the camera links 0 to 3 (chapter 2). -/
abbrev Camera := Fin 4

/-- A gain index, 0 to 63 (chapter 3). -/
abbrev Gain := Fin 64

/-- The three masters: cab unit (0), body controller (1), chassis gateway (2). -/
inductive Master where
  | cab
  | body
  | chassis
  deriving DecidableEq, Repr

/-- The two CAN ports (10.2). -/
inductive Port where
  | body
  | chassis
  deriving DecidableEq, Repr

/-- The four fields of the vehicle state record (7.2). -/
inductive VehicleField where
  | speed
  | gear
  | indicator
  | lift
  deriving DecidableEq, Repr

/-- One pixel, three components of eight bits (chapter 5). -/
structure Pixel where
  y : Byte
  cb : Byte
  cr : Byte
  deriving DecidableEq, Repr

/-- The two tiles of a pair (R55): the even tile is the left one. -/
inductive TileSide where
  | even
  | odd
  deriving DecidableEq, Repr

/-- The two phases of a blink generator (5.8). -/
inductive BlinkPhase where
  | off
  | on
  deriving DecidableEq, Repr

/-- The three class switches of the overlay list (5.6). -/
inductive OverlayClass where
  | guide
  | zone
  | frame
  deriving DecidableEq, Repr

/-- Why a cab frame is broken, the inter-byte timeout apart (R159). -/
inductive BreakCause where
  | lengthAbove200
  | badStopBit
  | crcMismatch
  deriving DecidableEq, Repr

/-- Why a CAN frame is ignored without count (R161). -/
inductive IgnoreCause where
  | otherIdentifier
  | remoteFrame
  | extendedIdentifier
  | shortRequest
  deriving DecidableEq, Repr

/-- What REQUEST_ARRIVAL brings: bytes received on the cab serial link, a whole frame or any part of one
(R159, log 5), or the data bytes of a base+0 frame of a CAN port (R161). -/
inductive Arrival where
  | cabBytes (bytes : List Byte)
  | canFrame (port : Port) (bytes : List Byte)
  deriving DecidableEq, Repr

/-- The commands. A request row carries the master that sends the request, its tag and the fields of
its payload (10.7).
DESIGN CHOICE, safe (log 34): how long a thing takes on a link or in a store is not an operand; a completion is a command of its own. -/
inductive Instr where
  /-- POWER_ON_RESET (R176). -/
  | powerOnReset
  /-- PART_RESTART (R176). -/
  | partRestart
  /-- PORTS_TAKEN (R162, R172). -/
  | portsTaken
  /-- LOAD_COMPLETION (R171, R172). -/
  | loadCompletion
  /-- LOCK_LOST (R19). -/
  | lockLost (camera : Camera)
  /-- LOCK_GAINED (R19). -/
  | lockGained (camera : Camera)
  /-- CAMERA_FRAME_START (R26). -/
  | cameraFrameStart (camera : Camera)
  /-- HEADER_ARRIVAL (R20, R21): the header's camera number, sequence and applied gain. -/
  | headerArrival (camera : Camera) (number : BitVec 4) (sequence : Half) (gain : Gain)
  /-- FRAME_COMPLETION (R28): the frame's pixels, each at row · 1280 + column; a pixel that is not
  listed is (0, 0, 0), and of two entries for one pixel the later counts. -/
  | frameCompletion (camera : Camera) (pixels : List (Nat × Pixel))
  /-- STALL_TIMER_EXPIRY (R22). -/
  | stallTimerExpiry (camera : Camera)
  /-- LOST_TIMER_EXPIRY (R23). -/
  | lostTimerExpiry (camera : Camera)
  /-- RANGE_REPORT (R98): the message's data bytes after its kind byte. -/
  | rangeReport (data : List Byte)
  /-- VEHICLE_STATUS (R116): the message's data bytes after its kind byte. -/
  | vehicleStatus (data : List Byte)
  /-- BODY_STATUS (R117): the message's data bytes after its kind byte. -/
  | bodyStatus (data : List Byte)
  /-- STALENESS_TIMER_EXPIRY (R118). -/
  | stalenessTimerExpiry (field : VehicleField)
  /-- WRONG_MASTER_DATA (R161): who sent it and the kind byte. -/
  | wrongMasterData (master : Master) (kind : Byte)
  /-- IGNORED_CAN_FRAME (R161). -/
  | ignoredCanFrame (port : Port) (cause : IgnoreCause)
  /-- TRACKER_TIMER_EXPIRY (R107). -/
  | trackerTimerExpiry
  /-- TRACKER_UPDATE_COMPLETION (R105). -/
  | trackerUpdateCompletion
  /-- LINGER_TIMER_EXPIRY (R127). -/
  | lingerTimerExpiry
  /-- OUTPUT_FRAME_START (R77): which tile of the pair in progress had already been written, if one. -/
  | outputFrameStart (written : Option TileSide)
  /-- PAIR_RENDERED (R79). -/
  | pairRendered
  /-- REFILL_COMPLETION (R66): the refill slot whose fetch completes. -/
  | refillCompletion (slot : Fin 2)
  /-- CLAIM_EXPIRY (R136). -/
  | claimExpiry (master : Master)
  /-- CAB_FRAME_BROKEN (R159). -/
  | cabFrameBroken (cause : BreakCause)
  /-- CAB_INTERBYTE_TIMEOUT (R159). -/
  | cabInterbyteTimeout
  /-- REQUEST_ARRIVAL (R159, R161, R163). -/
  | requestArrival (arrival : Arrival)
  /-- CAB_FRAME_SENT (R160, R163, R176). -/
  | cabFrameSent
  /-- CAN_FRAME_TRANSMITTED (R161, R163). -/
  | canFrameTransmitted (port : Port)
  /-- BUS_OFF (R162). -/
  | busOff (port : Port)
  /-- BUS_OFF_RECOVERY (R162). -/
  | busOffRecovery (port : Port)
  /-- STATUS_BROADCAST (R170). -/
  | statusBroadcast (port : Port)
  /-- UNKNOWN_KIND (R163): a request whose kind is not a request. -/
  | unknownKind (master : Master) (kind tag : Byte) (payload : List Byte)
  /-- CLAIM_VIEW (R133, R134). -/
  | claimView (master : Master) (tag layout level : Byte) (lifetime : Half)
  /-- DROP_VIEW (R135). -/
  | dropView (master : Master) (tag : Byte)
  /-- TAKE_LATCHES (R125). -/
  | takeLatches (master : Master) (tag : Byte)
  /-- GET_STATUS (R164). -/
  | getStatus (master : Master) (tag : Byte)
  /-- MARK_INCIDENT (R153). -/
  | markIncident (master : Master) (tag : Byte)
  /-- ACK_WARNING (R129). -/
  | ackWarning (master : Master) (tag : Byte)
  /-- GET_TRACKS (R165). -/
  | getTracks (master : Master) (tag first : Byte)
  /-- GET_NOTICES (R169). -/
  | getNotices (master : Master) (tag : Byte)
  /-- SET_NOTICE_MASK (R169). -/
  | setNoticeMask (master : Master) (tag : Byte) (enable : Half)
  /-- COLLECT_MARK (R155). -/
  | collectMark (master : Master) (tag : Byte)
  /-- SET_LIVE with one item of code 1 (R166, R138). -/
  | setLiveHomeLayout (master : Master) (tag : Byte) (value : Half)
  /-- SET_LIVE with one item of code 2, 3 or 4 (R166). -/
  | setLiveClassSwitch (master : Master) (tag : Byte) (cls : OverlayClass) (value : Half)
  /-- SET_LIVE with one item of code 5 (R166, R128). -/
  | setLiveWarningLevel (master : Master) (tag : Byte) (value : Half)
  /-- SET_LIVE with one item of code 16 + g or 20 + g (R166, R95). -/
  | setLiveBlinkWidth (master : Master) (tag : Byte) (generator : Fin 4) (phase : BlinkPhase) (value : Half)
  /-- GET_COUNTERS with its clear flag 0 (R167). -/
  | getCounters (master : Master) (tag : Byte)
  /-- GET_COUNTERS with its clear flag 1 (R167). -/
  | getCountersClear (master : Master) (tag : Byte)
  /-- PROBE_MAP (R73). -/
  | probeMap (master : Master) (tag layout pane : Byte) (pair : Half)
  /-- READ_MAP_ENTRY (R74). -/
  | readMapEntry (master : Master) (tag index : Byte)
  /-- GET_FAULT (R72). -/
  | getFault (master : Master) (tag : Byte)
  /-- RESTART (R176). -/
  | restart (master : Master) (tag : Byte)
  /-- ENTER_SERVICE (R173). -/
  | enterService (master : Master) (tag : Byte)
  /-- LEAVE_SERVICE (R175). -/
  | leaveService (master : Master) (tag : Byte)
  /-- FLASH_READ (R174). -/
  | flashRead (master : Master) (tag : Byte) (address : BitVec 24)
  /-- FLASH_WRITE (R174). -/
  | flashWrite (master : Master) (tag : Byte) (address : BitVec 24) (data : List Byte)
  /-- FLASH_ERASE (R174). -/
  | flashErase (master : Master) (tag : Byte) (address : BitVec 24)
  /-- FLASH_READ_COMPLETION (R174). -/
  | flashReadCompletion
  /-- FLASH_WRITE_COMPLETION (R174). -/
  | flashWriteCompletion
  /-- FLASH_ERASE_COMPLETION (R174). -/
  | flashEraseCompletion
  /-- CAB_START_BYTE_RECEIVED (R159). -/
  | cabStartByteReceived
  deriving DecidableEq, Repr

end Sys2Proof
end

