-- ==== Sys2Proof/Config.lean ====
section
/-! DEFINITION. What spec/ leaves open and the part decides: free values, each an uninterpreted constant applied to the number of
the draw (the state's `draws` field, log 15). Nothing can be proved about which value they take. -/

namespace Sys2Proof

/-- R145: whether, at the output frame start that ends a dwell, the decision is taken before the
compositor's step 3 (log 11). -/
opaque Config.dwellDecidesFirst : Nat → Bool

/-- R151: whether the countdown of an output frame start is taken before the VIEW record that its
step 1 offers (log 12). -/
opaque Config.countdownFirst : Nat → Bool

/-- R156: whether metadata line 1 is assembled before the changes that its own output frame start
makes (log 13). -/
opaque Config.lineOneFirst : Nat → Bool

/-- R176: whether a byte of a flash operation cut by a power-on reset already holds its new value;
the second argument is the byte's address (log 14). -/
opaque Config.cutByteIsNew : Nat → Nat → Bool

/-- R162: the transmit and receive error counts with which a port goes bus-off (log 24). -/
opaque Config.busOffErrors : Nat → Nat × Nat

end Sys2Proof
end

