-- ==== Sys2Proof/Machine/Types.lean ====
section
/-! DEFINITION. The types of the part's state, block by block, as the chapters of spec/ describe them. Everything is plain data. -/

namespace Sys2Proof.Machine

/-! ## Small fixed collections -/

/-- Four like things numbered 0 to 3: cameras, watch sets, trigger conditions, blink generators, claim slots. -/
structure Quad (α : Type) where
  c0 : α
  c1 : α
  c2 : α
  c3 : α
  deriving DecidableEq, Repr

/-- The member of number `i`. -/
def Quad.get {α : Type} (q : Quad α) (i : Fin 4) : α :=
  match i with
  | 0 => q.c0
  | 1 => q.c1
  | 2 => q.c2
  | 3 => q.c3

/-- `q` with member `i` replaced. -/
def Quad.set {α : Type} (q : Quad α) (i : Fin 4) (x : α) : Quad α :=
  match i with
  | 0 => { q with c0 := x }
  | 1 => { q with c1 := x }
  | 2 => { q with c2 := x }
  | 3 => { q with c3 := x }

/-- Every member through `f`. -/
def Quad.map {α β : Type} (f : α → β) (q : Quad α) : Quad β :=
  ⟨f q.c0, f q.c1, f q.c2, f q.c3⟩

/-- Every member through `f`, which also takes its number. -/
def Quad.mapIdx {α β : Type} (f : Fin 4 → α → β) (q : Quad α) : Quad β :=
  ⟨f 0 q.c0, f 1 q.c1, f 2 q.c2, f 3 q.c3⟩

/-- Four times the same. -/
def Quad.all {α : Type} (x : α) : Quad α := ⟨x, x, x, x⟩

/-- The members in order. -/
def Quad.toList {α : Type} (q : Quad α) : List α := [q.c0, q.c1, q.c2, q.c3]

/-- Three like things: the frame store slots of a camera. -/
structure Trio (α : Type) where
  s0 : α
  s1 : α
  s2 : α
  deriving DecidableEq, Repr

/-- The member of number `i`. -/
def Trio.get {α : Type} (q : Trio α) (i : Fin 3) : α :=
  match i with
  | 0 => q.s0
  | 1 => q.s1
  | 2 => q.s2

/-- `q` with member `i` replaced. -/
def Trio.set {α : Type} (q : Trio α) (i : Fin 3) (x : α) : Trio α :=
  match i with
  | 0 => { q with s0 := x }
  | 1 => { q with s1 := x }
  | 2 => { q with s2 := x }

/-- Every member through `f`. -/
def Trio.map {α β : Type} (f : α → β) (q : Trio α) : Trio β :=
  ⟨f q.s0, f q.s1, f q.s2⟩

/-- The members in order. -/
def Trio.toList {α : Type} (q : Trio α) : List α := [q.s0, q.s1, q.s2]

/-- One for each master. -/
structure PerMaster (α : Type) where
  cab : α
  body : α
  chassis : α
  deriving DecidableEq, Repr

/-- The one of master `m`. -/
def PerMaster.get {α : Type} (q : PerMaster α) (m : Master) : α :=
  match m with
  | .cab => q.cab
  | .body => q.body
  | .chassis => q.chassis

/-- `q` with the one of master `m` replaced. -/
def PerMaster.set {α : Type} (q : PerMaster α) (m : Master) (x : α) : PerMaster α :=
  match m with
  | .cab => { q with cab := x }
  | .body => { q with body := x }
  | .chassis => { q with chassis := x }

/-- Every one through `f`. -/
def PerMaster.map {α β : Type} (f : α → β) (q : PerMaster α) : PerMaster β :=
  ⟨f q.cab, f q.body, f q.chassis⟩

/-- Three times the same. -/
def PerMaster.all {α : Type} (x : α) : PerMaster α := ⟨x, x, x⟩

/-- One for each CAN port. -/
structure PerPort (α : Type) where
  body : α
  chassis : α
  deriving DecidableEq, Repr

/-- The one of port `p`. -/
def PerPort.get {α : Type} (q : PerPort α) (p : Port) : α :=
  match p with
  | .body => q.body
  | .chassis => q.chassis

/-- `q` with the one of port `p` replaced. -/
def PerPort.set {α : Type} (q : PerPort α) (p : Port) (x : α) : PerPort α :=
  match p with
  | .body => { q with body := x }
  | .chassis => { q with chassis := x }

/-! ## Levels and sources -/

/-- The alert levels, in order (00_scope, Conventions). -/
inductive Level where
  | none
  | notice
  | caution
  | danger
  deriving DecidableEq, Repr

/-- The sources of claims, and HOME (8.1, R140). -/
inductive Source where
  | cab
  | body
  | chassis
  | alert
  | home
  deriving DecidableEq, Repr

/-- A layout as the picture may show it: a stored layout by its number, or the plain quad as the
service picture, QUAD (R143). -/
inductive LayoutRef where
  | stored (number : Nat)
  | quad
  deriving DecidableEq, Repr

/-! ## Camera intake (chapter 2) -/

/-- Link states (2.2). -/
inductive LinkState where
  | down
  | search
  | live
  | stalled
  deriving DecidableEq, Repr

/-- The lost timer of a camera (R23). -/
inductive LostTimer where
  | stopped
  | running (start : Word)
  | expired
  deriving DecidableEq, Repr

/-- Frame store slot states (2.4). -/
inductive SlotState where
  | free
  | filling
  | ready
  | reading
  deriving DecidableEq, Repr

/-- A frame store slot: its record (2.4) and the picture in frame memory, a canonical list of
(row · 1280 + column, pixel) in which an unlisted pixel is `blankPixel` (log 8). -/
structure FrameSlot where
  state : SlotState
  gain : Gain
  doneMs : Word
  picture : List (Nat × Pixel)
  deriving DecidableEq, Repr

/-- A frame header (2.1). -/
structure Header where
  number : BitVec 4
  sequence : Half
  gain : Gain
  deriving DecidableEq, Repr

/-- What the intake holds for one camera (chapter 2). `header` is the last accepted header, whose
sequence is the baseline of R25; `sentGain` is the last command sent on the back channel (log 9). -/
structure CameraIntake where
  lock : Bool
  link : LinkState
  slots : Trio FrameSlot
  header : Option Header
  stall : Option Word
  lost : LostTimer
  episode : Bool
  sendBuffer : Option Gain
  sentGain : Option Gain
  inUse : Bool
  dropped : Half
  torn : Half
  mismatch : Half
  deriving DecidableEq, Repr

/-! ## Exposure unit (chapter 3) -/

/-- Camera conditions (R49). -/
inductive Condition where
  | normal
  | obscured
  | glare
  | lowLight
  deriving DecidableEq, Repr

/-- The three statistics of a frame (R36, R38). -/
structure Stats where
  m : Nat
  s : Nat
  h : Nat
  deriving DecidableEq, Repr

/-- A gain command in flight: the commanded index and the wait count (R41, R42). -/
structure GainCommand where
  index : Gain
  waits : Nat
  deriving DecidableEq, Repr

/-- The progress of a watch set for one camera (R47). -/
inductive WatchState where
  | clear
  | entering (count : Nat)
  | asserted
  | leaving (count : Nat)
  deriving DecidableEq, Repr

/-- The exposure record of one camera (3.1), with its gain mismatch counter (R44). -/
structure Exposure where
  gain : Gain
  inFlight : Option GainCommand
  balance : Int
  stats : Option Stats
  watch : Quad WatchState
  condition : Condition
  gainMismatch : Half
  deriving DecidableEq, Repr

/-- The quantity a watch set tests (3.5). -/
inductive Quantity where
  | mean
  | sharp
  | highClip
  | limit
  deriving DecidableEq, Repr

/-- The direction of a watch set (3.5). -/
inductive Direction where
  | above
  | below
  deriving DecidableEq, Repr

/-- The configuration of a watch set (3.5). -/
structure WatchSet where
  enabled : Bool
  quantity : Quantity
  direction : Direction
  threshold : Int
  margin : Int
  persistence : Nat
  action : Condition
  deriving DecidableEq, Repr

/-! ## Motion cells (6.2) -/

/-- A motion cell: its record, and its state of 6.2. -/
structure MotionCell where
  camera : Camera
  u : Nat
  v : Nat
  x : Int
  y : Int
  threshold : Nat
  previous : Option (List Nat)
  score : Nat
  streak : Nat
  active : Bool
  deriving DecidableEq, Repr

/-- The motion cells and, per camera, the applied gain of its last handed-over frame (6.2). -/
structure Motion where
  cells : List MotionCell
  lastGain : Quad (Option Gain)
  deriving DecidableEq, Repr

/-! ## Vehicle state and alert evaluator (chapter 7) -/

/-- Gear (7.2). -/
inductive Gear where
  | forward
  | neutral
  | reverse
  deriving DecidableEq, Repr

/-- Nearside indicator (7.2). -/
inductive Indicator where
  | off
  | on
  deriving DecidableEq, Repr

/-- Lift (7.2). -/
inductive Lift where
  | idle
  | cycling
  deriving DecidableEq, Repr

/-- One vehicle state field: its value (`none` is UNKNOWN), its last-update millisecond and its
staleness timer (7.2). -/
structure VehicleEntry (α : Type) where
  value : Option α
  lastUpdate : Option Word
  timer : Option Word
  deriving DecidableEq, Repr

/-- The vehicle state record (7.2). -/
structure Vehicle where
  speed : VehicleEntry Nat
  gear : VehicleEntry Gear
  indicator : VehicleEntry Indicator
  lift : VehicleEntry Lift
  deriving DecidableEq, Repr

/-- The four fields as they read, `none` being UNKNOWN (R119). -/
structure VehicleReading where
  speed : Option Nat
  gear : Option Gear
  indicator : Option Indicator
  lift : Option Lift
  deriving DecidableEq, Repr

/-- Zone conditions (7.1). -/
inductive ZoneCondition where
  | always
  | speedAtMost (limit : Nat)
  | moving
  | indicatorOn
  | reverse
  | liftActive
  deriving DecidableEq, Repr

/-- A zone of the zone table (7.1). -/
structure Zone where
  index : Fin 8
  enabled : Bool
  xMin : Int
  xMax : Int
  yMin : Int
  yMax : Int
  condition : ZoneCondition
  level : Level
  closing : Nat
  view : Option Nat
  deriving DecidableEq, Repr

/-- The alert evaluator's state (7.7). `occupancy` lists the live occupancy levels of Z0 to Z7. -/
structure Alert where
  vehicle : Vehicle
  level : Level
  activity : ZoneSet
  occupancy : List Level
  latched : PerMaster ZoneSet
  linger : Option Word
  warningLevel : Level
  silence : Bool
  deriving DecidableEq, Repr

/-! ## Tracker (chapter 6) -/

/-- The source of a sighting (R98, R103). -/
inductive SightingSource where
  | range
  | motion
  deriving DecidableEq, Repr

/-- A sighting record (6.3). -/
structure Sighting where
  x : Int
  y : Int
  source : SightingSource
  deriving DecidableEq, Repr

/-- A set of RANGE and MOTION (6.4). -/
structure SourceMask where
  range : Bool
  motion : Bool
  deriving DecidableEq, Repr

/-- Track states (6.4). -/
inductive TrackState where
  | tentative
  | confirmed
  | coasting
  deriving DecidableEq, Repr

/-- A track (6.4). -/
structure Track where
  number : Nat
  state : TrackState
  x : Int
  y : Int
  vx : Int
  vy : Int
  hits : Nat
  misses : Nat
  mask : SourceMask
  computed : Level
  stored : Level
  fall : Nat
  best : Option (Fin 8)
  deriving DecidableEq, Repr

/-- A tracker update in progress: the batch it took (R107), each slot's predicted position (R9) and
the vehicle state it rates by (R120, log 20). -/
structure Update where
  batch : List Sighting
  predicted : List (Option (Int × Int))
  vehicle : VehicleReading
  deriving DecidableEq, Repr

/-- The tracker's state (chapter 6). `tracks` is the published list, sixteen slots. -/
structure Tracker where
  queue : List Sighting
  tracks : List (Option Track)
  publishedMs : Word
  lastNumber : Nat
  timer : Option Word
  update : Option Update
  discarded : Half
  unknownSensors : Half
  overflow : Half
  deriving DecidableEq, Repr

/-- A sensor record (1.4). -/
structure Sensor where
  number : Nat
  enabled : Bool
  mountX : Int
  mountY : Int
  cx : Int
  cy : Int
  maxRange : Nat
  deriving DecidableEq, Repr

/-! ## Layouts, map records and the remap unit (chapter 4) -/

/-- Size classes (4.1). -/
inductive SizeClass where
  | a
  | b
  | c
  deriving DecidableEq, Repr

/-- Pane kinds (4.1). -/
inductive PaneKind where
  | topview
  | camera
  deriving DecidableEq, Repr

/-- A pane (4.1), with its camera set, camera c in bit c (R92). -/
structure Pane where
  left : Nat
  top : Nat
  width : Nat
  height : Nat
  kind : PaneKind
  cls : SizeClass
  mapBase : Nat
  x0 : Int
  y0 : Int
  scale : Nat
  mirror : Bool
  zoneMask : ZoneSet
  cameras : BitVec 4
  deriving DecidableEq, Repr

/-- A layout (4.1), with its camera set (R56). `builtIn` marks the plain quad of R57. -/
structure Layout where
  number : Nat
  critical : Bool
  panes : List Pane
  builtIn : Bool
  cameras : BitVec 4
  deriving DecidableEq, Repr

/-- A position and the four steps of one camera's part of a map record (4.2). -/
structure SampleGeometry where
  u0 : Half
  v0 : Half
  dudx : Half
  dvdx : Half
  dudy : Half
  dvdy : Half
  deriving DecidableEq, Repr

/-- A map record, field for field its 32 bytes (4.2). -/
structure MapRecord where
  kind : Byte
  primary : Byte
  secondary : Byte
  fill : Byte
  first : SampleGeometry
  second : SampleGeometry
  w0 : Half
  w1 : Half
  deriving DecidableEq, Repr

/-- The key of a pair: layout, pane and pair number (4.3). -/
structure Key where
  layout : Nat
  pane : Nat
  pair : Nat
  deriving DecidableEq, Repr

/-- An entry of the remap cache (4.3). -/
inductive CacheEntry where
  | empty
  | filling (key : Key) (cls : SizeClass)
  | valid (key : Key) (cls : SizeClass) (even odd : MapRecord)
  deriving DecidableEq, Repr

/-- A busy refill slot: the entry it names and its key (4.3). -/
structure Refill where
  entry : Nat
  key : Key
  deriving DecidableEq, Repr

/-- A record of the faulted pair store (4.3). -/
structure FaultedPair where
  key : Key
  even : MapRecord
  odd : MapRecord
  deriving DecidableEq, Repr

/-- Which records of a faulted pair were invalid (R71). -/
inductive FaultTile where
  | even
  | odd
  | both
  deriving DecidableEq, Repr

/-- The map fault record (R71). -/
structure MapFault where
  held : Bool
  key : Key
  tile : FaultTile
  deriving DecidableEq, Repr

/-- The remap unit (4.3). `faulted` is oldest first; `inUse` is the entry in use (R62). -/
structure Remap where
  entries : List CacheEntry
  pinned : Nat
  pointer : Nat
  slot0 : Option Refill
  slot1 : Option Refill
  faulted : List FaultedPair
  fault : MapFault
  inUse : Option Nat
  refills : Half
  mapFaults : Half
  deriving DecidableEq, Repr

/-! ## Compositor (chapter 5) -/

/-- Picture modes (5.1). -/
inductive PictureMode where
  | startingPicture
  | layout
  deriving DecidableEq, Repr

/-- The render position with what rendering stands at: the frame is DONE, the lookup of a pair waits
for a free refill slot (R64) or for its key's refill (R62), or a pair is drawn from its records. -/
inductive Work where
  | done
  | waitSlot (pair : Nat)
  | waitFill (pair : Nat)
  | drawing (pair : Nat) (even odd : MapRecord)
  deriving DecidableEq, Repr

/-- The class switches (5.1). -/
structure Switches where
  guide : Bool
  zone : Bool
  frame : Bool
  deriving DecidableEq, Repr

/-- The frame snapshot (step 5 of R77). -/
structure Snapshot where
  tracks : List (Option Track)
  level : Level
  occupancy : List Level
  links : Quad LinkState
  lost : Quad LostTimer
  conditions : Quad Condition
  winner : Source
  switches : Switches
  gates : Quad Bool
  deriving DecidableEq, Repr

/-- Arm sources (5.8). -/
inductive ArmSource where
  | always
  | levelNotice
  | levelCaution
  | levelDanger
  | cameraFault
  | warning
  deriving DecidableEq, Repr

/-- A generator's configuration (R94). -/
structure GeneratorConfig where
  offWidth : Nat
  onWidth : Nat
  source : ArmSource
  deriving DecidableEq, Repr

/-- A blink generator (5.8); its output is computed from phase and effective arm (R97). -/
structure Generator where
  nextOff : Nat
  nextOn : Nat
  phase : BlinkPhase
  count : Nat
  source : ArmSource
  pending : Bool
  effective : Bool
  deriving DecidableEq, Repr

/-- The compositor's state (5.1). `sent` is the picture the display and record links carry, `line1`
and `line2` the metadata lines (log 9). -/
structure Compositor where
  mode : PictureMode
  inEffect : Option LayoutRef
  adoptedAt : Word
  reportPending : Bool
  work : Work
  snapshot : Option Snapshot
  store : List (Nat × Pixel)
  sent : List (Nat × Pixel)
  line1 : List Byte
  line2 : List Byte
  switches : Switches
  generators : Quad Generator
  held : Half
  deriving DecidableEq, Repr

/-- Overlay object kinds (5.6). -/
inductive OverlayKind where
  | groundLine
  | zoneTint
  | screenLine
  | screenBox
  deriving DecidableEq, Repr

/-- An overlay object (5.6). `a b c d` are its four coordinates in the order of 11.2. -/
structure Overlay where
  kind : OverlayKind
  layouts : Half
  pane : Nat
  zone : Nat
  a : Int
  b : Int
  c : Int
  d : Int
  copies : Nat
  dX : Int
  dY : Int
  colour : Nat
  alpha : Nat
  width : Nat
  generator : Option (Fin 4)
  visibility : Level
  cls : OverlayClass
  deriving DecidableEq, Repr

/-! ## Arbiter (chapter 8) -/

/-- A claim (8.1). -/
structure Claim where
  layout : Nat
  level : Nat
  expiry : Option Word
  granted : Bool
  deriving DecidableEq, Repr

/-- Arbiter states (8.4). -/
inductive ArbiterState where
  | settled
  | targetHeld
  | firstFrame
  | dwell
  | service
  deriving DecidableEq, Repr

/-- A switch target with its source (R142, R143). -/
structure SwitchTarget where
  layout : LayoutRef
  source : Source
  deriving DecidableEq, Repr

/-- The arbiter (8.1). `claims` are the slots CAB, BODY, CHASSIS, ALERT. -/
structure Arbiter where
  claims : Quad (Option Claim)
  state : ArbiterState
  shown : Option LayoutRef
  target : Option SwitchTarget
  dwell : Nat
  home : Nat
  lapses : PerMaster Half
  deriving DecidableEq, Repr

/-! ## Incident unit (chapter 9) -/

/-- Event records (9.1). -/
inductive EventRecord where
  | alert (new old : Level) (best : Option (Fin 8)) (mask : SourceMask)
  | view (layout : Option LayoutRef) (winner : Source)
  | vehicle (reading : VehicleReading)
  | condition (camera : Camera) (link : LinkState) (condition : Condition)
  deriving DecidableEq, Repr

/-- Record kinds (9.1). -/
inductive RecordKind where
  | alert
  | view
  | vehicle
  | condition
  deriving DecidableEq, Repr

/-- The speed test (9.2). -/
inductive SpeedTest where
  | any
  | atLeast (n : Nat)
  | unknown
  deriving DecidableEq, Repr

/-- A trigger condition (9.2). `tests` are the field tests as the codes of 11.2, 254 being "any". -/
structure Trigger where
  enabled : Bool
  kind : RecordKind
  tests : List Nat
  speed : SpeedTest
  delay : Nat
  holdOff : Nat
  deriving DecidableEq, Repr

/-- Trigger states (9.2). -/
inductive TriggerState where
  | armed
  | delaying (count : Nat)
  | holding (count : Nat)
  deriving DecidableEq, Repr

/-- What fired a mark (9.3). -/
inductive MarkSource where
  | trigger (t : Fin 4)
  | master (m : Master)
  deriving DecidableEq, Repr

/-- A track snapshot of a mark (9.3). -/
structure TrackShot where
  number : Nat
  state : TrackState
  x : Int
  y : Int
  stored : Level
  deriving DecidableEq, Repr

/-- An incident mark (9.3). -/
structure Mark where
  number : Half
  source : MarkSource
  frame : Word
  ms : Word
  level : Level
  shown : Option LayoutRef
  vehicle : VehicleReading
  tracks : List TrackShot
  collected : Bool
  embedded : Bool
  deriving DecidableEq, Repr

/-- The incident unit (chapter 9). `marks` is in firing order. -/
structure Incident where
  triggers : Quad TriggerState
  marks : List Mark
  lastNumber : Half
  dropped : Half
  deriving DecidableEq, Repr

/-! ## Port controller (chapter 10) -/

/-- The notice kinds (10.5). -/
inductive NoticeKind where
  | alertRise
  | alertFall
  | viewChanged
  | claimLapsed
  | cameraLost
  | cameraBack
  | cameraMismatch
  | lensObscured
  | lensClear
  | lowLightOn
  | mapFault
  | trackOverflow
  | incidentMarked
  | vehicleStale
  | configFallback
  | serviceEntered
  deriving DecidableEq, Repr

/-- Response codes (10.3). -/
inductive ResponseCode where
  | done
  | doneClamped
  | notPermitted
  | wrongState
  | outOfRange
  | badFormat
  | busy
  | unknownKind
  deriving DecidableEq, Repr

/-- A request as its master sends it: kind, tag and payload (R159, R161). -/
structure Request where
  kind : Byte
  tag : Byte
  payload : List Byte
  deriving DecidableEq, Repr

/-- What a frame that the part sends is: a NOTICE or a broadcast, a BUSY given at arrival, the
response to a taken request, or the DONE that a restart follows (R163, R176). -/
inductive FrameRole where
  | unasked
  | busy
  | answer
  | restart
  deriving DecidableEq, Repr

/-- A cab frame that the part sends (R160). -/
structure CabFrame where
  kind : Byte
  tag : Byte
  payload : List Byte
  role : FrameRole
  deriving DecidableEq, Repr

/-- A cab frame waiting to be sent. A NOTICE takes its payload when its sending begins (R160). -/
inductive CabWaiting where
  | frame (f : CabFrame)
  | notice
  deriving DecidableEq, Repr

/-- A CAN frame in a port's transmit store (R161). -/
structure CanFrame where
  id : Nat
  data : List Byte
  role : FrameRole
  deriving DecidableEq, Repr

/-- The cab framer (R159): in FRAME, with the bytes received since the start byte and the millisecond of
the last byte. -/
inductive Framer where
  | hunt
  | frame (received : List Byte) (last : Word)
  deriving DecidableEq, Repr

/-- CAN port states (R162). -/
inductive PortState where
  | joining
  | active
  | busOff (start : Word)
  deriving DecidableEq, Repr

/-- A CAN port (10.2, R170). `timer` is the millisecond of the previous broadcast, none while the
broadcast timer is stopped; `owed` says that a change owes an early broadcast. -/
structure CanPort where
  state : PortState
  store : List CanFrame
  timer : Option Word
  owed : Bool
  txErrors : Nat
  rxErrors : Nat
  deriving DecidableEq, Repr

/-- The port controller (chapter 10). -/
structure Ports where
  framer : Framer
  sending : Option CabFrame
  waiting : List CabWaiting
  can : PerPort CanPort
  queues : PerMaster (List Request)
  pendingSets : PerMaster Half
  enable : Half
  frameErrors : Half
  wrongData : Half
  deriving DecidableEq, Repr

/-- The PORTS section as loaded (R132, R168). `routing` holds, for each master, the set of notice
kinds that the routing table sends to it. -/
structure PortsConfig where
  maxLevel : PerMaster Nat
  mayClaim : PerMaster Bool
  dwell : Nat
  base : PerPort Nat
  bitRate : PerPort Nat
  routing : PerMaster Half
  enable : Half
  deriving DecidableEq, Repr

/-! ## Loader and service (chapter 11) -/

/-- The operating states (R171). -/
inductive OpState where
  | starting
  | running
  | service
  deriving DecidableEq, Repr

/-- The flash operation state with its address and, for a write, its data (11.3). -/
inductive FlashOp where
  | idle
  | reading (address : Nat)
  | writing (address : Nat) (data : List Byte)
  | erasing (address : Nat)
  deriving DecidableEq, Repr

/-- The configuration flash and its service state (11.3). `cells` is the canonical list of the bytes
that are not 0xFF (log 7). -/
structure Flash where
  cells : List Host.Cell
  op : FlashOp
  buffer : Option (Nat × List Byte)
  exitPending : Bool
  deriving DecidableEq, Repr

/-- The configuration loader's progress (R171, R172). -/
structure Loader where
  mode : OpState
  portsTaken : Bool
  fellBack : Bool
  deriving DecidableEq, Repr

/-- The loaded configuration of every section but CELLS, whose records stand with the cells' state. -/
structure Loaded where
  layouts : List Layout
  home : Nat
  mapLength : Nat
  mapCells : List Host.Cell
  zones : List Zone
  staleLimit : Nat
  warningLevel : Level
  warningGenerator : Fin 4
  sensors : List Sensor
  gate : Nat
  overlays : List Overlay
  generators : Quad GeneratorConfig
  watchSets : Quad WatchSet
  targets : Quad Nat
  triggers : Quad Trigger
  ports : PortsConfig
  palette : List Pixel
  deriving DecidableEq, Repr

end Sys2Proof.Machine
end

