-- ==== Sys2Proof/Machine/Start.lean ====
section
/-! DEFINITION. The start values that a power-on reset and a restart give each block, and the fallback of each section. -/

namespace Sys2Proof.Machine

/-! ## Fallbacks and defaults of the sections -/

/-- The default routing of 10.5 and the PORTS defaults of R132 and R168. -/
def portsFallback : PortsConfig where
  maxLevel := ⟨5, 5, 4⟩
  mayClaim := ⟨true, true, true⟩
  dwell := 15
  base := ⟨0x300, 0x340⟩
  bitRate := ⟨500, 500⟩
  routing := ⟨0xFFFF#16, 0xC1BF#16, 0xE00F#16⟩
  enable := 0xFFFF#16

/-- The WATCH fallback of R46: its four watch sets. -/
def watchFallback : Quad WatchSet where
  c0 := ⟨true, .sharp, .below, 6, 4, 45, .obscured⟩
  c1 := ⟨true, .highClip, .above, 40, 10, 10, .glare⟩
  c2 := ⟨true, .limit, .above, 60, 20, 30, .lowLight⟩
  c3 := ⟨false, .sharp, .below, 0, 0, 1, .obscured⟩

/-- The WATCH fallback of R46: its four targets. -/
def targetsFallback : Quad Nat := Quad.all 110

/-- A disabled trigger condition of the fallback of R149. -/
def triggerDisabled : Trigger := ⟨false, .alert, [254, 254, 254, 254], .any, 0, 0⟩

/-- The TRIGGERS fallback of R149. -/
def triggersFallback : Quad Trigger where
  c0 := ⟨true, .alert, [3, 254, 254, 254], .any, 15, 255⟩
  c1 := triggerDisabled
  c2 := triggerDisabled
  c3 := triggerDisabled

/-- The generator table of R94. -/
def generatorsFallback : Quad GeneratorConfig where
  c0 := ⟨8, 8, .levelDanger⟩
  c1 := ⟨15, 15, .cameraFault⟩
  c2 := ⟨20, 10, .levelCaution⟩
  c3 := ⟨9, 6, .warning⟩

/-- The default palette of 5.5 (R86). -/
def paletteFallback : List Pixel :=
  [⟨40, 128, 128⟩, ⟨128, 128, 128⟩, ⟨210, 16, 146⟩, ⟨150, 44, 185⟩, ⟨81, 90, 240⟩, ⟨235, 128, 128⟩,
   ⟨16, 128, 128⟩, ⟨145, 54, 34⟩, ⟨41, 240, 110⟩, ⟨170, 166, 16⟩, ⟨106, 202, 222⟩] ++
  List.replicate 5 ⟨180, 128, 128⟩

/-- Pane `i` of the plain quad (R57). -/
def plainQuadPane (i : Nat) : Pane where
  left := 640 * (i % 2)
  top := 384 * (i / 2)
  width := 640
  height := 384
  kind := .camera
  cls := .b
  mapBase := 0
  x0 := 0
  y0 := 0
  scale := 0
  mirror := false
  zoneMask := 0#8
  cameras := 1#4 <<< i

/-- The plain quad (R57). -/
def plainQuad : Layout where
  number := 0
  critical := false
  panes := [plainQuadPane 0, plainQuadPane 1, plainQuadPane 2, plainQuadPane 3]
  builtIn := true
  cameras := 0xF#4

/-- The configuration before the load: nothing present (R5, R53), and the fallback values where a
value must stand (log 10). -/
def loadedStart : Loaded where
  layouts := []
  home := 0
  mapLength := 0
  mapCells := []
  zones := []
  staleLimit := 500
  warningLevel := .caution
  warningGenerator := 3
  sensors := []
  gate := 80
  overlays := []
  generators := generatorsFallback
  watchSets := watchFallback
  targets := targetsFallback
  triggers := triggersFallback
  ports := portsFallback
  palette := paletteFallback

/-! ## Blocks -/

/-- A frame store slot after a reset (2.4): frame memory keeps its contents. -/
def FrameSlot.restarted (t : FrameSlot) : FrameSlot :=
  { t with state := .free, gain := 0, doneMs := 0#32 }

/-- A frame store slot whose memory holds nothing yet (log 8). -/
def slotStart : FrameSlot := ⟨.free, 0, 0#32, []⟩

/-- The link state after a reset, by the receiver's lock (R18). -/
def linkStart (lock : Bool) : LinkState := if lock then .search else .down

/-- The intake of a camera after a restart (R33); the counters are kept, and so is "in use", which holds
until the next output frame start (2.4). -/
def CameraIntake.restarted (k : CameraIntake) : CameraIntake :=
  { k with
    link := linkStart k.lock
    slots := k.slots.map FrameSlot.restarted
    header := none
    stall := none
    lost := .expired
    episode := false
    sendBuffer := none }

/-- The intake of a camera right after power-on reset, its receiver without lock (log 6) and the camera not
in use (log 35). -/
def intakeStart : CameraIntake where
  lock := false
  link := .down
  slots := ⟨slotStart, slotStart, slotStart⟩
  header := none
  stall := none
  lost := .expired
  episode := false
  sendBuffer := none
  sentGain := none
  inUse := false
  dropped := 0#16
  torn := 0#16
  mismatch := 0#16

/-- An exposure record at its start values (R34). -/
def exposureStart : Exposure where
  gain := 32
  inFlight := none
  balance := 0
  stats := none
  watch := Quad.all .clear
  condition := .normal
  gainMismatch := 0#16

/-- The motion cells before the load (R99). -/
def motionStart : Motion := ⟨[], Quad.all none⟩

/-- The tracker at its start values (R104, R105, R107). -/
def trackerStart : Tracker where
  queue := []
  tracks := List.replicate 16 none
  publishedMs := 0#32
  lastNumber := 0
  timer := none
  update := none
  discarded := 0#16
  unknownSensors := 0#16
  overflow := 0#16

/-- A vehicle field at its start value (7.2). -/
def vehicleEntryStart {α : Type} : VehicleEntry α := ⟨none, none, none⟩

/-- The alert evaluator at its start values (7.7). -/
def alertStart : Alert where
  vehicle := ⟨vehicleEntryStart, vehicleEntryStart, vehicleEntryStart, vehicleEntryStart⟩
  level := .none
  activity := 0#8
  occupancy := List.replicate 8 .none
  latched := PerMaster.all 0#8
  linger := none
  warningLevel := .caution
  silence := false

/-- The arbiter at its start values (R131). -/
def arbiterStart : Arbiter where
  claims := Quad.all none
  state := .settled
  shown := none
  target := none
  dwell := 0
  home := 0
  lapses := PerMaster.all 0#16

/-- The remap unit at its start values (R61). -/
def remapStart : Remap where
  entries := List.replicate 40 .empty
  pinned := 0
  pointer := 39
  slot0 := none
  slot1 := none
  faulted := []
  fault := ⟨false, ⟨0, 0, 0⟩, .even⟩
  inUse := none
  refills := 0#16
  mapFaults := 0#16

/-- A generator at its start value (R94), with the widths and the arm source given.
DESIGN CHOICE, unsafe (log 31): the pending arm is clear until the entry to RUNNING computes it. -/
def generatorStart (g : GeneratorConfig) : Generator where
  nextOff := g.offWidth
  nextOn := g.onWidth
  phase := .off
  count := 0
  source := g.source
  pending := false
  effective := false

/-- The compositor at its start values (R76). -/
def compositorStart : Compositor where
  mode := .startingPicture
  inEffect := none
  adoptedAt := 0#32
  reportPending := false
  work := .done
  snapshot := none
  store := []
  sent := []
  line1 := []
  line2 := []
  switches := ⟨true, true, true⟩
  generators := generatorsFallback.map generatorStart
  held := 0#16

/-- The incident unit after power-on reset (R158). -/
def incidentStart : Incident := ⟨Quad.all .armed, [], 0#16, 0#16⟩

/-- A CAN port at its start values (R162, R170). -/
def canPortStart : CanPort := ⟨.joining, [], none, false, 0, 0⟩

/-- The port controller at its start values (10.8). -/
def portsStart : Ports where
  framer := .hunt
  sending := none
  waiting := []
  can := ⟨canPortStart, canPortStart⟩
  queues := PerMaster.all []
  pendingSets := PerMaster.all 0#16
  enable := portsFallback.enable
  frameErrors := 0#16
  wrongData := 0#16

/-- The loader at the beginning of a load (R171). -/
def loaderStart : Loader := ⟨.starting, false, false⟩

/-- The flash service state after a reset (R174), with the flash erased (log 7). -/
def flashStart : Flash := ⟨[], .idle, none, false⟩

end Sys2Proof.Machine
end

