-- ==== Sys2Proof/Machine/State.lean ====
section
/-! DEFINITION. The state of the CS460, the reasons a step can stop, and the machine right after a power-on reset. -/

namespace Sys2Proof.Machine

/-- Why a step stops with a fault. -/
inductive Fault where
  /-- Raised by REFILL_COMPLETION when the pair of its key has no place in the map area, because the
  layout or pane is not present or the pair's 64 bytes extend past the area's length. The check of
  R54 keeps loaded layouts from it. Safe: the model stops where the spec says there is no memory (log 25). -/
  | outsideMapArea (key : Key)
  deriving DecidableEq, Repr

/-- Why a command has no meaning. -/
inductive Refusal where
  /-- Raised by exec's arm of a command that is not modelled yet. Safe: the model stops. No arm raises it. -/
  | notModelled (mnemonic : String)
  deriving DecidableEq, Repr

/-- The whole state: one field for each block, the two counters, the queue of waiting commands
`pending` (first in, first out) and `draws`, the number of free values used (log 15). -/
structure State where
  pending : List Instr
  ms : Word
  frame : Word
  loader : Loader
  loaded : Loaded
  intake : Quad CameraIntake
  exposure : Quad Exposure
  motion : Motion
  tracker : Tracker
  alert : Alert
  arbiter : Arbiter
  remap : Remap
  compositor : Compositor
  incident : Incident
  ports : Ports
  flash : Flash
  draws : Nat
  deriving DecidableEq, Repr

/-- The machine right after a power-on reset (R176), with nothing waiting. -/
def State.reset : State where
  pending := []
  ms := 0#32
  frame := 0#32
  loader := loaderStart
  loaded := loadedStart
  intake := Quad.all intakeStart
  exposure := Quad.all exposureStart
  motion := motionStart
  tracker := trackerStart
  alert := alertStart
  arbiter := arbiterStart
  remap := remapStart
  compositor := compositorStart
  incident := incidentStart
  ports := portsStart
  flash := flashStart
  draws := 0

end Sys2Proof.Machine
end

