-- ==== Sys2Proof/Machine/Operands.lean ====
section
/-! DEFINITION. The byte forms of the formats: reading fields from bytes, writing them, and the codings of 9.5, 10.7 and 11.2. -/

namespace Sys2Proof.Machine

/-! ## Reading fields, least significant byte first (10.7, 11.2) -/

/-- Byte `i` of `l` as a number; 0 past its end. -/
def byteAt (l : List Byte) (i : Nat) : Nat := (l.getD i 0#8).toNat

/-- The unsigned 16-bit field at byte `i`. -/
def u16At (l : List Byte) (i : Nat) : Nat := byteAt l i + 256 * byteAt l (i + 1)

/-- The signed 16-bit field at byte `i`. -/
def s16At (l : List Byte) (i : Nat) : Int := (BitVec.ofNat 16 (u16At l i)).toInt

/-- The unsigned 24-bit field at byte `i`. -/
def u24At (l : List Byte) (i : Nat) : Nat := u16At l i + 65536 * byteAt l (i + 2)

/-- The unsigned 32-bit field at byte `i`. -/
def u32At (l : List Byte) (i : Nat) : Nat := u16At l i + 65536 * u16At l (i + 2)

/-- Bit `b` of byte `i`. -/
def bitAt (l : List Byte) (i b : Nat) : Bool := (l.getD i 0#8).getLsbD b

/-! ## Writing fields -/

/-- The byte of a number. -/
def toByte (n : Nat) : Byte := BitVec.ofNat 8 n

/-- A 16-bit field as bytes. -/
def bytes16 (h : Half) : List Byte := [toByte h.toNat, toByte (h.toNat / 256)]

/-- A 32-bit field as bytes. -/
def bytes32 (w : Word) : List Byte :=
  [toByte w.toNat, toByte (w.toNat / 256), toByte (w.toNat / 65536), toByte (w.toNat / 16777216)]

/-- A signed 16-bit field as bytes. -/
def bytesInt16 (x : Int) : List Byte := bytes16 (BitVec.ofInt 16 x)

/-- A flag as a byte. -/
def flagByte (b : Bool) : Byte := if b then 1#8 else 0#8

/-- `l` filled with zero bytes to length `n`. -/
def padTo (n : Nat) (l : List Byte) : List Byte := l ++ List.replicate (n - l.length) 0#8

/-! ## Codings of metadata line 1 (9.5), which 10.7 and 11.2 share -/

/-- The order and the code of a level. -/
def Level.code : Level → Nat
  | .none => 0
  | .notice => 1
  | .caution => 2
  | .danger => 3

/-- The higher of two levels. -/
def Level.max (a b : Level) : Level := if a.code < b.code then b else a

/-- The code of a source. -/
def Source.code : Source → Nat
  | .cab => 0
  | .body => 1
  | .chassis => 2
  | .alert => 3
  | .home => 4

/-- The code of a shown layout or switch target: 0–11, 128 QUAD, 255 none. -/
def layoutCode : Option LayoutRef → Nat
  | none => 255
  | some .quad => 128
  | some (.stored n) => n

/-- The code of a link state. -/
def LinkState.code : LinkState → Nat
  | .down => 0
  | .search => 1
  | .live => 2
  | .stalled => 3

/-- The code of a camera condition. -/
def Condition.code : Condition → Nat
  | .normal => 0
  | .obscured => 1
  | .glare => 2
  | .lowLight => 3

/-- The code of a gear, 3 for UNKNOWN. -/
def gearCode : Option Gear → Nat
  | some .forward => 0
  | some .neutral => 1
  | some .reverse => 2
  | none => 3

/-- The code of an indicator, 3 for UNKNOWN. -/
def indicatorCode : Option Indicator → Nat
  | some .off => 0
  | some .on => 1
  | none => 3

/-- The code of a lift, 3 for UNKNOWN. -/
def liftCode : Option Lift → Nat
  | some .idle => 0
  | some .cycling => 1
  | none => 3

/-- The bytes of a speed, 65535 for UNKNOWN. -/
def speedBytes : Option Nat → List Byte
  | some v => bytes16 (BitVec.ofNat 16 v)
  | none => bytes16 0xFFFF#16

/-- The code of a track state. -/
def TrackState.code : TrackState → Nat
  | .tentative => 0
  | .confirmed => 1
  | .coasting => 2

/-- The code of a best zone, 255 for none. -/
def bestCode : Option (Fin 8) → Nat
  | some z => z.val
  | none => 255

/-- The code of a source mask: bit 0 RANGE, bit 1 MOTION. -/
def SourceMask.code (m : SourceMask) : Nat := (if m.range then 1 else 0) + (if m.motion then 2 else 0)

/-- The code of an operating state. -/
def OpState.code : OpState → Nat
  | .starting => 0
  | .running => 1
  | .service => 2

/-- The code of an arbiter state and phase (10.7). -/
def ArbiterState.code : ArbiterState → Nat
  | .settled => 0
  | .targetHeld => 1
  | .firstFrame => 2
  | .dwell => 3
  | .service => 4

/-- The code of a size class (10.7, 11.2). -/
def SizeClass.code : SizeClass → Nat
  | .a => 0
  | .b => 1
  | .c => 2

/-- The code of a mark's source (9.5). -/
def MarkSource.code : MarkSource → Nat
  | .trigger t => t.val
  | .master .cab => 4
  | .master .body => 5
  | .master .chassis => 6

/-- The value of a response code (10.3). -/
def ResponseCode.code : ResponseCode → Nat
  | .done => 0
  | .doneClamped => 1
  | .notPermitted => 2
  | .wrongState => 3
  | .outOfRange => 4
  | .badFormat => 5
  | .busy => 6
  | .unknownKind => 7

/-- The tile of a map fault (10.7). -/
def FaultTile.code : FaultTile → Nat
  | .even => 0
  | .odd => 1
  | .both => 2

/-- The bit number of a notice kind (10.5). -/
def NoticeKind.index : NoticeKind → Nat
  | .alertRise => 0
  | .alertFall => 1
  | .viewChanged => 2
  | .claimLapsed => 3
  | .cameraLost => 4
  | .cameraBack => 5
  | .cameraMismatch => 6
  | .lensObscured => 7
  | .lensClear => 8
  | .lowLightOn => 9
  | .mapFault => 10
  | .trackOverflow => 11
  | .incidentMarked => 12
  | .vehicleStale => 13
  | .configFallback => 14
  | .serviceEntered => 15

/-- The number of a master, which is also its claim slot (8.1). -/
def masterSlot : Master → Fin 4
  | .cab => 0
  | .body => 1
  | .chassis => 2

/-- The master of a CAN port (10.2). -/
def portMaster : Port → Master
  | .body => .body
  | .chassis => .chassis

/-- The 32 bytes of a map record (4.2). -/
def SampleGeometry.bytes (g : SampleGeometry) : List Byte :=
  bytes16 g.u0 ++ bytes16 g.v0 ++ bytes16 g.dudx ++ bytes16 g.dvdx ++ bytes16 g.dudy ++ bytes16 g.dvdy

/-- The 32 bytes of a map record (4.2). -/
def MapRecord.bytes (r : MapRecord) : List Byte :=
  [r.kind, r.primary, r.secondary, r.fill] ++ r.first.bytes ++ r.second.bytes ++ bytes16 r.w0 ++ bytes16 r.w1

/-- The 16-bit field at byte `i` as it stands. -/
def halfAt (l : List Byte) (i : Nat) : Half := BitVec.ofNat 16 (u16At l i)

/-- The position and steps whose bytes begin at byte `i`. -/
def geometryAt (l : List Byte) (i : Nat) : SampleGeometry :=
  ⟨halfAt l i, halfAt l (i + 2), halfAt l (i + 4), halfAt l (i + 6), halfAt l (i + 8), halfAt l (i + 10)⟩

/-- The map record of 32 bytes (4.2). -/
def recordOfBytes (l : List Byte) : MapRecord :=
  ⟨l.getD 0 0#8, l.getD 1 0#8, l.getD 2 0#8, l.getD 3 0#8, geometryAt l 4, geometryAt l 16, halfAt l 28, halfAt l 30⟩

end Sys2Proof.Machine
end

