-- ==== Sys2Proof/Machine/Ops.lean ====
section
/-! DEFINITION. Operations that every block uses: saturating counters, canonical lists as memory, the age of a millisecond. -/

namespace Sys2Proof.Machine

/-- A 16-bit counter grown by `n`, saturating at 65535 (R32, R167). -/
def satAdd (c : Half) (n : Nat) : Half := BitVec.ofNat 16 (min (c.toNat + n) 65535)

/-! ## Memory: a list of (address, value) in one canonical form, addresses strictly rising and no
value equal to `d`, what an unlisted address reads as. -/

/-- What the address `a` reads as. -/
def sparseRead {α : Type} (d : α) : List (Nat × α) → Nat → α
  | [], _ => d
  | (k, v) :: m, a => if k = a then v else sparseRead d m a

/-- The memory with `v` written at `a`. -/
def sparseWrite {α : Type} [DecidableEq α] (d : α) : List (Nat × α) → Nat → α → List (Nat × α)
  | [], a, v => if v = d then [] else [(a, v)]
  | (k, w) :: m, a, v =>
    if a < k then (if v = d then (k, w) :: m else (a, v) :: (k, w) :: m)
    else if a = k then (if v = d then m else (k, v) :: m)
    else (k, w) :: sparseWrite d m a v

/-- Whether the addresses of a list rise strictly, from address `lo` on. -/
def risingFrom {α : Type} : Nat → List (Nat × α) → Bool
  | _, [] => true
  | lo, (k, _) :: l => decide (lo ≤ k) && risingFrom (k + 1) l

/-- The memory with every entry of a list of rising addresses written, both lists gone through once. -/
def sparseMerge {α : Type} [DecidableEq α] (d : α) : List (Nat × α) → List (Nat × α) → List (Nat × α)
  | m, [] => m
  | m, (a, v) :: l =>
    m.takeWhile (fun p => decide (p.1 < a)) ++ (if v = d then [] else [(a, v)]) ++
      sparseMerge d (m.dropWhile fun p => decide (p.1 ≤ a)) l

/-- The memory with every entry of `l` written, in order. -/
def sparseWriteAll {α : Type} [DecidableEq α] (d : α) (m : List (Nat × α)) (l : List (Nat × α)) : List (Nat × α) :=
  if risingFrom 0 l then sparseMerge d m l else l.foldl (fun m p => sparseWrite d m p.1 p.2) m

/-- The canonical form from address `lo` on. -/
def sparseWfFrom {α : Type} [DecidableEq α] (d : α) : Nat → List (Nat × α) → Bool
  | _, [] => true
  | lo, (k, v) :: m => decide (lo ≤ k) && decide (v ≠ d) && sparseWfFrom d (k + 1) m

/-- The canonical form. -/
def sparseWf {α : Type} [DecidableEq α] (d : α) (m : List (Nat × α)) : Bool := sparseWfFrom d 0 m

/-- What a flash byte and a map area byte that is not listed reads as: erased (log 7). -/
def erased : Byte := 0xFF#8

/-- What a frame memory pixel that is not listed reads as (log 8). -/
def blankPixel : Pixel := ⟨0#8, 0#8, 0#8⟩

/-- Black, what an output store pixel that is not listed reads as (R78, log 9). -/
def blackPixel : Pixel := ⟨16#8, 128#8, 128#8⟩

/-- The number of bytes of the configuration flash (11.2). -/
def flashSize : Nat := 8388608

/-- `n` bytes from address `a` on. -/
def readBytes (m : List Host.Cell) (a n : Nat) : List Byte :=
  (List.range n).map fun i => sparseRead erased m (a + i)

/-! ## Time -/

/-- One millisecond passes (log 1). -/
def tick (s : State) : State := { s with ms := s.ms + 1#32 }

/-- Milliseconds from `since` to `now`, as the counter wraps (log 3). -/
def elapsed (now since : Word) : Nat := (now - since).toNat

/-- Whether the counter has reached the millisecond `at` (log 3). -/
def reached (now target : Word) : Bool := decide ((now - target).toNat < 2147483648)

/-- Whether `limit` milliseconds have passed since the timer's start; a stopped timer is never due. -/
def timerDue (now : Word) (timer : Option Word) (limit : Nat) : Bool :=
  match timer with
  | none => false
  | some since => decide (limit ≤ elapsed now since)

/-! ## Blocks of the state -/

/-- The intake of camera `c` through `f`. -/
def State.mapIntake (s : State) (c : Camera) (f : CameraIntake → CameraIntake) : State :=
  { s with intake := s.intake.set c (f (s.intake.get c)) }

/-- The exposure record of camera `c` through `f`. -/
def State.mapExposure (s : State) (c : Camera) (f : Exposure → Exposure) : State :=
  { s with exposure := s.exposure.set c (f (s.exposure.get c)) }

/-- The arbiter through `f`. -/
def State.mapArbiter (s : State) (f : Arbiter → Arbiter) : State := { s with arbiter := f s.arbiter }

/-- The alert evaluator through `f`. -/
def State.mapAlert (s : State) (f : Alert → Alert) : State := { s with alert := f s.alert }

/-- The tracker through `f`. -/
def State.mapTracker (s : State) (f : Tracker → Tracker) : State := { s with tracker := f s.tracker }

/-- The remap unit through `f`. -/
def State.mapRemap (s : State) (f : Remap → Remap) : State := { s with remap := f s.remap }

/-- The compositor through `f`. -/
def State.mapCompositor (s : State) (f : Compositor → Compositor) : State := { s with compositor := f s.compositor }

/-- The incident unit through `f`. -/
def State.mapIncident (s : State) (f : Incident → Incident) : State := { s with incident := f s.incident }

/-- The port controller through `f`. -/
def State.mapPorts (s : State) (f : Ports → Ports) : State := { s with ports := f s.ports }

/-- The flash through `f`. -/
def State.mapFlash (s : State) (f : Flash → Flash) : State := { s with flash := f s.flash }

/-- The operating state (R171). -/
def State.mode (s : State) : OpState := s.loader.mode

/-- The layout of a number in the layout table (4.1). -/
def findLayout (table : List Layout) (n : Nat) : Option Layout := table.find? fun l => l.number == n

/-- Whether the layout table holds a layout of this number (4.1). -/
def layoutPresent (table : List Layout) (n : Nat) : Bool := (findLayout table n).isSome

/-- The zone of an index, if it is held (7.1). -/
def findZone (zones : List Zone) (z : Nat) : Option Zone := zones.find? fun k => k.index.val == z

end Sys2Proof.Machine
end

