-- ==== Sys2Proof/Machine/Geometry.lean ====
section
/-! DEFINITION. Chapter 1: the ground frame and the placement arithmetic, on exact integers. -/

namespace Sys2Proof.Machine

/-- floor(a/b) (R2). -/
def floorDiv (a b : Int) : Int := Int.fdiv a b

/-- trunc(a/b) (R2). -/
def truncDiv (a b : Int) : Int := Int.tdiv a b

/-- A value clamped to a range (R2). -/
def clampInt (lo hi x : Int) : Int := if x < lo then lo else if hi < x then hi else x

/-- Whether a ground point lies inside the bounds (R1). -/
def inBounds (x y : Int) : Bool :=
  decide (-1000 ≤ x) && decide (x ≤ 3000) && decide (-500 ≤ y) && decide (y ≤ 1500)

/-- X clamped into the bounds (R1). -/
def clampX (x : Int) : Int := clampInt (-1000) 3000 x

/-- Y clamped into the bounds (R1). -/
def clampY (y : Int) : Int := clampInt (-500) 1500 y

/-- Whether a zone's rectangle contains a point (R3). -/
def zoneContains (z : Zone) (x y : Int) : Bool :=
  decide (z.xMin ≤ x) && decide (x ≤ z.xMax) && decide (z.yMin ≤ y) && decide (y ≤ z.yMax)

/-- Ground distance (R4). -/
def groundDistance (x1 y1 x2 y2 : Int) : Nat := (x1 - x2).natAbs + (y1 - y2).natAbs

/-- The sighting of an accepted range reading (R7). -/
def placeRange (k : Sensor) (r : Nat) : Sighting where
  x := clampX (k.mountX + floorDiv (r * k.cx + 2048) 4096)
  y := clampY (k.mountY + floorDiv (r * k.cy + 2048) 4096)
  source := .range

/-- A track's predicted position (R9). -/
def predictTrack (t : Track) : Int × Int := (t.x + truncDiv t.vx 10, t.y + truncDiv t.vy 10)

/-- The rounded mean of `n` coordinates with this sum (R10). -/
def meanCoordinate (sum : Int) (n : Nat) : Int := floorDiv (2 * sum + n) (2 * n)

/-- The smoothed velocity along one axis (R11). -/
def smoothVelocity (v old new : Int) : Int :=
  clampInt (-1000) 1000 (v + truncDiv ((new - old) * 10 - v) 4)

/-- Whether the closing-time rule raises a track at height `y` and velocity `vy` in a zone with
threshold `t` (R12). -/
def closingRaises (t : Nat) (y vy : Int) : Bool :=
  decide (t ≠ 0) && decide (vy < 0) &&
    (decide (y ≤ 0) || decide (truncDiv (y * 1000) (-vy) < t))

/-- The pane pixel of a ground point (R14). -/
def projectGround (p : Pane) (x y : Int) : Int × Int :=
  let c := floorDiv ((y - p.y0) * p.scale + 128) 256
  let r := floorDiv ((x - p.x0) * p.scale + 128) 256
  (if p.mirror then p.width - 1 - c else c, r)

/-- −1 beyond the low edge, 1 beyond the high edge, 0 within `0..size − 1` (R14, R91). -/
def beyond (size : Nat) (v : Int) : Int := if v < 0 then -1 else if (size : Int) - 1 < v then 1 else 0

end Sys2Proof.Machine
end

