-- ==== Sys2Proof/Machine/Flags.lean ====
section
/-! DEFINITION. The computed flags of the part: the warning condition, the pending arms, generator outputs and gates, the warning line. -/

namespace Sys2Proof.Machine

/-- The warning condition (R128). -/
def warningHolds (a : Alert) : Bool := decide (a.warningLevel.code ≤ a.level.code) && !a.silence

/-- Whether camera `c` is a camera fault: not LIVE, or OBSCURED (R96). -/
def cameraFaulty (s : State) (c : Camera) : Bool :=
  decide ((s.intake.get c).link ≠ .live) || decide ((s.exposure.get c).condition = .obscured)

/-- The present value of an arm source (R96). -/
def armValue (s : State) (src : ArmSource) : Bool :=
  match src with
  | .always => true
  | .levelNotice => decide (Level.notice.code ≤ s.alert.level.code)
  | .levelCaution => decide (Level.caution.code ≤ s.alert.level.code)
  | .levelDanger => decide (s.alert.level = .danger)
  | .cameraFault => cameraFaulty s 0 || cameraFaulty s 1 || cameraFaulty s 2 || cameraFaulty s 3
  | .warning => warningHolds s.alert

/-- `g` with its pending arm at its source's present value. -/
def rearmOne (s : State) (g : Generator) : Generator := { g with pending := armValue s g.source }

/-- The generators with the pending arm of those whose source is in `reads` recomputed (R96). Until
the entry to RUNNING nothing is recomputed (R94). -/
def rearm (reads : ArmSource → Bool) (s : State) : State :=
  if s.mode = .starting then s
  else s.mapCompositor fun k =>
    { k with generators := k.generators.map fun g => if reads g.source then rearmOne s g else g }

/-- The arm sources that read S (R96). -/
def readsLevel (src : ArmSource) : Bool :=
  decide (src = .levelNotice) || decide (src = .levelCaution) || decide (src = .levelDanger)

/-- The arm source that reads link states and conditions. -/
def readsCamera (src : ArmSource) : Bool := decide (src = .cameraFault)

/-- The arm source that reads the warning condition. -/
def readsWarning (src : ArmSource) : Bool := decide (src = .warning)

/-- A generator's output (R97). -/
def generatorOutput (g : Generator) : Bool := decide (g.phase = .on) && g.effective

/-- Whether a generator's gate is open (R97). -/
def gateOpen (g : Generator) : Bool := !g.effective || decide (g.phase = .on)

/-- The warning output line (R130). -/
def warningLine (s : State) : Bool :=
  generatorOutput (s.compositor.generators.get s.loaded.warningGenerator)

/-- The winning source: the source of the granted claim, HOME when none is granted (R140). -/
def winningSource (a : Arbiter) : Source :=
  let granted := fun (c : Option Claim) => match c with
    | some k => k.granted
    | none => false
  if granted a.claims.c0 then .cab
  else if granted a.claims.c1 then .body
  else if granted a.claims.c2 then .chassis
  else if granted a.claims.c3 then .alert
  else .home

/-- The vehicle state fields as they read (R118, R119). -/
def vehicleReading (v : Vehicle) : VehicleReading :=
  ⟨v.speed.value, v.gear.value, v.indicator.value, v.lift.value⟩

/-- The live occupancy set: the zones whose live occupancy level is not NONE (R124). -/
def occupancySet (levels : List Level) : ZoneSet :=
  (List.range 8).foldl (fun z i => if levels.getD i .none = .none then z else z ||| (1#8 <<< i)) 0#8

end Sys2Proof.Machine
end

