-- ==== Sys2Proof/Machine/Notices.lean ====
section
/-! DEFINITION. Notices (10.5) and the sending of cab frames (R160). -/

namespace Sys2Proof.Machine

/-- The set that holds one notice kind. -/
def noticeBit (k : NoticeKind) : Half := 1#16 <<< k.index

/-- The NOTICE frame as it stands: the pending-and-enabled set (R160, R169). -/
def noticeFrame (p : Ports) : CabFrame :=
  ⟨0x40#8, 0#8, bytes16 (p.pendingSets.cab &&& p.enable), .unasked⟩

/-- When no frame is being sent, the next waiting frame begins; a NOTICE takes its set now (R160). -/
def beginSending (p : Ports) : Ports :=
  match p.sending, p.waiting with
  | none, .frame f :: rest => { p with sending := some f, waiting := rest }
  | none, .notice :: rest => { p with sending := some (noticeFrame p), waiting := rest }
  | _, _ => p

/-- A frame is produced. At most one NOTICE waits: one produced while another waits takes the waiting
one's place (R160, log 18). -/
def produceCab (w : CabWaiting) (p : Ports) : Ports :=
  if w = .notice ∧ CabWaiting.notice ∈ p.waiting then p
  else beginSending { p with waiting := p.waiting ++ [w] }

/-- Whether the routing table sends the kind to the master (R168). -/
def routedTo (c : PortsConfig) (m : Master) (k : NoticeKind) : Bool := (c.routing.get m).getLsbD k.index

/-- The pending set of a master once the kind is raised (R168). -/
def pendingWith (s : State) (m : Master) (k : NoticeKind) : Half :=
  if routedTo s.loaded.ports m k then s.ports.pendingSets.get m ||| noticeBit k else s.ports.pendingSets.get m

/-- Whether the raised kind produces a NOTICE frame: it enters the cab unit's set and is enabled (R169). -/
def noticeFresh (s : State) (k : NoticeKind) : Bool :=
  routedTo s.loaded.ports .cab k && !(s.ports.pendingSets.cab.getLsbD k.index) && s.ports.enable.getLsbD k.index

/-- A block raises a notice kind (R168, R169). -/
def raiseNotice (k : NoticeKind) (s : State) : State :=
  let sets : PerMaster Half := ⟨pendingWith s .cab k, pendingWith s .body k, pendingWith s .chassis k⟩
  let p := { s.ports with pendingSets := sets }
  { s with ports := if noticeFresh s k then produceCab .notice p else p }

/-- A change of S or of the shown layout owes each port an early broadcast (R170).
DESIGN CHOICE, unsafe (log 27): a STATUS_BROADCAST command sends it, also where 20 ms have already passed. -/
def oweBroadcasts (s : State) : State :=
  s.mapPorts fun p => { p with can := ⟨{ p.can.body with owed := true }, { p.can.chassis with owed := true }⟩ }

end Sys2Proof.Machine
end

