-- ==== Sys2Proof/Machine/Incident.lean ====
section
/-! DEFINITION. Chapter 9: event records, trigger conditions, incident marks and the metadata lines. -/

namespace Sys2Proof.Machine

/-! ## Matching (R150) -/

/-- The kind of an event record. -/
def EventRecord.kind : EventRecord → RecordKind
  | .alert .. => .alert
  | .view .. => .view
  | .vehicle .. => .vehicle
  | .condition .. => .condition

/-- A field test: "any" (254) or the field's code. -/
def fieldPasses (test code : Nat) : Bool := decide (test = 254) || decide (test = code)

/-- The test of the ALERT source mask: "any", or a set the mask includes. -/
def maskPasses (test : Nat) (m : SourceMask) : Bool :=
  decide (test = 254) || ((!test.testBit 0 || m.range) && (!test.testBit 1 || m.motion))

/-- The speed test. -/
def speedPasses (t : SpeedTest) (v : Option Nat) : Bool :=
  match t, v with
  | .any, _ => true
  | .atLeast n, some x => decide (n ≤ x)
  | .atLeast _, none => false
  | .unknown, x => x.isNone

/-- The test of field `i` of a trigger condition. -/
def Trigger.test (t : Trigger) (i : Nat) : Nat := t.tests.getD i 254

/-- Whether a record matches a trigger condition (R150). -/
def recordMatches (t : Trigger) (r : EventRecord) : Bool :=
  t.enabled && decide (t.kind = r.kind) &&
  match r with
  | .alert new old best mask =>
    fieldPasses (t.test 0) new.code && fieldPasses (t.test 1) old.code &&
      fieldPasses (t.test 2) (bestCode best) && maskPasses (t.test 3) mask
  | .view layout winner => fieldPasses (t.test 0) (layoutCode layout) && fieldPasses (t.test 1) winner.code
  | .vehicle v =>
    fieldPasses (t.test 0) (gearCode v.gear) && fieldPasses (t.test 1) (indicatorCode v.indicator) &&
      fieldPasses (t.test 2) (liftCode v.lift) && speedPasses t.speed v.speed
  | .condition c link cond =>
    fieldPasses (t.test 0) c.val && fieldPasses (t.test 1) link.code && fieldPasses (t.test 2) cond.code

/-! ## Marks (R152, R154) -/

/-- The tracks a list holds, in slot order. -/
def heldTracks (l : List (Option Track)) : List Track := l.filterMap id

/-- The track snapshots of a mark: highest stored level first, lowest slot first among equals, at most four. -/
def markTracks (l : List (Option Track)) : List TrackShot :=
  let ts := heldTracks l
  let at' := fun (v : Level) => ts.filter fun t => decide (t.stored = v)
  ((at' .danger ++ at' .caution ++ at' .notice ++ at' .none).take 4).map
    fun t => ⟨t.number, t.state, t.x, t.y, t.stored⟩

/-- The mark that a firing builds, its number apart (R152). -/
def buildMark (src : MarkSource) (s : State) : Mark where
  number := 0#16
  source := src
  frame := s.frame
  ms := s.ms
  level := s.alert.level
  shown := s.arbiter.shown
  vehicle := vehicleReading s.alert.vehicle
  tracks := markTracks s.tracker.tracks
  collected := false
  embedded := false

/-- The first number from `candidate` on that no mark carries (R152); `fuel` bounds the search. -/
def freeMarkNumber (marks : List Mark) : Nat → Half → Half
  | 0, candidate => candidate
  | fuel + 1, candidate =>
    if marks.any fun m => decide (m.number = candidate) then freeMarkNumber marks fuel (candidate + 1#16) else candidate

/-- A list of marks without its oldest collected mark. -/
def dropCollected (marks : List Mark) : List Mark := marks.eraseP Mark.collected

/-- Whether the list takes a new mark (R154). -/
def markFits (marks : List Mark) : Bool := decide (marks.length < 8) || marks.any Mark.collected

/-- The list a new mark joins (R154). -/
def marksBefore (marks : List Mark) : List Mark := if marks.length < 8 then marks else dropCollected marks

/-- A mark joins the list with its number, and INCIDENT_MARKED is raised (R152, R154).
DESIGN CHOICE, unsafe (log 38): the collected mark that it replaces leaves before its number is chosen, so that
mark's number is free again. -/
def joinMark (m : Mark) (s : State) : State :=
  let before := marksBefore s.incident.marks
  let n := freeMarkNumber before (before.length + 1) (s.incident.lastNumber + 1#16)
  raiseNotice .incidentMarked
    (s.mapIncident fun k => { k with marks := before ++ [{ m with number := n }], lastNumber := n })

/-- A mark is dropped and counted (R154). -/
def dropMark (s : State) : State := s.mapIncident fun k => { k with dropped := satAdd k.dropped 1 }

/-- A firing (R152): the mark is built and entered, or dropped. -/
def fireMark (src : MarkSource) (s : State) : State :=
  if markFits s.incident.marks then joinMark (buildMark src s) s else dropMark s

/-! ## Trigger states (R151) -/

/-- Trigger condition `t` takes a state. -/
def setTrigger (t : Fin 4) (x : TriggerState) (s : State) : State :=
  s.mapIncident fun k => { k with triggers := k.triggers.set t x }

/-- The state after a firing: HOLDING, or ARMED at once when the hold-off is 0 (R151). -/
def afterFiring (t : Trigger) : TriggerState := if t.holdOff = 0 then .armed else .holding t.holdOff

/-- Trigger condition `t` fires. -/
def fireTrigger (t : Fin 4) (s : State) : State :=
  setTrigger t (afterFiring (s.loaded.triggers.get t)) (fireMark (.trigger t) s)

/-- A record offered to trigger condition `t` (R151). -/
def offerTo (r : EventRecord) (t : Fin 4) (s : State) : State :=
  let cfg := s.loaded.triggers.get t
  match s.incident.triggers.get t with
  | .armed =>
    if recordMatches cfg r then
      if cfg.delay = 0 then fireTrigger t s else setTrigger t (.delaying cfg.delay) s
    else s
  | .delaying _ => s
  | .holding _ => s

/-- An event record is offered: T0 to T3 in order (R148). While STARTING no record is offered. -/
def offerRecord (r : EventRecord) (s : State) : State :=
  if s.mode = .starting then s
  else offerTo r 3 (offerTo r 2 (offerTo r 1 (offerTo r 0 s)))

/-- Trigger condition `t` at an output frame start (R151). -/
def countTrigger (t : Fin 4) (s : State) : State :=
  match s.incident.triggers.get t with
  | .armed => s
  | .delaying n => if n ≤ 1 then fireTrigger t s else setTrigger t (.delaying (n - 1)) s
  | .holding n => setTrigger t (if n ≤ 1 then .armed else .holding (n - 1)) s

/-- Trigger condition `t` at an output frame start at whose beginning it was in the state `before`: one
that has entered DELAYING or HOLDING at this output frame start is not counted (R151). -/
def countStanding (before : TriggerState) (t : Fin 4) (s : State) : State :=
  if before = .armed then s else countTrigger t s

/-- The trigger conditions at an output frame start, T0 to T3, while RUNNING or in SERVICE (R151);
`before` are their states as the event began. -/
def countTriggers (before : Quad TriggerState) (s : State) : State :=
  if s.mode = .starting then s
  else countStanding before.c3 3 (countStanding before.c2 2 (countStanding before.c1 1 (countStanding before.c0 0 s)))

/-! ## Metadata lines (R156, R157) -/

/-- The four vehicle fields as both lines carry them: speed, gear, indicator, lift. -/
def vehicleBytes (v : VehicleReading) : List Byte :=
  speedBytes v.speed ++ [toByte (gearCode v.gear), toByte (indicatorCode v.indicator), toByte (liftCode v.lift)]

/-- A track entry of line 1. -/
def trackEntryBytes (t : Track) : List Byte :=
  [toByte t.number, toByte t.state.code] ++ bytesInt16 t.x ++ bytesInt16 t.y ++
    [toByte t.stored.code, toByte (bestCode t.best)]

/-- Metadata line 1 from the state as it stands (R156). -/
def lineOne (s : State) : List Byte :=
  let ts := heldTracks s.tracker.tracks
  padTo 1280
    ([1#8, toByte s.mode.code] ++ bytes32 s.frame ++ bytes32 s.ms ++
      [toByte (layoutCode s.arbiter.shown), toByte (winningSource s.arbiter).code, toByte s.alert.level.code,
        flagByte (warningLine s)] ++
      vehicleBytes (vehicleReading s.alert.vehicle) ++ [toByte s.incident.marks.length] ++
      (s.intake.toList.map fun k => toByte k.link.code) ++ (s.exposure.toList.map fun k => toByte k.condition.code) ++
      [toByte ts.length, 0#8, 0#8, 0#8] ++ (ts.map trackEntryBytes).flatten)

/-- A track snapshot of line 2. -/
def trackShotBytes (t : TrackShot) : List Byte :=
  [toByte t.number, toByte t.state.code] ++ bytesInt16 t.x ++ bytesInt16 t.y ++ [toByte t.stored.code]

/-- The fields of a mark as line 2 bytes 2 on; `flag` is what byte 15 carries (9.5, 10.7). -/
def markBytes (m : Mark) (flag : Bool) : List Byte :=
  bytes16 m.number ++ [toByte m.source.code, toByte m.level.code] ++ bytes32 m.frame ++ bytes32 m.ms ++
    [toByte (layoutCode m.shown), flagByte flag] ++ vehicleBytes m.vehicle ++ [toByte m.tracks.length] ++
    (m.tracks.map trackShotBytes).flatten

/-- The first mark of a list that `p` holds of gets `f`; the others stay. -/
def mapFirst (p : Mark → Bool) (f : Mark → Mark) : List Mark → List Mark
  | [] => []
  | m :: l => if p m then f m :: l else m :: mapFirst p f l

/-- Metadata line 2 (R157): the oldest mark that is not embedded, or the empty marker. -/
def lineTwo (marks : List Mark) : List Byte :=
  match marks.find? fun m => !m.embedded with
  | some m => padTo 1280 ([2#8, 1#8] ++ markBytes m m.collected)
  | none => padTo 1280 [2#8, 0#8]

/-- Line 2 is chosen and the mark written into it is embedded (R157). -/
def embedMark (s : State) : State :=
  (s.mapCompositor fun k => { k with line2 := lineTwo s.incident.marks }).mapIncident fun k =>
    { k with marks := mapFirst (fun m => !m.embedded) (fun m => { m with embedded := true }) k.marks }

end Sys2Proof.Machine
end

