-- ==== Sys2Proof/Machine/Intake.lean ====
section
/-! DEFINITION. Chapter 2: camera links, frame headers, the three slots of each camera and the gain back channel. -/

namespace Sys2Proof.Machine

/-! ## Leaving and entering LIVE -/

/-- The motion cells of a camera at the event at which its link leaves LIVE (R100). -/
def resetCells (c : Camera) (m : Motion) : Motion where
  cells := m.cells.map fun k => if k.camera = c then { k with previous := none, streak := 0, active := false } else k
  lastGain := m.lastGain.set c none

/-- A notice of the intake: none is raised while STARTING (R24). -/
def intakeNotice (k : NoticeKind) (s : State) : State := if s.mode = .starting then s else raiseNotice k s

/-- The link of camera `c` takes the state `l` from another: the CONDITION record of R24 and the
pending arms of R96. -/
def moveLink (c : Camera) (l : LinkState) (s : State) : State :=
  if (s.intake.get c).link = l then s
  else
    let s1 := s.mapIntake c fun k => { k with link := l }
    offerRecord (.condition c l (s.exposure.get c).condition) (rearm readsCamera s1)

/-- The link leaves LIVE for `l`: the cells are reset, the stall timer stops, the lost timer starts
and CAMERA_LOST is raised (R19, R21, R22, R23, R100).
DESIGN CHOICE, unsafe (log 36): the CONDITION record is offered before the notice is raised. -/
def leaveLive (c : Camera) (l : LinkState) (s : State) : State :=
  let s1 := s.mapIntake c fun k => { k with stall := none, lost := .running s.ms }
  let s2 := { s1 with motion := resetCells c s1.motion }
  intakeNotice .cameraLost (moveLink c l s2)

/-- The link enters LIVE: the stall timer starts, the lost timer stops and CAMERA_BACK is raised
(R20, R22, R23).
DESIGN CHOICE, unsafe (log 36): the CONDITION record is offered before the notice is raised. -/
def enterLive (c : Camera) (s : State) : State :=
  let s1 := s.mapIntake c fun k => { k with stall := some s.ms, lost := .stopped }
  intakeNotice .cameraBack (moveLink c .live s1)

/-! ## Slots (R26, R27) -/

/-- The number of the slot that is FILLING. -/
def fillingSlot (q : Trio FrameSlot) : Option (Fin 3) :=
  if q.s0.state = .filling then some 0
  else if q.s1.state = .filling then some 1
  else if q.s2.state = .filling then some 2
  else none

/-- The number of the slot that is READING. -/
def readingSlot (q : Trio FrameSlot) : Option (Fin 3) :=
  if q.s0.state = .reading then some 0
  else if q.s1.state = .reading then some 1
  else if q.s2.state = .reading then some 2
  else none

/-- The lowest-numbered FREE slot. -/
def freeSlot (q : Trio FrameSlot) : Option (Fin 3) :=
  if q.s0.state = .free then some 0
  else if q.s1.state = .free then some 1
  else if q.s2.state = .free then some 2
  else none

/-- The age of a slot's frame (log 16). -/
def slotAge (now : Word) (t : FrameSlot) : Nat := elapsed now t.doneMs

/-- The READY slot with the oldest completion millisecond; the lowest-numbered among equals (log 16). -/
def oldestReady (now : Word) (q : Trio FrameSlot) : Option (Fin 3) :=
  ([0, 1, 2] : List (Fin 3)).foldl (fun best i =>
    if (q.get i).state = .ready then
      match best with
      | none => some i
      | some j => if slotAge now (q.get j) < slotAge now (q.get i) then some i else some j
    else best) none

/-- The READY slot with the newest completion millisecond; the lowest-numbered among equals (log 16). -/
def newestReady (now : Word) (q : Trio FrameSlot) : Option (Fin 3) :=
  ([0, 1, 2] : List (Fin 3)).foldl (fun best i =>
    if (q.get i).state = .ready then
      match best with
      | none => some i
      | some j => if slotAge now (q.get i) < slotAge now (q.get j) then some i else some j
    else best) none

/-- The FILLING slot becomes FREE. -/
def freeFilling (k : CameraIntake) : CameraIntake :=
  match fillingSlot k.slots with
  | none => k
  | some i => { k with slots := k.slots.set i { k.slots.get i with state := .free } }

/-- A FILLING frame is torn: its slot is freed and the torn counter grows (R27). -/
def tearFrame (k : CameraIntake) : CameraIntake :=
  match fillingSlot k.slots with
  | none => k
  | some _ => { freeFilling k with torn := satAdd k.torn 1 }

/-- The writer takes a slot for a new frame (R26): the lowest FREE one, or the oldest READY one, whose
frame counts as dropped while the camera is in use. -/
def takeSlot (now : Word) (k : CameraIntake) : CameraIntake :=
  match freeSlot k.slots with
  | some i => { k with slots := k.slots.set i { k.slots.get i with state := .filling } }
  | none =>
    match oldestReady now k.slots with
    | some i =>
      { k with
        slots := k.slots.set i { k.slots.get i with state := .filling }
        dropped := if k.inUse then satAdd k.dropped 1 else k.dropped }
    | none => k

/-! ## The gain back channel (R31) -/

/-- A gain command waiting in the send buffer is sent. -/
def sendCommand (k : CameraIntake) : CameraIntake :=
  match k.sendBuffer with
  | none => k
  | some g => { k with sendBuffer := none, sentGain := some g }

/-- The exposure unit's command is placed in the send buffer and sent at once unless the link is DOWN. -/
def placeCommand (g : Gain) (k : CameraIntake) : CameraIntake :=
  let k1 := { k with sendBuffer := some g }
  if k.link = .down then k1 else sendCommand k1

/-! ## Headers (R20, R21, R25) -/

/-- The gap of a sequence against the baseline (R25). -/
def sequenceGap (baseline sequence : Half) : Nat := (sequence - (baseline + 1#16)).toNat

/-- The dropped counter after a sequence check (R25). -/
def checkSequence (k : CameraIntake) (sequence : Half) : Half :=
  match k.header with
  | none => k.dropped
  | some h =>
    let gap := sequenceGap h.sequence sequence
    if 1 ≤ gap ∧ gap ≤ 32767 then satAdd k.dropped gap else k.dropped

/-- The accepted header: its gain goes into the FILLING slot's record, it becomes the last accepted
header, and a mismatch episode ends (R20, R21). -/
def recordHeader (h : Header) (k : CameraIntake) : CameraIntake :=
  let k1 := { k with header := some h, episode := false }
  match fillingSlot k.slots with
  | none => k1
  | some i => { k1 with slots := k.slots.set i { k.slots.get i with gain := h.gain } }

/-- A header with the right camera number (R20). -/
def acceptHeader (c : Camera) (h : Header) (s : State) : State :=
  let k := s.intake.get c
  match k.link with
  | .down => s
  | .search => enterLive c (s.mapIntake c (recordHeader h))
  | .live => s.mapIntake c fun k => recordHeader h { k with dropped := checkSequence k h.sequence }
  | .stalled => s.mapIntake c fun k => recordHeader h { k with dropped := checkSequence k h.sequence }

/-- A header with a wrong camera number (R21).
DESIGN CHOICE, unsafe (log 36): the CONDITION record of the link's move comes first, then CAMERA_LOST, then CAMERA_MISMATCH. -/
def mismatchHeader (c : Camera) (s : State) : State :=
  let k := s.intake.get c
  let s1 := s.mapIntake c fun k => { freeFilling k with mismatch := satAdd k.mismatch 1, episode := true }
  let s2 := match k.link with
    | .live => leaveLive c .search s1
    | .stalled => moveLink c .search s1
    | .search => s1
    | .down => s1
  if k.episode then s2 else intakeNotice .cameraMismatch s2

/-! ## The slot rule (R30) -/

/-- A slot of a camera in use at an output frame start, `i` being the one that becomes READING. -/
def slotRuleAt (i j : Fin 3) (t : FrameSlot) : FrameSlot :=
  if j = i then { t with state := .reading }
  else match t.state with
    | .reading => { t with state := .free }
    | .ready => { t with state := .free }
    | .free => t
    | .filling => t

/-- The number of READY slots. -/
def readyCount (q : Trio FrameSlot) : Nat := (q.toList.filter fun t => decide (t.state = .ready)).length

/-- The slot rule for one camera, `use` saying whether it is in use for the frame then beginning (R30). -/
def slotRule (now : Word) (use : Bool) (k : CameraIntake) : CameraIntake :=
  if use then
    match newestReady now k.slots with
    | none => { k with inUse := true }
    | some i =>
      { k with
        slots := ⟨slotRuleAt i 0 k.slots.s0, slotRuleAt i 1 k.slots.s1, slotRuleAt i 2 k.slots.s2⟩
        dropped := if k.inUse then satAdd k.dropped (readyCount k.slots - 1) else k.dropped
        inUse := true }
  else { k with inUse := false }

end Sys2Proof.Machine
end

