-- ==== Sys2Proof/Machine/Exposure.lean ====
section
/-! DEFINITION. Chapter 3: the statistics of a frame, the gain update, the watch sets and the camera condition. -/

namespace Sys2Proof.Machine

/-! ## Statistics (R36 to R38) -/

/-- The luma of a source pixel. -/
def lumaAt (picture : List (Nat × Pixel)) (u v : Nat) : Nat :=
  (sparseRead blankPixel picture (v * 1280 + u)).y.toNat

/-- The sum of a list. -/
def sumNat (l : List Nat) : Nat := l.foldl (· + ·) 0

/-- The luma sum of a block of `n` by `n` pixels. -/
def blockSum (picture : List (Nat × Pixel)) (u v n : Nat) : Nat :=
  sumNat ((List.range n).map fun j => sumNat ((List.range n).map fun i => lumaAt picture (u + i) (v + j)))

/-- The mean of a 16 × 16 window (R36). -/
def windowMean (picture : List (Nat × Pixel)) (u v : Nat) : Nat := blockSum picture u v 16 / 256

/-- The gradient sum of a window (R38). -/
def gradientSum (picture : List (Nat × Pixel)) (u v : Nat) : Nat :=
  sumNat ((List.range 16).map fun j => sumNat ((List.range 15).map fun i =>
    ((lumaAt picture (u + i + 1) (v + j) : Int) - lumaAt picture (u + i) (v + j)).natAbs))

/-- The pixels of a window with luma 250 or more (R38). -/
def clipCount (picture : List (Nat × Pixel)) (u v : Nat) : Nat :=
  sumNat ((List.range 16).map fun j => sumNat ((List.range 16).map fun i =>
    if 250 ≤ lumaAt picture (u + i) (v + j) then 1 else 0))

/-- A metering window: its origin and its weight. -/
structure Window where
  u : Nat
  v : Nat
  weight : Nat
  deriving DecidableEq, Repr

/-- The whole-frame grid of R37. -/
def gridWindows : List Window :=
  ((List.range 10).map fun j => (List.range 16).map fun i => Window.mk (80 * i + 32) (80 * j + 32) 1).flatten

/-- Whether a ground point lies in an active zone (R3, R36). -/
def inActiveZone (zones : List Zone) (activity : ZoneSet) (x y : Int) : Bool :=
  zones.any fun z => activity.getLsbD z.index.val && zoneContains z x y

/-- The window of a cell, weight 2 when its ground centre lies in an active zone (R36). -/
def cellWindow (zones : List Zone) (activity : ZoneSet) (k : MotionCell) : Window :=
  ⟨k.u, k.v, if inActiveZone zones activity k.x k.y then 2 else 1⟩

/-- The cells of a camera, in index order. -/
def cellsOf (c : Camera) (m : Motion) : List MotionCell := m.cells.filter fun k => decide (k.camera = c)

/-- The metering windows of a camera: its cells', or the grid (R36, R37). -/
def meteringWindows (zones : List Zone) (activity : ZoneSet) (cells : List MotionCell) : List Window :=
  match cells with
  | [] => gridWindows
  | _ => cells.map (cellWindow zones activity)

/-- The metering mean M (R36). -/
def meterMean (picture : List (Nat × Pixel)) (ws : List Window) : Nat :=
  let total := sumNat (ws.map Window.weight)
  (sumNat (ws.map fun w => w.weight * windowMean picture w.u w.v) + total / 2) / total

/-- The sharpness S (R38). -/
def meterSharpness (picture : List (Nat × Pixel)) (ws : List Window) : Nat :=
  (sumNat (ws.map fun w => gradientSum picture w.u w.v / 240) + ws.length / 2) / ws.length

/-- The high clip H (R38). -/
def meterClip (picture : List (Nat × Pixel)) (ws : List Window) : Nat :=
  256 * sumNat (ws.map fun w => clipCount picture w.u w.v) / (256 * ws.length)

/-- The three statistics of a frame. -/
def frameStats (picture : List (Nat × Pixel)) (ws : List Window) : Stats :=
  ⟨meterMean picture ws, meterSharpness picture ws, meterClip picture ws⟩

/-! ## The command check: stage 2 of R35 -/

/-- What stage 2 leaves: the record, and whether stage 3 makes its update. -/
structure CommandCheck where
  record : Exposure
  update : Bool
  deriving DecidableEq, Repr

/-- Stage 2 of R35 (R41, R42, R43). -/
def checkCommand (applied : Gain) (e : Exposure) : CommandCheck :=
  match e.inFlight with
  | none => ⟨{ e with gain := applied }, true⟩
  | some k =>
    if k.index = applied then ⟨{ e with inFlight := none }, true⟩
    else if k.waits + 1 < 6 then ⟨{ e with inFlight := some { k with waits := k.waits + 1 } }, false⟩
    else ⟨{ e with inFlight := none, gain := applied, gainMismatch := satAdd e.gainMismatch 1 }, false⟩

/-! ## The gain update: stage 3 of R35 -/

/-- The exposure target (step 1 of R39). -/
def exposureTarget (configured : Nat) (c : Condition) : Int :=
  clampInt 16 235 (match c with
    | .glare => (configured : Int) - 24
    | .lowLight => (configured : Int) + 16
    | .normal => configured
    | .obscured => configured)

/-- The step of the gain index (steps 2 and 3 of R39). -/
def gainStep (target : Int) (m : Nat) : Int := clampInt (-4) 4 (truncDiv (target - m) 8)

/-- The limit balance after an update whose unclamped index is `g` (R40). -/
def moveBalance (balance g : Int) : Int :=
  if 63 < g then (if balance < 127 then balance + 1 else balance)
  else if g < 0 then (if -127 < balance then balance - 1 else balance)
  else if 0 < balance then balance - 1
  else if balance < 0 then balance + 1
  else balance

/-- The gain index that stage 3 wants (step 4 of R39). -/
def wantedGain (e : Exposure) (step : Int) : Gain := Fin.ofNat 64 (clampInt 0 63 ((e.gain.val : Int) + step)).toNat

/-- Stage 3 of R35 on the exposure record (R39, R40, R41); `condition` is the one at the start of the handover. -/
def updateGain (configured m : Nat) (condition : Condition) (e : Exposure) : Exposure :=
  let step := gainStep (exposureTarget configured condition) m
  let g := wantedGain e step
  let b := moveBalance e.balance ((e.gain.val : Int) + step)
  if g = e.gain then { e with balance := b }
  else { e with gain := g, balance := b, inFlight := some ⟨g, 0⟩ }

/-! ## The watch sets: stage 4 of R35 -/

/-- The quantity of a watch set (R45). -/
def watchQuantity (q : Quantity) (stats : Stats) (balance : Int) : Int :=
  match q with
  | .mean => stats.m
  | .sharp => stats.s
  | .highClip => stats.h
  | .limit => balance

/-- The entry test (R45). -/
def entryTest (w : WatchSet) (q : Int) : Bool :=
  match w.direction with
  | .above => decide (w.threshold < q)
  | .below => decide (q < w.threshold)

/-- The release test (R45). -/
def releaseTest (w : WatchSet) (q : Int) : Bool :=
  match w.direction with
  | .above => decide (q < w.threshold - w.margin)
  | .below => decide (w.threshold + w.margin < q)

/-- One watch set at a handover (R47). -/
def moveWatch (w : WatchSet) (q : Int) (x : WatchState) : WatchState :=
  match x with
  | .clear => if entryTest w q then (if w.persistence = 1 then .asserted else .entering 1) else .clear
  | .entering n =>
    if entryTest w q then (if n + 1 = w.persistence then .asserted else .entering (n + 1)) else .clear
  | .asserted => if releaseTest w q then (if w.persistence = 1 then .clear else .leaving 1) else .asserted
  | .leaving n =>
    if releaseTest w q then (if n + 1 = w.persistence then .clear else .leaving (n + 1)) else .asserted

/-- Stage 4 of R35: each enabled watch set moves; a disabled one is not evaluated. -/
def moveWatches (sets : Quad WatchSet) (stats : Stats) (balance : Int) (x : Quad WatchState) : Quad WatchState :=
  x.mapIdx fun i w =>
    let k := sets.get i
    if k.enabled then moveWatch k (watchQuantity k.quantity stats balance) w else w

/-! ## The camera condition: stage 5 of R35 -/

/-- Whether a watch set counts as asserted (R49). -/
def watchAsserted (x : WatchState) : Bool :=
  match x with
  | .asserted => true
  | .leaving _ => true
  | .clear => false
  | .entering _ => false

/-- The camera condition of the watch states (R49). -/
def conditionOf (sets : Quad WatchSet) (x : Quad WatchState) : Condition :=
  if watchAsserted x.c0 then sets.c0.action
  else if watchAsserted x.c1 then sets.c1.action
  else if watchAsserted x.c2 then sets.c2.action
  else if watchAsserted x.c3 then sets.c3.action
  else .normal

/-- Raise a notice when a condition on the change holds. -/
def raiseIf (b : Bool) (k : NoticeKind) (s : State) : State := if b then raiseNotice k s else s

/-- The notices of a change of condition (R50).
DESIGN CHOICE, unsafe (log 36): from OBSCURED to LOW_LIGHT, LENS_CLEAR is raised before LOW_LIGHT_ON. -/
def conditionNotices (old new : Condition) (s : State) : State :=
  raiseIf (decide (old ≠ .lowLight ∧ new = .lowLight)) .lowLightOn
    (raiseIf (decide (old = .obscured ∧ new ≠ .obscured)) .lensClear
      (raiseIf (decide (old ≠ .obscured ∧ new = .obscured)) .lensObscured s))

/-- Stage 5 of R35: the condition is recomputed; a change raises its notices, recomputes the pending
arms and offers a CONDITION record (R50, R96).
DESIGN CHOICE, unsafe (log 36): the notices are raised before the record is offered. -/
def recomputeCondition (c : Camera) (s : State) : State :=
  let e := s.exposure.get c
  let new := conditionOf s.loaded.watchSets e.watch
  if new = e.condition then s
  else
    let s1 := rearm readsCamera (s.mapExposure c fun e => { e with condition := new })
    let s2 := conditionNotices e.condition new s1
    offerRecord (.condition c (s2.intake.get c).link new) s2

/-- The exposure record of a camera after stages 1 to 4 of R35. -/
def exposeFrame (s : State) (c : Camera) (applied : Gain) (stats : Stats) : Exposure :=
  let e := s.exposure.get c
  let k := checkCommand applied { e with stats := some stats }
  let e1 := if k.update then updateGain (s.loaded.targets.get c) stats.m e.condition k.record else k.record
  { e1 with watch := moveWatches s.loaded.watchSets stats e1.balance e1.watch }

/-- Whether stage 3 issued a gain command at this handover (R41). -/
def commandIssued (applied : Gain) (e0 e1 : Exposure) : Bool :=
  (checkCommand applied e0).update && e1.inFlight.isSome

/-- The exposure unit at a handover (R35): the five stages, the gain command going to the intake in
stage 3 (R31). -/
def exposureHandover (c : Camera) (applied : Gain) (stats : Stats) (s : State) : State :=
  let e0 := s.exposure.get c
  let e1 := exposeFrame s c applied stats
  let s1 := s.mapExposure c fun _ => e1
  let s2 := if commandIssued applied e0 e1 then s1.mapIntake c (placeCommand e1.gain) else s1
  recomputeCondition c s2

end Sys2Proof.Machine
end

