-- ==== Sys2Proof/Machine/Motion.lean ====
section
/-! DEFINITION. Chapter 6, first part: range reports, motion cells and the sighting queue, and the frame-complete handover of R29. -/

namespace Sys2Proof.Machine

/-! ## The sighting queue (R104) -/

/-- A sighting joins the queue; a full queue first loses its oldest, which is counted (R104). -/
def joinQueue (g : Sighting) (t : Tracker) : Tracker :=
  if 48 ≤ t.queue.length then
    { t with queue := t.queue.drop 1 ++ [g], discarded := satAdd t.discarded 1 }
  else { t with queue := t.queue ++ [g] }

/-- Sightings join the queue in order. -/
def joinAll (gs : List Sighting) (t : Tracker) : Tracker := gs.foldl (fun t g => joinQueue g t) t

/-! ## Range reports (R98) -/

/-- The record of a configured sensor number. -/
def findSensor (sensors : List Sensor) (n : Nat) : Option Sensor := sensors.find? fun k => k.number == n

/-- One reading of a RANGE_REPORT (R98). -/
def takeReading (sensors : List Sensor) (v : Nat) (t : Tracker) : Tracker :=
  let r := v % 1024
  match findSensor sensors (v / 1024) with
  | none => { t with unknownSensors := satAdd t.unknownSensors 1 }
  | some k =>
    if k.enabled then
      if r = 0 ∨ k.maxRange < r then t else joinQueue (placeRange k (max r 20)) t
    else { t with unknownSensors := satAdd t.unknownSensors 1 }

/-- The reading values of a message whose bytes after the kind byte are `data` (10.7). -/
def reportReadings (data : List Byte) : List Nat :=
  (List.range (byteAt data 0)).map fun k => u16At data (1 + 2 * k)

/-- Whether a RANGE_REPORT is well formed: 1 to 3 readings, and the length that they give (R98, 10.7). -/
def reportWellFormed (data : List Byte) : Bool :=
  decide (1 ≤ byteAt data 0) && decide (byteAt data 0 ≤ 3) && decide (data.length = 1 + 2 * byteAt data 0)

/-- The readings of a report taken in order. -/
def takeReadings (sensors : List Sensor) (l : List Nat) (t : Tracker) : Tracker :=
  l.foldl (fun t v => takeReading sensors v t) t

/-! ## Motion cells (R101 to R103) -/

/-- The sixteen sub-block means of a window, sub-block (a, b) at index 4b + a (6.2). -/
def subBlockMeans (picture : List (Nat × Pixel)) (k : MotionCell) : List Nat :=
  (List.range 16).map fun i => blockSum picture (k.u + 4 * (i % 4)) (k.v + 4 * (i / 4)) 4 / 16

/-- The score of means against previous means (R102). -/
def cellScore (now previous : List Nat) : Nat :=
  sumNat ((now.zip previous).map fun p => ((p.1 : Int) - p.2).natAbs)

/-- The effective threshold under the condition in force before the handover (R102). -/
def effectiveThreshold (condition : Condition) (threshold : Nat) : Nat :=
  if condition = .lowLight then min (2 * threshold) 4080 else threshold

/-- A cell scored at a handover (R102). -/
def scoreCell (picture : List (Nat × Pixel)) (condition : Condition) (k : MotionCell) : MotionCell :=
  let now := subBlockMeans picture k
  let score := cellScore now (k.previous.getD [])
  let streak := if effectiveThreshold condition k.threshold ≤ score then min (k.streak + 1) 2 else 0
  { k with previous := some now, score := score, streak := streak, active := decide (streak = 2) }

/-- A cell at a reference or gain-change frame (R101). -/
def referenceCell (picture : List (Nat × Pixel)) (k : MotionCell) : MotionCell :=
  { k with previous := some (subBlockMeans picture k) }

/-- A cell joins a list ordered by score, highest first, behind those of equal score. -/
def insertByScore (k : MotionCell) : List MotionCell → List MotionCell
  | [] => [k]
  | x :: l => if x.score < k.score then k :: x :: l else x :: insertByScore k l

/-- The active cells that post: the four of highest score, the lower index first among equals (R103). -/
def postingCells (cells : List MotionCell) : List MotionCell :=
  ((cells.filter MotionCell.active).foldl (fun l k => insertByScore k l) []).take 4

/-- The sighting a posting cell gives (R8, R103). -/
def cellSighting (k : MotionCell) : Sighting := ⟨k.x, k.y, .motion⟩

/-- Whether a handover of camera `c` is scored: neither a reference nor a gain-change frame (R101). -/
def handoverScored (c : Camera) (applied : Gain) (m : Motion) : Bool :=
  decide (m.lastGain.get c = some applied) && (cellsOf c m).all fun k => k.previous.isSome

/-- The motion cells of camera `c` at a handover (R101 to R103); `condition` is the one in force before it. -/
def motionHandover (c : Camera) (applied : Gain) (picture : List (Nat × Pixel)) (condition : Condition) (s : State) : State :=
  let scored := handoverScored c applied s.motion
  let step := if scored then scoreCell picture condition else referenceCell picture
  let cells := s.motion.cells.map fun k => if k.camera = c then step k else k
  let m : Motion := ⟨cells, s.motion.lastGain.set c (some applied)⟩
  let posts := if scored ∧ condition ≠ .obscured then (postingCells (cellsOf c m)).map cellSighting else []
  { s with motion := m, tracker := joinAll posts s.tracker }

/-! ## The handover (R29) -/

/-- The frame-complete handover of camera `c` (R29): the exposure unit, then the motion cells, which
use the condition in force before it (R51). No frame is handed over while STARTING. -/
def handOver (c : Camera) (applied : Gain) (picture : List (Nat × Pixel)) (s : State) : State :=
  if s.mode = .starting then s
  else
    let ws := meteringWindows s.loaded.zones s.alert.activity (cellsOf c s.motion)
    let condition := (s.exposure.get c).condition
    motionHandover c applied picture condition (exposureHandover c applied (frameStats picture ws) s)

/-- The pixels of a completed frame as frame memory holds them: those inside 1280 × 800 (log 8). -/
def framePicture (pixels : List (Nat × Pixel)) : List (Nat × Pixel) :=
  sparseWriteAll blankPixel [] (pixels.filter fun p => decide (p.1 < 1024000))

/-- The FILLING slot `i` becomes READY with its picture and completion millisecond (R28). -/
def completeSlot (now : Word) (picture : List (Nat × Pixel)) (i : Fin 3) (k : CameraIntake) : CameraIntake :=
  { k with slots := k.slots.set i { k.slots.get i with state := .ready, doneMs := now, picture := picture } }

end Sys2Proof.Machine
end

