-- ==== Sys2Proof/Machine/LinkCommands.lean ====
section
/-! DEFINITION. The commands of the camera links (chapter 2). -/

namespace Sys2Proof.Machine

/-- The link after a loss of lock: the frame is torn, and from LIVE the camera is lost (R19, R27). -/
def loseLock (c : Camera) (s : State) : State :=
  let s1 := s.mapIntake c fun k => { tearFrame k with lock := false }
  if (s.intake.get c).link = .live then leaveLive c .down s1
  else moveLink c .down (s1.mapIntake c fun k => { k with stall := none })

/-- LOCK_LOST (R19). -/
def execLockLost (c : Camera) (s : State) : Host.Outcome State Fault Refusal := .next (loseLock c s)

/-- The link at lock gained: a link in DOWN goes to SEARCH, and a waiting gain command is sent (R19, R31). -/
def gainLock (c : Camera) (s : State) : State :=
  let s1 := s.mapIntake c fun k => sendCommand { k with lock := true }
  if (s.intake.get c).link = .down then moveLink c .search s1 else s1

/-- LOCK_GAINED (R19). -/
def execLockGained (c : Camera) (s : State) : Host.Outcome State Fault Refusal := .next (gainLock c s)

/-- A camera frame start: a FILLING frame is torn and a slot is taken, unless the link is DOWN (R26, R27). -/
def startCameraFrame (c : Camera) (s : State) : State :=
  if (s.intake.get c).link = .down then s else s.mapIntake c fun k => takeSlot s.ms (tearFrame k)

/-- CAMERA_FRAME_START (R26). -/
def execCameraFrameStart (c : Camera) (s : State) : Host.Outcome State Fault Refusal := .next (startCameraFrame c s)

/-- A header arrives: accepted when its camera number is the link's, a mismatch otherwise; a link that
is DOWN receives none (R20, R21, log 17). -/
def takeHeader (c : Camera) (h : Header) (s : State) : State :=
  if (s.intake.get c).link = .down then s
  else if h.number.toNat = c.val then acceptHeader c h s
  else mismatchHeader c s

/-- HEADER_ARRIVAL (R20, R21). -/
def execHeaderArrival (c : Camera) (number : BitVec 4) (sequence : Half) (gain : Gain) (s : State) :
    Host.Outcome State Fault Refusal := .next (takeHeader c ⟨number, sequence, gain⟩ s)

/-- The frame in slot `i` is complete (R28, R22, R29, log 17). -/
def completeFrame (c : Camera) (i : Fin 3) (picture : List (Nat × Pixel)) (s : State) : State :=
  let gain := ((s.intake.get c).slots.get i).gain
  let s1 := s.mapIntake c (completeSlot s.ms picture i)
  match (s.intake.get c).link with
  | .live => handOver c gain picture (s1.mapIntake c fun k => { k with stall := some s.ms })
  | .stalled => handOver c gain picture (enterLive c s1)
  | .search => s1
  | .down => s

/-- FRAME_COMPLETION (R28). A camera with no FILLING slot completes no frame. -/
def execFrameCompletion (c : Camera) (pixels : List (Nat × Pixel)) (s : State) : Host.Outcome State Fault Refusal :=
  match fillingSlot (s.intake.get c).slots with
  | some i => .next (completeFrame c i (framePicture pixels) s)
  | none => .next s

/-- STALL_TIMER_EXPIRY (R22), once 100 ms have passed since the timer's start. -/
def execStallTimerExpiry (c : Camera) (s : State) : Host.Outcome State Fault Refusal :=
  if (s.intake.get c).link = .live ∧ timerDue s.ms (s.intake.get c).stall 100 = true then
    .next (leaveLive c .stalled s)
  else .next s

/-- Whether a lost timer has run for 3000 ms (R23). -/
def lostDue (now : Word) (t : LostTimer) : Bool :=
  match t with
  | .running since => timerDue now (some since) 3000
  | .stopped => false
  | .expired => false

/-- LOST_TIMER_EXPIRY (R23). -/
def execLostTimerExpiry (c : Camera) (s : State) : Host.Outcome State Fault Refusal :=
  if lostDue s.ms (s.intake.get c).lost then .next (s.mapIntake c fun k => { k with lost := .expired }) else .next s

end Sys2Proof.Machine
end

