-- ==== Sys2Proof/Machine/Arbiter.lean ====
section
/-! DEFINITION. Chapter 8: the claim table, the winner, decisions, adoption, the first-frame report and the dwell. -/

namespace Sys2Proof.Machine

/-! ## The winner (R139) -/

/-- The winner of a decision: the layout, its source, and its level (the home layout has none). -/
structure Winner where
  layout : Nat
  source : Source
  level : Option Nat
  deriving DecidableEq, Repr

/-- The claims held, with their sources, in source order. -/
def heldClaims (a : Arbiter) : List (Source × Claim) :=
  ([(.cab, a.claims.c0), (.body, a.claims.c1), (.chassis, a.claims.c2), (.alert, a.claims.c3)] :
    List (Source × Option Claim)).filterMap fun p => p.2.map fun c => (p.1, c)

/-- The highest level of a list of claims. -/
def topLevel (l : List (Source × Claim)) : Nat := l.foldl (fun n p => max n p.2.level) 0

/-- The winner (R139): the highest level, then the granted claim, then the lowest source; the home
layout when no claim is held. -/
def winner (a : Arbiter) : Winner :=
  let held := heldClaims a
  let top := held.filter fun p => decide (p.2.level = topLevel held)
  match top.find? fun p => p.2.granted with
  | some p => ⟨p.2.layout, p.1, some p.2.level⟩
  | none =>
    match top with
    | p :: _ => ⟨p.2.layout, p.1, some p.2.level⟩
    | [] => ⟨a.home, .home, none⟩

/-! ## Granting (R140) -/

/-- The claim slot of a source; HOME has none. -/
def Source.slot : Source → Option (Fin 4)
  | .cab => some 0
  | .body => some 1
  | .chassis => some 2
  | .alert => some 3
  | .home => none

/-- The claim of the source becomes granted and every other claim's flag is cleared (R140). -/
def grantSource (src : Source) (a : Arbiter) : Arbiter :=
  { a with claims := a.claims.mapIdx fun i c => c.map fun k => { k with granted := decide (src.slot = some i) } }

/-! ## Decisions (R142) -/

/-- The arbiter takes a switch target (TARGET_HELD). -/
def holdTarget (w : Winner) (a : Arbiter) : Arbiter :=
  { a with state := .targetHeld, target := some ⟨.stored w.layout, w.source⟩, dwell := 0 }

/-- Whether a winner breaks into a dwell or a first frame. -/
def breaksIn (w : Winner) : Bool :=
  match w.level with
  | some n => decide (6 ≤ n)
  | none => false

/-- The grant of a decision whose winner shows the shown layout (R140). -/
def grantWinner (w : Winner) (a : Arbiter) : Arbiter := if w.source = .home then a else grantSource w.source a

/-- A decision (R142). -/
def decideArbiter (a : Arbiter) : Arbiter :=
  let w := winner a
  let same := a.shown = some (.stored w.layout)
  match a.state with
  | .settled => if same then grantWinner w a else holdTarget w a
  | .targetHeld => if same then grantWinner w { a with state := .settled, target := none } else holdTarget w a
  | .firstFrame => if same then a else if breaksIn w then holdTarget w a else a
  | .dwell => if same then a else if breaksIn w then holdTarget w a else a
  | .service => a

/-- A decision event (R138): the arbiter decides while the part is RUNNING (R141, R146). -/
def decisionEvent (s : State) : State :=
  if s.mode = .running then s.mapArbiter decideArbiter else s

/-! ## Claims -/

/-- A slot of the claim table takes what it is to hold. -/
def setClaim (i : Fin 4) (c : Option Claim) (s : State) : State :=
  s.mapArbiter fun a => { a with claims := a.claims.set i c }

/-- A slot is written and the claim table change decided (R138). -/
def changeClaim (i : Fin 4) (c : Option Claim) (s : State) : State := decisionEvent (setClaim i c s)

/-! ## Hand-over to the compositor (R143, R144, R145) -/

/-- The target the compositor would adopt at step 3 of R77 (R143). While STARTING none (R78). -/
def adoptable (s : State) : Option SwitchTarget :=
  if s.mode = .starting then none
  else if s.arbiter.state = .targetHeld ∨ s.arbiter.state = .service then s.arbiter.target
  else none

/-- The arbiter at an adoption (R143). -/
def adoptTarget (t : SwitchTarget) (a : Arbiter) : Arbiter :=
  grantSource t.source
    { a with
      shown := some t.layout
      target := none
      state := if a.state = .service then .service else .firstFrame }

/-- The arbiter after a first-frame report (R144); a dwell of 0 settles at once, and the caller decides. -/
def reportedArbiter (dwell : Nat) (a : Arbiter) : Arbiter :=
  if a.state = .firstFrame then
    if dwell = 0 then { a with state := .settled, dwell := 0 } else { a with state := .dwell, dwell := dwell }
  else a

/-- The first-frame report (R81, R144): VIEW_CHANGED, the VIEW record, and the arbiter's move.
DESIGN CHOICE, unsafe (log 36): the notice is raised before the record is offered. -/
def firstFrameReport (s : State) : State :=
  let s1 := s.mapCompositor fun k => { k with reportPending := false }
  let s2 := raiseNotice .viewChanged s1
  let s3 := offerRecord (.view s.compositor.inEffect (winningSource s.arbiter)) s2
  let s4 := s3.mapArbiter (reportedArbiter s.loaded.ports.dwell)
  if s.arbiter.state = .firstFrame ∧ s.loaded.ports.dwell = 0 then decisionEvent s4 else s4

/-- The dwell at an output frame start that counts (R145). -/
def countDwell (s : State) : State :=
  if s.arbiter.state = .dwell then
    if s.arbiter.dwell ≤ 1 then decisionEvent (s.mapArbiter fun a => { a with state := .settled, dwell := 0 })
    else s.mapArbiter fun a => { a with dwell := a.dwell - 1 }
  else s

/-- The arbiter at the entry to SERVICE (R146). -/
def suspendClaims (a : Arbiter) : Arbiter :=
  { a with
    claims := Quad.all none
    state := .service
    target := some ⟨.quad, .home⟩
    dwell := 0 }

end Sys2Proof.Machine
end

