-- ==== Sys2Proof/Machine/Remap.lean ====
section
/-! DEFINITION. Chapter 4: pair geometry, the check of map records, the remap cache, its refills and its pinned region. -/

namespace Sys2Proof.Machine

/-! ## Pairs (R55) -/

/-- The pair width of a size class (4.1). -/
def SizeClass.pairWidth : SizeClass → Nat
  | .a => 64
  | .b => 128
  | .c => 256

/-- The tile size of a size class (4.1). -/
def SizeClass.tile : SizeClass → Nat
  | .a => 32
  | .b => 64
  | .c => 128

/-- The pair columns of a pane (R55). -/
def Pane.columns (p : Pane) : Nat := p.width / p.cls.pairWidth

/-- The pair count of a pane (R55). -/
def Pane.pairs (p : Pane) : Nat := p.columns * (p.height / p.cls.tile)

/-- The total pair count of a layout (R55). -/
def Layout.pairs (l : Layout) : Nat := l.panes.foldl (fun n p => n + p.pairs) 0

/-- Where a pair of the walk lies: its pane index, its pane and its number in the pane. -/
structure PairPlace where
  paneIndex : Nat
  pane : Pane
  pair : Nat
  deriving DecidableEq, Repr

/-- The place of pair `n` of the walk over panes numbered from `i` (R55). -/
def locateFrom : Nat → List Pane → Nat → Option PairPlace
  | _, [], _ => none
  | i, p :: ps, n => if n < p.pairs then some ⟨i, p, n⟩ else locateFrom (i + 1) ps (n - p.pairs)

/-- The place of pair `n` of a layout's walk (R55). -/
def locatePair (l : Layout) (n : Nat) : Option PairPlace := locateFrom 0 l.panes n

/-- The key of a place in a layout. -/
def placeKey (l : Layout) (w : PairPlace) : Key := ⟨l.number, w.paneIndex, w.pair⟩

/-- The pane pixel of the top-left of a pair's tile (R55). -/
def tileOrigin (p : Pane) (pair : Nat) (side : TileSide) : Nat × Nat :=
  let x := p.cls.pairWidth * (pair % p.columns)
  let y := p.cls.tile * (pair / p.columns)
  match side with
  | .even => (x, y)
  | .odd => (x + p.cls.pairWidth / 2, y)

/-- The record of a tile of the plain quad (R57). -/
def madeRecord (pane x y : Nat) : MapRecord where
  kind := 0#8
  primary := toByte pane
  secondary := 0#8
  fill := 0#8
  first := ⟨BitVec.ofNat 16 (2 * x * 16), BitVec.ofNat 16 ((2 * y + 16) * 16), 8192#16, 0#16, 0#16, 8192#16⟩
  second := ⟨0#16, 0#16, 0#16, 0#16, 0#16, 0#16⟩
  w0 := 0#16
  w1 := 0#16

/-- The record that the remap unit makes for one tile of a place of the plain quad (R57). -/
def madeTile (w : PairPlace) (side : TileSide) : MapRecord :=
  madeRecord w.paneIndex (tileOrigin w.pane w.pair side).1 (tileOrigin w.pane w.pair side).2

/-! ## The check of a record (R60) -/

/-- Whether a position field lies below −16384. -/
def positionBad (h : Half) : Bool := decide (h.toInt < -16384)

/-- Whether a record is invalid, for the fields its kind reads (R60). -/
def recordInvalid (r : MapRecord) : Bool :=
  if r.kind = 2#8 then false
  else if r.kind = 0#8 then
    decide (3 < r.primary.toNat) || positionBad r.first.u0 || positionBad r.first.v0
  else if r.kind = 1#8 then
    decide (3 < r.primary.toNat) || decide (3 < r.secondary.toNat) || decide (256 < r.w0.toNat) ||
      decide (256 < r.w1.toNat) || positionBad r.first.u0 || positionBad r.first.v0 ||
      positionBad r.second.u0 || positionBad r.second.v0
  else true

/-! ## Fetching (R58) -/

/-- The pane of a key, if its layout and pane are present. -/
def keyPane (table : List Layout) (k : Key) : Option Pane :=
  match findLayout table k.layout with
  | none => none
  | some l => l.panes[k.pane]?

/-- The two records of a pair, or nothing where the map area does not hold them (R58, log 25). -/
def fetchPair (c : Loaded) (k : Key) : Option (MapRecord × MapRecord) :=
  match keyPane c.layouts k with
  | none => none
  | some p =>
    let at' := p.mapBase + 64 * k.pair
    if at' + 64 ≤ c.mapLength then
      some (recordOfBytes (readBytes c.mapCells at' 32), recordOfBytes (readBytes c.mapCells (at' + 32) 32))
    else none

/-! ## The cache -/

/-- The key an entry carries. -/
def CacheEntry.key : CacheEntry → Option Key
  | .empty => none
  | .filling k _ => some k
  | .valid k _ _ _ => some k

/-- Whether an entry is FILLING. -/
def CacheEntry.isFilling : CacheEntry → Bool
  | .filling _ _ => true
  | .empty => false
  | .valid _ _ _ _ => false

/-- The entry of an index; EMPTY past the end. -/
def Remap.entry (r : Remap) (i : Nat) : CacheEntry := r.entries.getD i .empty

/-- The index of the entry that carries a key, VALID or FILLING (R62, R73). -/
def Remap.find (r : Remap) (k : Key) : Option Nat :=
  (List.range r.entries.length).find? fun i => decide ((r.entry i).key = some k)

/-- What a lookup finds (R62). -/
inductive Found where
  | hit (index : Nat) (even odd : MapRecord)
  | filling
  | faulted (even odd : MapRecord)
  | nowhere
  deriving DecidableEq, Repr

/-- Where a key is found (R62). -/
def Remap.look (r : Remap) (k : Key) : Found :=
  match r.find k with
  | some i =>
    match r.entry i with
    | .valid _ _ e o => .hit i e o
    | .filling _ _ => .filling
    | .empty => .nowhere
  | none =>
    match r.faulted.find? fun f => decide (f.key = k) with
    | some f => .faulted f.even f.odd
    | none => .nowhere

/-- The pointer one step down; from the pinned count it wraps to 39 (R65). -/
def stepDown (pinned p : Nat) : Nat := if p ≤ pinned then 39 else p - 1

/-- Whether the pointer passes over an entry: in use or FILLING (R65). -/
def Remap.passesOver (r : Remap) (i : Nat) : Bool := decide (r.inUse = some i) || (r.entry i).isFilling

/-- The entry the pointer takes, from position `p` on (R65). -/
def pickEntry (r : Remap) : Nat → Nat → Nat
  | 0, p => p
  | fuel + 1, p => if r.passesOver p then pickEntry r fuel (stepDown r.pinned p) else p

/-- Whether a refill slot is free. -/
def Remap.slotFree (r : Remap) : Bool := r.slot0.isNone || r.slot1.isNone

/-- A refill occupies a free slot (R64).
DESIGN CHOICE, unsafe (log 37): with both slots free it takes slot 0. -/
def Remap.occupy (r : Remap) (f : Refill) : Remap :=
  match r.slot0 with
  | none => { r with slot0 := some f }
  | some _ => { r with slot1 := some f }

/-- A refill is issued for the key of walk pair `n` into the entry `e` (steps 2, 3 and 5 of R64). -/
def Remap.issueInto (r : Remap) (e : Nat) (k : Key) (cls : SizeClass) : Remap :=
  let r1 := { r with entries := r.entries.set e (.filling k cls), refills := satAdd r.refills 1 }
  r1.occupy ⟨e, k⟩

/-- A refill is issued for the key of walk pair `n` of the layout in effect: into its designated entry
when the pair is pinned (R69), and otherwise where the replacement pointer says (R65). -/
def Remap.issue (r : Remap) (n : Nat) (k : Key) (cls : SizeClass) : Remap :=
  if n < r.pinned then r.issueInto n k cls
  else
    let e := pickEntry r 40 r.pointer
    { r.issueInto e k cls with pointer := stepDown r.pinned e }

/-- The lookahead lookup for walk pair `n` (R63). -/
def Remap.lookahead (r : Remap) (n : Nat) (k : Key) (cls : SizeClass) : Remap :=
  match r.look k with
  | .nowhere => if r.slotFree then r.issue n k cls else r
  | .hit _ _ _ => r
  | .filling => r
  | .faulted _ _ => r

/-- The faulted pair store without the record of a key. -/
def Remap.takeFaulted (r : Remap) (k : Key) : Remap :=
  { r with faulted := r.faulted.eraseP fun f => decide (f.key = k) }

/-- A faulted pair joins the store, which holds two: the older is removed first (R67). -/
def storeFaulted (f : FaultedPair) (l : List FaultedPair) : List FaultedPair :=
  if 2 ≤ l.length then l.drop 1 ++ [f] else l ++ [f]

/-! ## Take-effect (R68) -/

/-- The number of pairs a layout pins (R68). -/
def pinnedPairs (l : Layout) : Nat := if l.critical then min l.pairs 32 else 0

/-- Entry `n` at the take-effect, its designated pair having the key `k` (R68). -/
def keepDesignated (k : Option Key) (e : CacheEntry) : CacheEntry := if e.key = k then e else .empty

/-- The remap unit at the take-effect of a layout (R68). -/
def takeEffect (l : Layout) (r : Remap) : Remap :=
  let pins := pinnedPairs l
  { r with
    entries := r.entries.mapIdx fun i e =>
      if i < pins then keepDesignated ((locatePair l i).map (placeKey l)) e else e
    pinned := pins
    pointer := if pins = r.pinned then r.pointer else 39 }

/-- The remap unit at every output frame start (R70). -/
def frameStartRemap (r : Remap) : Remap := { r with faulted := [], inUse := none }

/-! ## Map faults (R67, R71) -/

/-- Which of a faulted pair's records are invalid. -/
def faultTile (even odd : MapRecord) : FaultTile :=
  if recordInvalid even then (if recordInvalid odd then .both else .even) else .odd

/-- A map fault (R71): counted, and when no fault is held it fills the record and raises MAP_FAULT. -/
def mapFault (k : Key) (tile : FaultTile) (s : State) : State :=
  let s1 := s.mapRemap fun r => { r with mapFaults := satAdd r.mapFaults 1 }
  if s.remap.fault.held then s1
  else raiseNotice .mapFault (s1.mapRemap fun r => { r with fault := ⟨true, k, tile⟩ })

/-- The refill of a slot number. -/
def Remap.slot (r : Remap) (i : Fin 2) : Option Refill :=
  match i with
  | 0 => r.slot0
  | 1 => r.slot1

/-- The slot of a number freed. -/
def Remap.freeSlotOf (r : Remap) (i : Fin 2) : Remap :=
  match i with
  | 0 => { r with slot0 := none }
  | 1 => { r with slot1 := none }

/-- Whether a completing refill is an orphan: its entry is no longer FILLING with its key (R66). -/
def Remap.orphan (r : Remap) (f : Refill) : Bool :=
  match r.entry f.entry with
  | .filling k _ => decide (k ≠ f.key)
  | .empty => true
  | .valid _ _ _ _ => true

/-- The class with which an entry is FILLING. -/
def CacheEntry.classOf : CacheEntry → SizeClass
  | .filling _ c => c
  | .valid _ c _ _ => c
  | .empty => .a

end Sys2Proof.Machine
end

