-- ==== Sys2Proof/Machine/Render.lean ====
section
/-! DEFINITION. Chapter 5, the picture: sampling, blending, hatch, overlay objects, borders, markers and badges, pixel by pixel. -/

namespace Sys2Proof.Machine

/-- A palette colour (R86). -/
def colourOf (palette : List Pixel) (i : Nat) : Pixel := palette.getD i blackPixel

/-- A component from an exact value. -/
def toComponent (x : Int) : Byte := BitVec.ofInt 8 x

/-! ## Sampling (R82) -/

/-- The bilinear value of four components with the fractions `fu` and `fv` (step 4 of R82). -/
def bilinear (p00 p10 p01 p11 : Byte) (fu fv : Int) : Byte :=
  toComponent (floorDiv
    (p00.toNat * ((16 - fu) * (16 - fv)) + p10.toNat * (fu * (16 - fv)) + p01.toNat * ((16 - fu) * fv) +
      p11.toNat * (fu * fv) + 128) 256)

/-- The bilinear value of four pixels. -/
def bilinearPixel (p00 p10 p01 p11 : Pixel) (fu fv : Int) : Pixel :=
  ⟨bilinear p00.y p10.y p01.y p11.y fu fv, bilinear p00.cb p10.cb p01.cb p11.cb fu fv,
    bilinear p00.cr p10.cr p01.cr p11.cr fu fv⟩

/-- The source pixel at column `u`, row `v`. -/
def sourcePixel (picture : List (Nat × Pixel)) (u v : Int) : Pixel :=
  sparseRead blankPixel picture (v.toNat * 1280 + u.toNat)

/-- U of output pixel (i, j), in 1/4096 source pixel (step 1 of R82). -/
def sampleU (g : SampleGeometry) (i j : Nat) : Int := g.u0.toInt * 256 + i * g.dudx.toInt + j * g.dudy.toInt

/-- V of output pixel (i, j), in 1/4096 source pixel (step 1 of R82). -/
def sampleV (g : SampleGeometry) (i j : Nat) : Int := g.v0.toInt * 256 + i * g.dvdx.toInt + j * g.dvdy.toInt

/-- The fraction of a position, in 1/16 (step 2 of R82). -/
def fraction (x : Int) : Int := floorDiv (x - 4096 * floorDiv x 4096) 256

/-- The camera sample of output pixel (i, j) (R82); `zero` is palette colour 0. -/
def samplePixel (zero : Pixel) (picture : List (Nat × Pixel)) (g : SampleGeometry) (i j : Nat) : Pixel :=
  let u := floorDiv (sampleU g i j) 4096
  let v := floorDiv (sampleV g i j) 4096
  let fu := fraction (sampleU g i j)
  let fv := fraction (sampleV g i j)
  if u < 0 ∨ 1278 < u ∨ v < 0 ∨ 798 < v then zero
  else bilinearPixel (sourcePixel picture u v) (sourcePixel picture (u + 1) v)
    (sourcePixel picture u (v + 1)) (sourcePixel picture (u + 1) (v + 1)) fu fv

/-! ## The standing of a camera (R83) -/

/-- How a camera stands for rendering. -/
inductive Standing where
  | usable
  | frozen
  | dead
  deriving DecidableEq, Repr

/-- Whether the camera has a READING slot. -/
def hasReading (k : CameraIntake) : Bool := (readingSlot k.slots).isSome

/-- The standing of camera `c` by the snapshot (R83). -/
def standing (s : State) (snap : Snapshot) (c : Camera) : Standing :=
  if hasReading (s.intake.get c) then
    if snap.links.get c = .live then .usable
    else match snap.lost.get c with
      | .running _ => .frozen
      | .expired => .dead
      | .stopped => .dead
  else .dead

/-- The picture of the READING slot of camera `c`. -/
def readingPicture (s : State) (c : Camera) : List (Nat × Pixel) :=
  match readingSlot (s.intake.get c).slots with
  | some i => ((s.intake.get c).slots.get i).picture
  | none => []

/-! ## The picture of a record (R83, R84, R85) -/

/-- The camera that a valid record's field names. -/
def cameraOfByte (b : Byte) : Camera := Fin.ofNat 4 b.toNat

/-- A pixel with whether it is made from a frozen sample. -/
structure Made where
  pixel : Pixel
  frozen : Bool
  deriving DecidableEq, Repr

/-- The primary weight of column `i` of a tile (R84). -/
def primaryWeight (w0 w1 : Half) (tile i : Nat) : Int :=
  w0.toNat + truncDiv (((w1.toNat : Int) - w0.toNat) * i) ((tile : Int) - 1)

/-- Two components mixed with primary weight `w` (R84). -/
def mixComponent (w : Int) (p q : Byte) : Byte :=
  toComponent (floorDiv (p.toNat * w + q.toNat * (256 - w) + 128) 256)

/-- Two pixels mixed with primary weight `w` (R84). -/
def mixPixel (w : Int) (p q : Pixel) : Pixel :=
  ⟨mixComponent w p.y q.y, mixComponent w p.cb q.cb, mixComponent w p.cr q.cr⟩

/-- The pixel of a SINGLE record: its sample `p`, the camera standing at `a` (R83). -/
def singlePixel (zero p : Pixel) (a : Standing) : Made :=
  match a with
  | .usable => ⟨p, false⟩
  | .frozen => ⟨p, true⟩
  | .dead => ⟨zero, false⟩

/-- The pixel of a BLEND record: its samples `p` and `q`, the primary standing at `a`, the secondary
at `b` (R84). -/
def blendPixel (zero p q : Pixel) (w : Int) (a b : Standing) : Made :=
  match a, b with
  | .usable, .usable => ⟨mixPixel w p q, false⟩
  | .usable, .frozen => ⟨p, false⟩
  | .usable, .dead => ⟨p, false⟩
  | .frozen, .usable => ⟨q, false⟩
  | .dead, .usable => ⟨q, false⟩
  | .frozen, .frozen => ⟨mixPixel w p q, true⟩
  | .frozen, .dead => ⟨p, true⟩
  | .dead, .frozen => ⟨q, true⟩
  | .dead, .dead => ⟨zero, false⟩

/-- The picture pixel (i, j) of a tile, before the hatch (R82 to R85). -/
def recordPixel (s : State) (snap : Snapshot) (r : MapRecord) (tile i j : Nat) : Made :=
  let zero := colourOf s.loaded.palette 0
  let a := cameraOfByte r.primary
  let b := cameraOfByte r.secondary
  if recordInvalid r then ⟨zero, false⟩
  else if r.kind = 2#8 then ⟨colourOf s.loaded.palette (r.fill.toNat % 16), false⟩
  else if r.kind = 0#8 then
    singlePixel zero (samplePixel zero (readingPicture s a) r.first i j) (standing s snap a)
  else
    blendPixel zero (samplePixel zero (readingPicture s a) r.first i j)
      (samplePixel zero (readingPicture s b) r.second i j) (primaryWeight r.w0 r.w1 tile i)
      (standing s snap a) (standing s snap b)

/-- A picture pixel with its hatch, at screen column `x` and row `y` (R83, log 28). -/
def hatched (palette : List Pixel) (x y : Nat) (m : Made) : Pixel :=
  if m.frozen ∧ (x + y) % 16 ≤ 1 then colourOf palette 1 else m.pixel

/-! ## Overlay objects (R88, R89) -/

/-- Whether a line of width `n` between two pane pixels covers the pixel (c, r) (R89). -/
def lineCovers (c1 r1 c2 r2 : Int) (n : Nat) (c r : Int) : Bool :=
  let d := Nat.max (c2 - c1).natAbs (r2 - r1).natAbs
  let k : Int := ((n - 1) / 2 : Nat)
  let hit := fun (x y : Int) =>
    decide (x - k ≤ c) && decide (c ≤ x - k + n - 1) && decide (y - k ≤ r) && decide (r ≤ y - k + n - 1)
  if d = 0 then hit c1 r1
  else (List.range (d + 1)).any fun t =>
    hit (c1 + floorDiv ((c2 - c1) * (2 * t) + d) (2 * d)) (r1 + floorDiv ((r2 - r1) * (2 * t) + d) (2 * d))

/-- Whether a GROUND_LINE covers a pane pixel (R16, R89); `a b` and `c d` are its two ground points. -/
def groundLineCovers (p : Pane) (o : Overlay) (c r : Int) : Bool :=
  (List.range (o.copies + 1)).any fun k =>
    let e := projectGround p (o.a + k * o.dX) (o.b + k * o.dY)
    let f := projectGround p (o.c + k * o.dX) (o.d + k * o.dY)
    lineCovers e.1 e.2 f.1 f.2 o.width c r

/-- Whether the tint of a zone covers a pane pixel (R16). -/
def tintCovers (p : Pane) (z : Zone) (c r : Int) : Bool :=
  let e := projectGround p z.xMin z.yMin
  let f := projectGround p z.xMax z.yMax
  decide (min e.1 f.1 ≤ c) && decide (c ≤ max e.1 f.1) && decide (min e.2 f.2 ≤ r) && decide (r ≤ max e.2 f.2)

/-- Whether a SCREEN_BOX covers a pane pixel (R89): left `a`, top `b`, right `c`, bottom `d`. -/
def boxCovers (o : Overlay) (c r : Int) : Bool :=
  lineCovers o.a o.b o.c o.b o.width c r || lineCovers o.c o.b o.c o.d o.width c r ||
    lineCovers o.c o.d o.a o.d o.width c r || lineCovers o.a o.d o.a o.b o.width c r

/-- Whether an object covers a pixel of a pane (R89). -/
def objectCovers (zones : List Zone) (p : Pane) (o : Overlay) (c r : Int) : Bool :=
  match o.kind with
  | .groundLine => groundLineCovers p o c r
  | .zoneTint =>
    match findZone zones o.zone with
    | some z => tintCovers p z c r
    | none => false
  | .screenLine => lineCovers o.a o.b o.c o.d o.width c r
  | .screenBox => boxCovers o c r

/-- Whether a class switch is on. -/
def Switches.on (w : Switches) (k : OverlayClass) : Bool :=
  match k with
  | .guide => w.guide
  | .zone => w.zone
  | .frame => w.frame

/-- Whether a layout is in an object's layout mask; the service picture is in none (R88). -/
def inMask (mask : Half) (l : LayoutRef) : Bool :=
  match l with
  | .stored n => mask.getLsbD n
  | .quad => false

/-- Whether an object has a drawing in the pane of an index (R88). -/
def objectInPane (zones : List Zone) (o : Overlay) (paneIndex : Nat) (p : Pane) : Bool :=
  match o.kind with
  | .groundLine => decide (p.kind = .topview)
  | .zoneTint => decide (p.kind = .topview) && (findZone zones o.zone).isSome
  | .screenLine => decide (o.pane = paneIndex)
  | .screenBox => decide (o.pane = paneIndex)

/-- Whether an object's generator, if it has one, has its gate open (R88). -/
def objectGate (snap : Snapshot) (g : Option (Fin 4)) : Bool :=
  match g with
  | none => true
  | some i => snap.gates.get i

/-- Whether an object is drawn in a pane of the frame (R88). -/
def objectDrawn (zones : List Zone) (snap : Snapshot) (l : LayoutRef) (paneIndex : Nat) (p : Pane) (o : Overlay) : Bool :=
  inMask o.layouts l && snap.switches.on o.cls && decide (o.visibility.code ≤ snap.level.code) &&
    objectGate snap o.generator && objectInPane zones o paneIndex p

/-- The palette index of a level: 2, 3, 4, or `base` at NONE (R89, R91). -/
def levelColour (base : Nat) (v : Level) : Nat :=
  match v with
  | .none => base
  | .notice => 2
  | .caution => 3
  | .danger => 4

/-- The palette index an object is drawn in (R89). -/
def objectColour (snap : Snapshot) (o : Overlay) : Nat :=
  if o.kind = .zoneTint then levelColour o.colour (snap.occupancy.getD o.zone .none) else o.colour

/-- A component drawn over at an alpha (R90). -/
def alphaComponent (alpha : Nat) (colour pixel : Byte) : Byte :=
  toComponent (floorDiv ((colour.toNat : Int) * alpha + pixel.toNat * (16 - alpha) + 8) 16)

/-- A pixel drawn over at an alpha (R90). -/
def alphaPixel (alpha : Nat) (colour pixel : Pixel) : Pixel :=
  ⟨alphaComponent alpha colour.y pixel.y, alphaComponent alpha colour.cb pixel.cb,
    alphaComponent alpha colour.cr pixel.cr⟩

/-! ## Borders (R93) -/

/-- The highest live occupancy level among the zones of a mask that the table holds. -/
def maskLevel (zones : List Zone) (snap : Snapshot) (mask : ZoneSet) : Level :=
  zones.foldl (fun v z =>
    if mask.getLsbD z.index.val then v.max (snap.occupancy.getD z.index.val .none) else v) .none

/-- The border colour index of a pane pixel, if the border covers it (R93). -/
def borderAt (zones : List Zone) (snap : Snapshot) (p : Pane) (c r : Nat) : Option Nat :=
  let v := maskLevel zones snap p.zoneMask
  if p.kind = .camera ∧ p.zoneMask ≠ 0#8 ∧ snap.switches.frame ∧ v ≠ .none ∧
      (c < 4 ∨ r < 4 ∨ p.width ≤ c + 4 ∨ p.height ≤ r + 4) then some (levelColour 5 v)
  else none

/-! ## Track markers (R91) -/

/-- Whether the filled arrow around its anchor covers the offset (i, j) (R91). -/
def arrowFilled (dx dy i j : Int) : Bool :=
  let a := -dx * i
  let b := -dy * j
  if dy = 0 then decide (0 ≤ a) && decide (a ≤ 6) && decide (2 * j.natAbs ≤ a.natAbs)
  else if dx = 0 then decide (0 ≤ b) && decide (b ≤ 6) && decide (2 * i.natAbs ≤ b.natAbs)
  else decide (0 ≤ a) && decide (0 ≤ b) && decide (a + b ≤ 6)

/-- Whether the arrow outline covers an offset (R91). -/
def arrowOutline (dx dy i j : Int) : Bool :=
  arrowFilled dx dy i j &&
    !(arrowFilled dx dy (i + 1) j && arrowFilled dx dy (i - 1) j && arrowFilled dx dy i (j + 1) &&
      arrowFilled dx dy i (j - 1))

/-- Whether the square around its anchor covers an offset: filled, or its outline (R91). -/
def squareCovers (filled : Bool) (i j : Int) : Bool :=
  decide (i.natAbs ≤ 6) && decide (j.natAbs ≤ 6) && (filled || decide (i.natAbs = 6) || decide (j.natAbs = 6))

/-- Whether a track's marker covers a pane pixel (R15, R91). -/
def markerCovers (p : Pane) (t : Track) (c r : Int) : Bool :=
  let q := projectGround p t.x t.y
  let dx := beyond p.width q.1
  let dy := beyond p.height q.2
  let i := c - clampInt 0 ((p.width : Int) - 1) q.1
  let j := r - clampInt 0 ((p.height : Int) - 1) q.2
  let filled := decide (t.state ≠ .tentative)
  if dx = 0 ∧ dy = 0 then squareCovers filled i j
  else if filled then arrowFilled dx dy i j
  else arrowOutline dx dy i j

/-- Whether a track is drawn (R91): one at DANGER by the gate of BG0, any other by the ZONE switch. -/
def markerDrawn (snap : Snapshot) (t : Track) : Bool :=
  if t.stored = .danger then snap.gates.get 0 else snap.switches.zone

/-- The marker colour index of a pane pixel, the last track in slot order that covers it (R91). -/
def markerAt (snap : Snapshot) (p : Pane) (c r : Nat) : Option Nat :=
  if p.kind = .topview then
    (heldTracks snap.tracks).foldl (fun m t =>
      if markerDrawn snap t && markerCovers p t c r then some (levelColour 5 t.stored) else m) none
  else none

/-! ## Badges (R92) -/

/-- The badges. -/
inductive Badge where
  | cameraLost
  | lensObscured
  | lowLight
  | viewHeld (source : Nat)
  deriving DecidableEq, Repr

/-- Whether a camera of a set satisfies `f`. -/
def anyCamera (set : BitVec 4) (f : Camera → Bool) : Bool :=
  (set.getLsbD 0 && f 0) || (set.getLsbD 1 && f 1) || (set.getLsbD 2 && f 2) || (set.getLsbD 3 && f 3)

/-- The badges that apply to a pane, in order (R92). -/
def paneBadges (snap : Snapshot) (p : Pane) : List Badge :=
  (if anyCamera p.cameras fun c => decide (snap.links.get c ≠ .live) then [.cameraLost] else []) ++
  (if anyCamera p.cameras fun c => decide (snap.conditions.get c = .obscured) then [.lensObscured] else []) ++
  (if anyCamera p.cameras fun c => decide (snap.conditions.get c = .lowLight) then [.lowLight] else []) ++
  (if snap.winner.code ≤ 2 then [.viewHeld snap.winner.code] else [])

/-- Whether a badge's glyph covers its pixel (x, y) (R92). -/
def glyphCovers (b : Badge) (x y : Nat) : Bool :=
  match b with
  | .cameraLost => decide (4 ≤ x ∧ x ≤ 19 ∧ (y = x ∨ y = 23 - x))
  | .lensObscured => decide (4 ≤ x ∧ x ≤ 19 ∧ 4 ≤ y ∧ y ≤ 19 ∧ (x = 4 ∨ x = 19 ∨ y = 4 ∨ y = 19))
  | .lowLight => decide (8 ≤ x ∧ x ≤ 15 ∧ 8 ≤ y ∧ y ≤ 15)
  | .viewHeld n => (List.range (n + 1)).any fun k => decide (6 + 5 * k ≤ x ∧ x ≤ 7 + 5 * k ∧ 4 ≤ y ∧ y ≤ 19)

/-- The badge colour index of a pane pixel, badges placed from badge number `n` on (R92). -/
def badgeAtFrom (width c r : Nat) : Nat → List Badge → Option Nat
  | _, [] => none
  | n, b :: bs =>
    let left : Int := (width : Int) - 28 * (n + 1)
    if 0 ≤ left ∧ left ≤ c ∧ (c : Int) ≤ left + 23 ∧ 4 ≤ r ∧ r ≤ 27 then
      some (if glyphCovers b ((c : Int) - left).toNat (r - 4) then 5 else 6)
    else badgeAtFrom width c r (n + 1) bs

/-- The badge colour index of a pane pixel (R92). -/
def badgeAt (snap : Snapshot) (p : Pane) (c r : Nat) : Option Nat :=
  badgeAtFrom p.width c r 0 (paneBadges snap p)

/-! ## A finished pixel and a tile (R79, R90) -/

/-- A layer drawn at alpha 16, where it covers. -/
def drawOver (palette : List Pixel) (colour : Option Nat) (pixel : Pixel) : Pixel :=
  match colour with
  | some k => colourOf palette k
  | none => pixel

/-- The objects of the overlay list over a pixel, in list order (R90). -/
def drawObjects (s : State) (snap : Snapshot) (l : LayoutRef) (w : PairPlace) (c r : Nat) (pixel : Pixel) : Pixel :=
  s.loaded.overlays.foldl (fun px o =>
    if objectDrawn s.loaded.zones snap l w.paneIndex w.pane o && objectCovers s.loaded.zones w.pane o c r then
      alphaPixel o.alpha (colourOf s.loaded.palette (objectColour snap o)) px
    else px) pixel

/-- The finished pixel at pane pixel (c, r), over its picture pixel (R90). -/
def finishPixel (s : State) (snap : Snapshot) (l : LayoutRef) (w : PairPlace) (c r : Nat) (picture : Pixel) : Pixel :=
  let p := s.loaded.palette
  drawOver p (badgeAt snap w.pane c r)
    (drawOver p (markerAt snap w.pane c r)
      (drawOver p (borderAt s.loaded.zones snap w.pane c r) (drawObjects s snap l w c r picture)))

/-- Output pixel (i, j) of a tile of a pair, finished. -/
def tilePixel (s : State) (snap : Snapshot) (l : LayoutRef) (w : PairPlace) (side : TileSide) (rec : MapRecord)
    (i j : Nat) : Pixel :=
  let c := (tileOrigin w.pane w.pair side).1 + i
  let r := (tileOrigin w.pane w.pair side).2 + j
  finishPixel s snap l w c r
    (hatched s.loaded.palette (w.pane.left + c) (w.pane.top + r)
      (recordPixel s snap rec w.pane.cls.tile i j))

/-- The output store address of a screen pixel. -/
def screenAddress (x y : Nat) : Nat := y * 1280 + x

/-- The output store address of output pixel (i, j) of a tile. -/
def tileAddress (w : PairPlace) (side : TileSide) (i j : Nat) : Nat :=
  screenAddress (w.pane.left + (tileOrigin w.pane w.pair side).1 + i)
    (w.pane.top + (tileOrigin w.pane w.pair side).2 + j)

/-- The entries of a tile of `n` by `n` pixels, pixel (i, j) being `f i j`. -/
def tileEntries (w : PairPlace) (side : TileSide) (n : Nat) (f : Nat → Nat → Pixel) : List (Nat × Pixel) :=
  ((List.range n).map fun j => (List.range n).map fun i => (tileAddress w side i j, f i j)).flatten

/-- A tile written into the output store, its whole area at once (R79). -/
def writeTile (store : List (Nat × Pixel)) (w : PairPlace) (side : TileSide) (f : Nat → Nat → Pixel) : List (Nat × Pixel) :=
  sparseWriteAll blackPixel store (tileEntries w side w.pane.cls.tile f)

/-- One tile rendered and written (R79). -/
def renderTile (s : State) (snap : Snapshot) (l : LayoutRef) (w : PairPlace) (side : TileSide) (rec : MapRecord)
    (store : List (Nat × Pixel)) : List (Nat × Pixel) :=
  writeTile store w side (tilePixel s snap l w side rec)

end Sys2Proof.Machine
end

