-- ==== Sys2Proof/Machine/Compositor.lean ====
section
/-! DEFINITION. Chapter 5, the events: lookups and rendering of pairs, held tiles, adoption, the snapshot, the blink generators and the
output frame start. -/

namespace Sys2Proof.Machine

/-! ## The layout in effect -/

/-- The layout that a reference names: the service picture is the plain quad (R143). A stored number
that the table does not hold, which no claim, zone or home setting leaves, reads as the plain quad. -/
def resolveLayout (c : Loaded) (l : LayoutRef) : Layout :=
  match l with
  | .stored n => (findLayout c.layouts n).getD plainQuad
  | .quad => plainQuad

/-- The layout in effect. -/
def effectLayout (s : State) : Option Layout := s.compositor.inEffect.map (resolveLayout s.loaded)

/-! ## Lookups and the beginning of a pair (R62, R63, R79) -/

/-- What rendering stands at. -/
def setWork (w : Work) (s : State) : State := s.mapCompositor fun k => { k with work := w }

/-- The lookahead for walk pair `n`, sent when rendering of the pair before it begins (R63). -/
def sendLookahead (l : Layout) (n : Nat) (s : State) : State :=
  if l.builtIn then s
  else match locatePair l n with
    | none => s
    | some w => s.mapRemap fun r => r.lookahead n (placeKey l w) w.pane.cls

/-- Rendering of pair `n` begins from its records; `use` is the entry in use (R62, R63). -/
def startDrawing (l : Layout) (n : Nat) (even odd : MapRecord) (use : Option Nat) (s : State) : State :=
  sendLookahead l (n + 1) (setWork (.drawing n even odd) (s.mapRemap fun r => { r with inUse := use }))

/-- A lookup that misses issues its refill, or waits for a slot (R64). -/
def missPair (n : Nat) (k : Key) (cls : SizeClass) (s : State) : State :=
  if s.remap.slotFree then setWork (.waitFill n) (s.mapRemap fun r => r.issue n k cls)
  else setWork (.waitSlot n) s

/-- The lookup of pair `n` at the place `w` (R62). -/
def lookupPair (l : Layout) (n : Nat) (w : PairPlace) (s : State) : State :=
  if l.builtIn then startDrawing l n (madeTile w .even) (madeTile w .odd) none s
  else
    let k := placeKey l w
    match s.remap.look k with
    | .hit i e o => startDrawing l n e o (some i) s
    | .filling => setWork (.waitFill n) s
    | .faulted e o => startDrawing l n e o none (s.mapRemap fun r => r.takeFaulted k)
    | .nowhere => missPair n k w.pane.cls s

/-- The render position moves to pair `n`, and its lookup is made. -/
def beginPair (n : Nat) (s : State) : State :=
  match effectLayout s with
  | none => setWork .done s
  | some l =>
    match locatePair l n with
    | none => setWork .done s
    | some w => lookupPair l n w s

/-- The first-frame report, when it is PENDING (R81). -/
def reportIfPending (s : State) : State := if s.compositor.reportPending then firstFrameReport s else s

/-- After pair `n`: the next pair, or DONE with the frame complete (R79, R81). -/
def nextPair (n : Nat) (s : State) : State :=
  match effectLayout s with
  | none => setWork .done s
  | some l => if n + 1 < l.pairs then beginPair (n + 1) s else reportIfPending (setWork .done s)

/-- Both tiles of a pair are rendered and written (R79). -/
def renderPair (snap : Snapshot) (ref : LayoutRef) (w : PairPlace) (even odd : MapRecord) (s : State) : State :=
  s.mapCompositor fun k =>
    { k with store := renderTile s snap ref w .odd odd (renderTile s snap ref w .even even k.store) }

/-- The pair in progress is finished (R79). -/
def finishPair (s : State) : State :=
  match s.compositor.work, s.compositor.inEffect, s.compositor.snapshot with
  | .drawing n even odd, some ref, some snap =>
    match locatePair (resolveLayout s.loaded ref) n with
    | some w => nextPair n (renderPair snap ref w even odd s)
    | none => s
  | _, _, _ => s

/-! ## Refill completion (R66, R67) -/

/-- The pair whose lookup waits on a refill of the key. -/
def waitingFor (s : State) (k : Key) : Option (Layout × Nat) :=
  match s.compositor.work, effectLayout s with
  | .waitFill n, some l =>
    match locatePair l n with
    | some w => if placeKey l w = k ∧ l.builtIn = false then some (l, n) else none
    | none => none
  | _, _ => none

/-- A lookup that waits for a free refill slot issues its refill (R64, R66). -/
def issueWaiting (s : State) : State :=
  match s.compositor.work with
  | .waitSlot n => beginPair n s
  | .done => s
  | .waitFill _ => s
  | .drawing _ _ _ => s

/-- A refill that completes with both records valid (R66). -/
def completeValid (f : Refill) (even odd : MapRecord) (s : State) : State :=
  let cls := (s.remap.entry f.entry).classOf
  let s1 := s.mapRemap fun r => { r with entries := r.entries.set f.entry (.valid f.key cls even odd) }
  match waitingFor s f.key with
  | some (l, n) => startDrawing l n even odd (some f.entry) s1
  | none => s1

/-- A faulted refill (R67): its entry becomes EMPTY, the pair goes to the store, the fault is raised,
and a waiting lookup takes the record at once. -/
def completeFaulted (f : Refill) (even odd : MapRecord) (s : State) : State :=
  let s1 := s.mapRemap fun r =>
    { r with entries := r.entries.set f.entry .empty, faulted := storeFaulted ⟨f.key, even, odd⟩ r.faulted }
  let s2 := mapFault f.key (faultTile even odd) s1
  match waitingFor s f.key with
  | some (l, n) => startDrawing l n even odd none (s2.mapRemap fun r => r.takeFaulted f.key)
  | none => s2

/-- The completion of a refill that is no orphan, with the pair it fetched (R66). -/
def completeFetched (f : Refill) (even odd : MapRecord) (s : State) : State :=
  if recordInvalid even || recordInvalid odd then completeFaulted f even odd s
  else completeValid f even odd s

/-! ## Held tiles (R80) -/

/-- Whether a tile of the pair in progress had been written. -/
def alreadyWritten (work : Work) (written : Option TileSide) (side : TileSide) : Bool :=
  match work with
  | .drawing _ _ _ => decide (written = some side)
  | .done => false
  | .waitSlot _ => false
  | .waitFill _ => false

/-- The render position's pair, if rendering is not DONE. -/
def Work.pair : Work → Option Nat
  | .done => none
  | .waitSlot n => some n
  | .waitFill n => some n
  | .drawing n _ _ => some n

/-- The sides of pair `k` that are held, `n` being the pair in progress. -/
def heldSides (work : Work) (written : Option TileSide) (n k : Nat) : List TileSide :=
  ([.even, .odd] : List TileSide).filter fun side => !(decide (k = n) && alreadyWritten work written side)

/-- The held tiles of the frame that ends (R80). -/
def heldTiles (l : Layout) (work : Work) (written : Option TileSide) : List (PairPlace × TileSide) :=
  match work.pair with
  | none => []
  | some n =>
    ((List.range (l.pairs - n)).map fun i =>
      match locatePair l (n + i) with
      | some w => (heldSides work written n (n + i)).map fun side => (w, side)
      | none => []).flatten

/-- A tile of the pair in progress that was already written is in the output store (R79).
DESIGN CHOICE, safe (log 21): which tile that is comes with the command. -/
def writeEarly (written : Option TileSide) (s : State) : State :=
  match s.compositor.work, s.compositor.inEffect, s.compositor.snapshot, written with
  | .drawing n even odd, some ref, some snap, some side =>
    match locatePair (resolveLayout s.loaded ref) n with
    | some w =>
      s.mapCompositor fun k =>
        { k with store := renderTile s snap ref w side (match side with | .even => even | .odd => odd) k.store }
    | none => s
  | _, _, _, _ => s

/-- The held tiles are counted, and set to palette colour 0 when the frame that ends is the first of
a newly adopted layout (R80). -/
def holdTiles (tiles : List (PairPlace × TileSide)) (s : State) : State :=
  let zero := colourOf s.loaded.palette 0
  let first := decide (s.compositor.adoptedAt = s.frame - 1#32)
  s.mapCompositor fun k =>
    { k with
      held := satAdd k.held tiles.length
      store := if first then tiles.foldl (fun st t => writeTile st t.1 t.2 fun _ _ => zero) k.store else k.store }

/-- Step 1 of R77. -/
def endFrame (written : Option TileSide) (s : State) : State :=
  match effectLayout s with
  | none => reportIfPending s
  | some l => reportIfPending (holdTiles (heldTiles l s.compositor.work written) (writeEarly written s))

/-! ## The starting picture (R78) -/

/-- White (R78). -/
def whitePixel : Pixel := ⟨235#8, 128#8, 128#8⟩

/-- The starting picture: the centred white bar on black (R78). -/
def startingPicture : List (Nat × Pixel) :=
  ((List.range 32).map fun r => (List.range 128).map fun c => (screenAddress (576 + c) (368 + r), whitePixel)).flatten

/-- The output store of a part that shows the starting picture (R76, R78). -/
def placeStarting (s : State) : State := s.mapCompositor fun k => { k with store := startingPicture }

/-- The output store is sent on the display link and the record link (step 2 of R77, R78). -/
def sendPicture (s : State) : State := s.mapCompositor fun k => { k with sent := k.store }

/-! ## Adoption (step 3 of R77) -/

/-- Whether a screen pixel lies in a pane of the layout. -/
def inSomePane (l : Layout) (x y : Nat) : Bool :=
  l.panes.any fun p =>
    decide (p.left ≤ x) && decide (x < p.left + p.width) && decide (p.top ≤ y) && decide (y < p.top + p.height)

/-- The background pixels of a layout in palette colour 0 (R79). -/
def backgroundEntries (l : Layout) (zero : Pixel) : List (Nat × Pixel) :=
  ((List.range 768).map fun y =>
    ((List.range 1280).filter fun x => !inSomePane l x y).map fun x => (screenAddress x y, zero)).flatten

/-- The shown layout changes: an early broadcast is owed (R170). -/
def noteShown (l : LayoutRef) (s : State) : State :=
  if s.arbiter.shown = some l then s else oweBroadcasts s

/-- The compositor's own part of an adoption: layout in effect, mode, report and background (R77, R78, R79). -/
def adoptLayout (t : SwitchTarget) (s : State) : State :=
  let l := resolveLayout s.loaded t.layout
  s.mapCompositor fun k =>
    { k with
      mode := .layout
      inEffect := some t.layout
      adoptedAt := s.frame
      reportPending := true
      store := sparseWriteAll blackPixel k.store (backgroundEntries l (colourOf s.loaded.palette 0)) }

/-- The compositor adopts the target `t` (R77, R68, R143). -/
def adopt (t : SwitchTarget) (s : State) : State :=
  let s1 := adoptLayout t (noteShown t.layout s)
  (s1.mapRemap (takeEffect (resolveLayout s.loaded t.layout))).mapArbiter (adoptTarget t)

/-- Step 3 of R77, after the remap unit's frame boundary (R70). -/
def adoptStep (s : State) : State :=
  let s1 := s.mapRemap frameStartRemap
  match adoptable s1 with
  | some t => adopt t s1
  | none => s1

/-! ## Steps 4 to 7 of R77 -/

/-- The slot rule for every camera, by the layout in effect (step 4). -/
def applySlotRule (l : Layout) (s : State) : State :=
  { s with intake := s.intake.mapIdx fun c k => slotRule s.ms (l.cameras.getLsbD c.val) k }

/-- A generator at an output frame start (R95). -/
def stepGenerator (g : Generator) : Generator :=
  if g.count ≤ 1 then
    match g.phase with
    | .off => { g with phase := .on, count := g.nextOn, effective := g.pending }
    | .on => { g with phase := .off, count := g.nextOff }
  else { g with count := g.count - 1 }

/-- The generators step (step 6). -/
def stepGenerators (s : State) : State :=
  s.mapCompositor fun k => { k with generators := k.generators.map stepGenerator }

/-- The frame snapshot of the state as it stands (step 5), with the gates of the generators given. -/
def takeSnapshot (gates : Quad Bool) (s : State) : Snapshot where
  tracks := s.tracker.tracks
  level := s.alert.level
  occupancy := s.alert.occupancy
  links := s.intake.map CameraIntake.link
  lost := s.intake.map CameraIntake.lost
  conditions := s.exposure.map Exposure.condition
  winner := winningSource s.arbiter
  switches := s.compositor.switches
  gates := gates

/-- Steps 5 and 6: the generators step, and the snapshot carries their gates. -/
def fixSnapshot (s : State) : State :=
  let s1 := stepGenerators s
  s1.mapCompositor fun k => { k with snapshot := some (takeSnapshot (k.generators.map gateOpen) s) }

/-- An output frame that draws from no camera: every camera is out of use, its slots as they are (2.4, R78). -/
def useNoCamera (s : State) : State := { s with intake := s.intake.map (slotRule s.ms false) }

/-- Steps 4 to 7 of R77; in STARTING_PICTURE no camera is in use, no generator steps and nothing is
rendered (R78). -/
def beginFrame (s : State) : State :=
  match s.compositor.mode, effectLayout s with
  | .layout, some l => beginPair 0 (fixSnapshot (applySlotRule l s))
  | .layout, none => useNoCamera s
  | .startingPicture, _ => useNoCamera s

/-! ## The output frame start (R77, R78, R145, R151, R156, R157) -/

/-- Steps 1 and 2 of R77, or their counterpart in STARTING_PICTURE (R78). -/
def closeFrame (written : Option TileSide) (s : State) : State :=
  match s.compositor.mode with
  | .layout => sendPicture (endFrame written s)
  | .startingPicture => sendPicture (placeStarting s)

/-- Steps 3 to 7 of R77. -/
def openFrame (s : State) : State := beginFrame (adoptStep s)

/-- The dwell at this output frame start, when it was running as the event began (R145). -/
def dwellIf (b : Bool) (s : State) : State := if b then countDwell s else s

/-- The trigger conditions at this output frame start, on one side of the compositor's actions (R151). -/
def countdownIf (b : Bool) (before : Quad TriggerState) (s : State) : State := if b then countTriggers before s else s

/-- The counter grows, and one draw decides what the rules leave open at this event. -/
def frameBegun (s : State) : State := { s with frame := s.frame + 1#32, draws := s.draws + 1 }

/-- The compositor, the arbiter and the trigger conditions at an output frame start. -/
def frameEvents (written : Option TileSide) (s : State) : State :=
  let dwelling := decide (s.arbiter.state = .dwell)
  let early := Config.dwellDecidesFirst s.draws
  let first := Config.countdownFirst s.draws
  let s1 := closeFrame written (countdownIf first s.incident.triggers (frameBegun s))
  let s2 := openFrame (dwellIf (dwelling && early) s1)
  countdownIf (!first) s.incident.triggers (dwellIf (dwelling && !early) s2)

/-- Metadata line 1 takes its bytes (R156). -/
def setLineOne (line : List Byte) (s : State) : State := s.mapCompositor fun k => { k with line1 := line }

/-- An output frame start.
DESIGN CHOICE, unsafe (log 39): line 2 is chosen after the VIEW record of step 1, whichever side of it the
countdown falls on, so a mark which that record fires is a candidate. -/
def outputFrame (written : Option TileSide) (s : State) : State :=
  let s1 := embedMark (frameEvents written s)
  setLineOne (if Config.lineOneFirst s.draws then lineOne (frameBegun s) else lineOne s1) s1

end Sys2Proof.Machine
end

