-- ==== Sys2Proof/Machine/PictureCommands.lean ====
section
/-! DEFINITION. The commands of the compositor, the remap unit and the claim table (chapters 4, 5 and 8). -/

namespace Sys2Proof.Machine

/-- OUTPUT_FRAME_START (R77). -/
def execOutputFrameStart (written : Option TileSide) (s : State) : Host.Outcome State Fault Refusal :=
  .next (outputFrame written s)

/-- PAIR_RENDERED (R79). -/
def execPairRendered (s : State) : Host.Outcome State Fault Refusal := .next (finishPair s)

/-- A refill's completion once its slot is free (R66): an orphan is discarded, and a pair outside the
map area is a fault (log 25). -/
def completeRefill (f : Refill) (s : State) : Host.Outcome State Fault Refusal :=
  if s.remap.orphan f then .next (issueWaiting s)
  else match fetchPair s.loaded f.key with
    | some pair => .next (issueWaiting (completeFetched f pair.1 pair.2 s))
    | none => .fault (.outsideMapArea f.key)

/-- REFILL_COMPLETION (R66). -/
def execRefillCompletion (slot : Fin 2) (s : State) : Host.Outcome State Fault Refusal :=
  match s.remap.slot slot with
  | some f => completeRefill f (s.mapRemap fun r => r.freeSlotOf slot)
  | none => .next s

/-- Whether a claim has reached its expiry millisecond (R136). -/
def claimDue (now : Word) (c : Option Claim) : Bool :=
  match c with
  | some k =>
    match k.expiry with
    | some t => reached now t
    | none => false
  | none => false

/-- A claim expires: it leaves its slot, the lapse counts, CLAIM_LAPSED is raised, and the change is decided (R136). -/
def lapseClaim (m : Master) (s : State) : State :=
  let s1 := setClaim (masterSlot m) none s
  let s2 := s1.mapArbiter fun a => { a with lapses := a.lapses.set m (satAdd (a.lapses.get m) 1) }
  decisionEvent (raiseNotice .claimLapsed s2)

/-- CLAIM_EXPIRY (R136). -/
def execClaimExpiry (m : Master) (s : State) : Host.Outcome State Fault Refusal :=
  if claimDue s.ms (s.arbiter.claims.get (masterSlot m)) then .next (lapseClaim m s) else .next s

end Sys2Proof.Machine
end

