-- ==== Sys2Proof/Machine/Tracker.lean ====
section
/-! DEFINITION. Chapter 6, second part: the tracker update up to its bounds stage. -/

namespace Sys2Proof.Machine

/-- A track as an update works on it: where it stands, whether this update created it, and the
sightings it took (R108). -/
structure Candidate where
  track : Track
  atX : Int
  atY : Int
  created : Bool
  took : List Sighting
  deriving DecidableEq, Repr

/-- What the associate stage works on: the slots, the last number issued and the sightings discarded. -/
structure Association where
  slots : List (Option Candidate)
  lastNumber : Nat
  overflow : Nat
  deriving DecidableEq, Repr

/-! ## Predict (R9) -/

/-- The predicted position of each slot's track (R9). -/
def predictAll (l : List (Option Track)) : List (Option (Int × Int)) := l.map fun t => t.map predictTrack

/-- A track of the list at its predicted position. -/
def candidateAt (t : Track) (p : Option (Int × Int)) : Candidate :=
  let q := p.getD (t.x, t.y)
  ⟨t, q.1, q.2, false, []⟩

/-- The slots at the beginning of the associate stage. -/
def startSlots (l : List (Option Track)) (predicted : List (Option (Int × Int))) : List (Option Candidate) :=
  l.mapIdx fun i t => t.map fun t => candidateAt t (predicted.getD i none)

/-! ## Associate (R108, R109) -/

/-- The slot of the nearest candidate within the gate, the lowest slot among equals (R108). -/
def nearestFrom (gate : Nat) (g : Sighting) : Nat → List (Option Candidate) → Option (Nat × Nat) → Option (Nat × Nat)
  | _, [], best => best
  | i, none :: l, best => nearestFrom gate g (i + 1) l best
  | i, some k :: l, best =>
    let d := groundDistance g.x g.y k.atX k.atY
    let better := match best with
      | none => decide (d ≤ gate)
      | some b => decide (d < b.1)
    nearestFrom gate g (i + 1) l (if better then some (d, i) else best)

/-- The slot that takes a sighting, if one is within the gate (R108). -/
def nearest (gate : Nat) (g : Sighting) (slots : List (Option Candidate)) : Option Nat :=
  (nearestFrom gate g 0 slots none).map Prod.snd

/-- The mask of one source. -/
def sourceMask (c : SightingSource) : SourceMask :=
  match c with
  | .range => ⟨true, false⟩
  | .motion => ⟨false, true⟩

/-- Two masks together. -/
def SourceMask.join (a b : SourceMask) : SourceMask := ⟨a.range || b.range, a.motion || b.motion⟩

/-- A candidate takes a sighting; a track created in this update adds its source to its mask (R108, R109). -/
def takeSighting (g : Sighting) (k : Candidate) : Candidate :=
  { k with
    took := k.took ++ [g]
    track := if k.created then { k.track with mask := k.track.mask.join (sourceMask g.source) } else k.track }

/-- Whether a number is carried by a track of the slots. -/
def numberCarried (slots : List (Option Candidate)) (n : Nat) : Bool :=
  slots.any fun k => match k with
    | some k => decide (k.track.number = n)
    | none => false

/-- The number after `n`, 256 being taken as 1 (R106). -/
def stepNumber (n : Nat) : Nat := if 255 ≤ n then 1 else n + 1

/-- The first number from `candidate` on that no track carries; `fuel` bounds the search (R106). -/
def freeNumber (slots : List (Option Candidate)) : Nat → Nat → Nat
  | 0, candidate => candidate
  | fuel + 1, candidate =>
    if numberCarried slots candidate then freeNumber slots fuel (stepNumber candidate) else candidate

/-- The track that a sighting creates (R109). -/
def newTrack (n : Nat) (g : Sighting) : Track where
  number := n
  state := .tentative
  x := g.x
  y := g.y
  vx := 0
  vy := 0
  hits := 1
  misses := 0
  mask := sourceMask g.source
  computed := .none
  stored := .none
  fall := 0
  best := none

/-- The lowest empty slot. -/
def emptySlot (slots : List (Option Candidate)) : Option Nat :=
  let i := slots.findIdx Option.isNone
  if i < slots.length then some i else none

/-- Whether a candidate is replaceable (R109). -/
def replaceable (k : Candidate) : Bool := decide (k.track.state = .coasting) && k.took.isEmpty && !k.created

/-- The slot of the replaceable track with the most misses, the lowest slot among equals (R109). -/
def replaceSlotFrom : Nat → List (Option Candidate) → Option (Nat × Nat) → Option (Nat × Nat)
  | _, [], best => best
  | i, none :: l, best => replaceSlotFrom (i + 1) l best
  | i, some k :: l, best =>
    let better := replaceable k && (match best with
      | none => true
      | some b => decide (b.1 < k.track.misses))
    replaceSlotFrom (i + 1) l (if better then some (k.track.misses, i) else best)

/-- The slot in which a new track is created: the lowest empty one, else the replaceable one (R109). -/
def creationSlot (slots : List (Option Candidate)) : Option Nat :=
  match emptySlot slots with
  | some i => some i
  | none => (replaceSlotFrom 0 slots none).map Prod.snd

/-- A new track is created in slot `i`, whose track leaves the list first (R106, R109). -/
def createTrack (i : Nat) (g : Sighting) (a : Association) : Association :=
  let cleared := a.slots.set i none
  let n := freeNumber cleared 16 (stepNumber a.lastNumber)
  { a with slots := cleared.set i (some ⟨newTrack n g, g.x, g.y, true, []⟩), lastNumber := n }

/-- A sighting that no candidate takes (R109). -/
def startTrack (g : Sighting) (a : Association) : Association :=
  match creationSlot a.slots with
  | some i => createTrack i g a
  | none => { a with overflow := a.overflow + 1 }

/-- One sighting of the batch (R108). -/
def associateOne (gate : Nat) (g : Sighting) (a : Association) : Association :=
  match nearest gate g a.slots with
  | some i => { a with slots := a.slots.modify i fun k => k.map (takeSighting g) }
  | none => startTrack g a

/-- The associate stage: the batch in order (R108). -/
def associate (gate : Nat) (batch : List Sighting) (a : Association) : Association :=
  batch.foldl (fun a g => associateOne gate g a) a

/-! ## Update, miss and bounds (R110, R111, R112) -/

/-- The sum of a list of integers. -/
def sumInt (l : List Int) : Int := l.foldl (· + ·) 0

/-- The state of a track that took a sighting, with its new hits (R110). -/
def seenState (x : TrackState) (hits : Nat) : TrackState :=
  match x with
  | .tentative => if 3 ≤ hits then .confirmed else .tentative
  | .confirmed => .confirmed
  | .coasting => .confirmed

/-- A track that took sightings (R110, R10, R11). -/
def seenTrack (t : Track) (took : List Sighting) : Track :=
  let x := meanCoordinate (sumInt (took.map Sighting.x)) took.length
  let y := meanCoordinate (sumInt (took.map Sighting.y)) took.length
  let hits := min (t.hits + 1) 255
  { t with
    x := x
    y := y
    vx := smoothVelocity t.vx t.x x
    vy := smoothVelocity t.vy t.y y
    hits := hits
    misses := 0
    mask := took.foldl (fun m g => m.join (sourceMask g.source)) ⟨false, false⟩
    state := seenState t.state hits }

/-- A track that took no sighting, at its predicted position (R111). -/
def missedTrack (t : Track) (x y : Int) : Option Track :=
  match t.state with
  | .tentative => none
  | .confirmed => some { t with state := .coasting, misses := 1, x := x, y := y }
  | .coasting => if 5 ≤ t.misses + 1 then none else some { t with misses := t.misses + 1, x := x, y := y }

/-- A candidate after the update and miss stages. -/
def settleCandidate (k : Candidate) : Option Track :=
  if k.created then some k.track
  else if k.took.isEmpty then missedTrack k.track k.atX k.atY
  else some (seenTrack k.track k.took)

/-- The bounds stage for one slot (R112). -/
def boundTrack (t : Option Track) : Option Track :=
  match t with
  | some t => if inBounds t.x t.y then some t else none
  | none => none

/-- The list after the update, miss and bounds stages. -/
def settleSlots (slots : List (Option Candidate)) : List (Option Track) :=
  slots.map fun k => boundTrack (k.bind settleCandidate)

/-- The association of an update (R108). -/
def associateUpdate (gate : Nat) (t : Tracker) (u : Update) : Association :=
  associate gate u.batch ⟨startSlots t.tracks u.predicted, t.lastNumber, 0⟩

/-- An update begins (R107, R9, log 20). -/
def beginUpdate (v : VehicleReading) (t : Tracker) : Tracker :=
  { t with queue := [], update := some ⟨t.queue, predictAll t.tracks, v⟩ }

/-- The tracker at an expiry of its timer (R107). -/
def trackerExpiry (now : Word) (v : VehicleReading) (t : Tracker) : Tracker :=
  let t1 := { t with timer := some now }
  match t.update with
  | none => beginUpdate v t1
  | some _ => t1

end Sys2Proof.Machine
end

