-- ==== Sys2Proof/Machine/Alert.lean ====
section
/-! DEFINITION. Chapter 7: zone activity, the alert evaluation stage, the alert claim, the warning and the end of a tracker update. -/

namespace Sys2Proof.Machine

/-! ## Zones (R120) -/

/-- Whether a zone's condition is satisfied; a condition on an UNKNOWN field is (R120). -/
def conditionMet (v : VehicleReading) (c : ZoneCondition) : Bool :=
  match c with
  | .always => true
  | .speedAtMost n =>
    match v.speed with
    | some x => decide (x ≤ n)
    | none => true
  | .moving =>
    match v.speed with
    | some x => decide (0 < x)
    | none => true
  | .indicatorOn =>
    match v.indicator with
    | some x => decide (x = .on)
    | none => true
  | .reverse =>
    match v.gear with
    | some x => decide (x = .reverse)
    | none => true
  | .liftActive =>
    match v.lift with
    | some x => decide (x = .cycling)
    | none => true

/-- Whether a zone is active (R120). -/
def zoneActive (v : VehicleReading) (z : Zone) : Bool := z.enabled && conditionMet v z.condition

/-- The activity set (R120). -/
def activitySet (zones : List Zone) (v : VehicleReading) : ZoneSet :=
  zones.foldl (fun a z => if zoneActive v z then a ||| (1#8 <<< z.index.val) else a) 0#8

/-- The active zone of an index. -/
def activeZone (zones : List Zone) (v : VehicleReading) (i : Nat) : Option Zone :=
  match findZone zones i with
  | some z => if zoneActive v z then some z else none
  | none => none

/-! ## Rating (R121, R122) -/

/-- The contribution of an active zone to a track that is not TENTATIVE (R121). -/
def contribution (z : Zone) (t : Track) : Level :=
  if t.state = .tentative then .none
  else if zoneContains z t.x t.y then (if closingRaises z.closing t.y t.vy then .danger else z.level)
  else .none

/-- The contribution of the zone of an index, NONE when it is not active. -/
def contributionAt (zones : List Zone) (v : VehicleReading) (t : Track) (i : Nat) : Level :=
  match activeZone zones v i with
  | some z => contribution z t
  | none => .none

/-- The highest of a list of levels. -/
def highest (l : List Level) : Level := l.foldl Level.max .none

/-- The computed level of a track (R121). -/
def computedLevel (zones : List Zone) (v : VehicleReading) (t : Track) : Level :=
  highest ((List.range 8).map (contributionAt zones v t))

/-- The lowest zone index that gives the level `top` (R121). -/
def bestZoneOf (zones : List Zone) (v : VehicleReading) (t : Track) (top : Level) : Option (Fin 8) :=
  ([0, 1, 2, 3, 4, 5, 6, 7] : List (Fin 8)).find? fun i => decide (contributionAt zones v t i.val = top)

/-- The stored level and fall count of a track that computes `c` (R122). -/
def settleLevel (c : Level) (t : Track) : Level × Nat :=
  if t.stored.code < c.code then (c, 0)
  else if c = t.stored then (t.stored, 0)
  else if t.fall ≤ 1 then (t.stored, t.fall + 1)
  else (c, 0)

/-- A track rated (R121, R122). -/
def rateTrack (zones : List Zone) (v : VehicleReading) (t : Track) : Track :=
  let c := computedLevel zones v t
  { t with
    computed := c
    best := if c = .none then t.best else bestZoneOf zones v t c
    stored := (settleLevel c t).1
    fall := (settleLevel c t).2 }

/-- The list rated. -/
def rateTracks (zones : List Zone) (v : VehicleReading) (l : List (Option Track)) : List (Option Track) :=
  l.map fun t => t.map (rateTrack zones v)

/-! ## S, the highest track and occupancy (R123, R124) -/

/-- The system alert level of a list (R123). -/
def systemLevel (l : List (Option Track)) : Level := highest ((heldTracks l).map Track.stored)

/-- The highest track of a list (R123). -/
def highestTrack (l : List (Option Track)) : Option Track :=
  (heldTracks l).find? fun t => decide (t.stored = systemLevel l)

/-- The live occupancy level of the zone of an index (R124). -/
def occupancyLevel (zones : List Zone) (v : VehicleReading) (l : List (Option Track)) (i : Nat) : Level :=
  highest ((heldTracks l).map fun t => contributionAt zones v t i)

/-- The live occupancy levels of Z0 to Z7 (R124). -/
def occupancyLevels (zones : List Zone) (v : VehicleReading) (l : List (Option Track)) : List Level :=
  (List.range 8).map (occupancyLevel zones v l)

/-! ## The alert claim (R126) -/

/-- A wanted claim. -/
structure Wanted where
  layout : Nat
  level : Nat
  deriving DecidableEq, Repr

/-- The view layout of a zone index. -/
def zoneView (zones : List Zone) (z : Option (Fin 8)) : Option Nat :=
  match z with
  | none => none
  | some i =>
    match findZone zones i.val with
    | some k => k.view
    | none => none

/-- The level of an alert claim: 6 at DANGER, 4 at CAUTION, none below (R126). -/
def claimLevel (v : Level) : Option Nat :=
  match v with
  | .danger => some 6
  | .caution => some 4
  | .notice => none
  | .none => none

/-- The wanted claim (R126). -/
def wantedClaim (zones : List Zone) (l : List (Option Track)) : Option Wanted :=
  match claimLevel (systemLevel l), (highestTrack l).bind fun t => zoneView zones t.best with
  | some n, some view => some ⟨view, n⟩
  | _, _ => none

/-- The linger timer takes a value. -/
def setLinger (x : Option Word) (s : State) : State := s.mapAlert fun a => { a with linger := x }

/-- The ALERT slot takes the wanted claim; a claim for the layout it already names keeps its granted
flag (R126, log 32). -/
def writeAlertClaim (held : Option Claim) (w : Wanted) (s : State) : State :=
  let granted := match held with
    | some k => k.granted && decide (k.layout = w.layout)
    | none => false
  changeClaim 3 (some ⟨w.layout, w.level, none, granted⟩) s

/-- The wanted claim against the one held (R126). -/
def applyWanted (wanted : Option Wanted) (s : State) : State :=
  match s.arbiter.claims.c3, wanted with
  | none, none => s
  | none, some w => writeAlertClaim none w s
  | some k, some w =>
    if k.layout = w.layout ∧ k.level = w.level then setLinger none s
    else setLinger none (writeAlertClaim (some k) w s)
  | some _, none =>
    match s.alert.linger with
    | none => setLinger (some s.ms) s
    | some _ => s

/-- The alert claim at the end of an update, in RUNNING alone (R126). -/
def decideAlertClaim (s : State) : State :=
  if s.mode = .running then applyWanted (wantedClaim s.loaded.zones s.tracker.tracks) s else s

/-! ## The warning (R128) -/

/-- The silence flag is cleared while S is below the warning level. -/
def clearSilence (a : Alert) : Alert :=
  if a.level.code < a.warningLevel.code then { a with silence := false } else a

/-! ## The end of a tracker update (R105, R120 to R128) -/

/-- The tracker at the end of an update: the rated list is published. -/
def publishTracks (now : Word) (zones : List Zone) (v : VehicleReading) (a : Association) (t : Tracker) : Tracker :=
  { t with
    tracks := rateTracks zones v (settleSlots a.slots)
    publishedMs := now
    lastNumber := a.lastNumber
    update := none
    overflow := satAdd t.overflow a.overflow }

/-- The alert evaluator's results over the published list: activity, S, occupancy and latches. -/
def publishAlert (zones : List Zone) (v : VehicleReading) (l : List (Option Track)) (a : Alert) : Alert :=
  let levels := occupancyLevels zones v l
  { a with
    activity := activitySet zones v
    level := systemLevel l
    occupancy := levels
    latched := a.latched.map fun z => z ||| occupancySet levels }

/-- What the end of an update publishes. -/
def publishUpdate (u : Update) (a : Association) (s : State) : State :=
  let s1 := s.mapTracker (publishTracks s.ms s.loaded.zones u.vehicle a)
  s1.mapAlert fun k => clearSilence (publishAlert s.loaded.zones u.vehicle s1.tracker.tracks k)

/-- The notice of a change of S (R123). -/
def levelNotice (old new : Level) (s : State) : State :=
  if old.code < new.code then raiseNotice .alertRise s
  else if new.code < old.code then raiseNotice .alertFall s
  else s

/-- The ALERT record of a change of S (R123). -/
def levelRecord (old new : Level) (top : Option Track) : EventRecord :=
  match top with
  | some t => .alert new old t.best t.mask
  | none => .alert new old none ⟨false, false⟩

/-- What a change of S does besides: an early broadcast, and the ALERT record, offered last (R123, R170). -/
def offerLevel (old : Level) (s : State) : State :=
  if old = s.alert.level then s
  else offerRecord (levelRecord old s.alert.level (highestTrack s.tracker.tracks)) (oweBroadcasts s)

/-- The notice of discarded sightings, once an update (R109). -/
def overflowNotice (a : Association) (s : State) : State :=
  if 0 < a.overflow then raiseNotice .trackOverflow s else s

/-- The arms that read S or the warning condition are recomputed (R96, R128). -/
def rearmLevels (s : State) : State := rearm (fun src => readsLevel src || readsWarning src) s

/-- The end of a tracker update.
DESIGN CHOICE, unsafe (log 36): TRACK_OVERFLOW is raised before the notice of a change of S. -/
def completeUpdate (u : Update) (s : State) : State :=
  let a := associateUpdate s.loaded.gate s.tracker u
  let s1 := rearmLevels (publishUpdate u a s)
  let s2 := levelNotice s.alert.level s1.alert.level (overflowNotice a s1)
  offerLevel s.alert.level (decideAlertClaim s2)

/-! ## Vehicle state (R116 to R119) -/

/-- A field written by a message at `now` (R116). -/
def writeEntry {α : Type} (now : Word) (v : Option α) : VehicleEntry α := ⟨v, some now, some now⟩

/-- A gear code; `none` is an undefined one (10.7). -/
def gearOfCode (n : Nat) : Option (Option Gear) :=
  match n with
  | 0 => some (some .forward)
  | 1 => some (some .neutral)
  | 2 => some (some .reverse)
  | 3 => some none
  | _ => none

/-- An indicator code; `none` is an undefined one (10.7). -/
def indicatorOfCode (n : Nat) : Option (Option Indicator) :=
  match n with
  | 0 => some (some .off)
  | 1 => some (some .on)
  | 3 => some none
  | _ => none

/-- A lift code; `none` is an undefined one (10.7). -/
def liftOfCode (n : Nat) : Option (Option Lift) :=
  match n with
  | 0 => some (some .idle)
  | 1 => some (some .cycling)
  | 3 => some none
  | _ => none

/-- A speed field: 65535 is not available, one above 4000 is stored as 4000 (R116). -/
def speedOfField (n : Nat) : Option Nat := if n = 65535 then none else some (min n 4000)

/-- The vehicle record after a VEHICLE_STATUS, nothing when it is malformed (R116). -/
def takeVehicleStatus (now : Word) (data : List Byte) (v : Vehicle) : Option Vehicle :=
  if data.length = 4 then
    match gearOfCode (byteAt data 2), indicatorOfCode (byteAt data 3) with
    | some g, some i =>
      some { v with
        speed := writeEntry now (speedOfField (u16At data 0))
        gear := writeEntry now g
        indicator := writeEntry now i }
    | _, _ => none
  else none

/-- The vehicle record after a BODY_STATUS, nothing when it is malformed (R117). -/
def takeBodyStatus (now : Word) (data : List Byte) (v : Vehicle) : Option Vehicle :=
  if data.length = 1 then
    match liftOfCode (byteAt data 0) with
    | some x => some { v with lift := writeEntry now x }
    | none => none
  else none

/-- The vehicle record takes a new value; a change of what it reads offers a VEHICLE record (R119). -/
def changeVehicle (v : Vehicle) (s : State) : State :=
  let s1 := s.mapAlert fun a => { a with vehicle := v }
  if vehicleReading v = vehicleReading s.alert.vehicle then s1 else offerRecord (.vehicle (vehicleReading v)) s1

/-- A field at the expiry of its staleness timer (R118). -/
def staleEntry {α : Type} (e : VehicleEntry α) : VehicleEntry α := { e with value := none, timer := none }

/-- The record with the field at its expiry. -/
def staleVehicle (f : VehicleField) (v : Vehicle) : Vehicle :=
  match f with
  | .speed => { v with speed := staleEntry v.speed }
  | .gear => { v with gear := staleEntry v.gear }
  | .indicator => { v with indicator := staleEntry v.indicator }
  | .lift => { v with lift := staleEntry v.lift }

/-- The staleness timer of a field. -/
def fieldTimer (f : VehicleField) (v : Vehicle) : Option Word :=
  match f with
  | .speed => v.speed.timer
  | .gear => v.gear.timer
  | .indicator => v.indicator.timer
  | .lift => v.lift.timer

/-- Whether a field holds a known value. -/
def fieldKnown (f : VehicleField) (v : Vehicle) : Bool :=
  match f with
  | .speed => v.speed.value.isSome
  | .gear => v.gear.value.isSome
  | .indicator => v.indicator.value.isSome
  | .lift => v.lift.value.isSome

/-- The expiry of a field's staleness timer (R118, R119).
DESIGN CHOICE, unsafe (log 36): the notice is raised before the record is offered. -/
def goStale (f : VehicleField) (s : State) : State :=
  let known := fieldKnown f s.alert.vehicle
  let s1 := s.mapAlert fun a => { a with vehicle := staleVehicle f a.vehicle }
  if known then offerRecord (.vehicle (vehicleReading s1.alert.vehicle)) (raiseNotice .vehicleStale s1) else s1

end Sys2Proof.Machine
end

