-- ==== Sys2Proof/Machine/Ports.lean ====
section
/-! DEFINITION. Chapter 10: the CRC, the frames the part sends, the CAN ports, the status broadcast and the request queues. -/

namespace Sys2Proof.Machine

/-! ## The CRC-16 (R159) -/

/-- One bit of the CRC register. -/
def crcBit (r : Half) : Half := if r.msb then (r <<< 1) ^^^ 0x1021#16 else r <<< 1

/-- One byte enters the CRC register, most significant bit first. -/
def crcByte (r : Half) (b : Byte) : Half :=
  let x := r ^^^ (b.setWidth 16 <<< 8)
  crcBit (crcBit (crcBit (crcBit (crcBit (crcBit (crcBit (crcBit x)))))))

/-- The CRC-16 of a list of bytes (R159). -/
def crc16 (l : List Byte) : Half := l.foldl crcByte 0xFFFF#16

/-! ## Requests and their kinds (10.3) -/

/-- The kinds that are requests. -/
def requestKinds : List Nat :=
  [0x01, 0x02, 0x03, 0x04, 0x05, 0x06, 0x10, 0x11, 0x12, 0x13, 0x14, 0x15, 0x18, 0x19, 0x1A,
   0x20, 0x21, 0x22, 0x23, 0x24, 0x25]

/-- Whether a kind is a request. -/
def isRequest (kind : Byte) : Bool := requestKinds.contains kind.toNat

/-- The permission table of 10.3: the CAN masters may send the first five kinds. -/
def permitted (m : Master) (kind : Byte) : Bool :=
  match m with
  | .cab => true
  | .body => decide (kind.toNat ≤ 5)
  | .chassis => decide (kind.toNat ≤ 5)

/-- The CAN port of a master. -/
def masterPort : Master → Option Port
  | .cab => none
  | .body => some .body
  | .chassis => some .chassis

/-- A port through `f`. -/
def mapPort (p : Port) (f : CanPort → CanPort) (s : State) : State :=
  s.mapPorts fun q => { q with can := q.can.set p (f (q.can.get p)) }

/-- Whether a port is ACTIVE. -/
def portActive (p : Port) (s : State) : Bool := decide ((s.ports.can.get p).state = .active)

/-! ## Responses (R160, R161) -/

/-- A frame joins a port's transmit store. -/
def storeFrame (p : Port) (f : CanFrame) (s : State) : State := mapPort p (fun q => { q with store := q.store ++ [f] }) s

/-- A response to a request of master `m` is produced. -/
def respond (m : Master) (r : Request) (code : ResponseCode) (results : List Byte) (role : FrameRole) (s : State) : State :=
  match masterPort m with
  | none => s.mapPorts (produceCab (.frame ⟨r.kind, r.tag, toByte code.code :: results, role⟩))
  | some p => storeFrame p ⟨s.loaded.ports.base.get p + 1, [r.kind, r.tag, toByte code.code] ++ results, role⟩ s

/-! ## Queues (R163) -/

/-- Whether a frame is the response to a taken request. -/
def FrameRole.isAnswer : FrameRole → Bool
  | .unasked => false
  | .busy => false
  | .answer => true
  | .restart => true

/-- Whether a waiting cab frame is the response to a taken request. -/
def CabWaiting.isAnswer : CabWaiting → Bool
  | .frame f => f.role.isAnswer
  | .notice => false

/-- Whether the response to the master's last taken request has not been sent whole yet. -/
def answering (m : Master) (s : State) : Bool :=
  match masterPort m with
  | none => (s.ports.sending.any fun f => f.role.isAnswer) || s.ports.waiting.any CabWaiting.isAnswer
  | some p => (s.ports.can.get p).store.any fun f => f.role.isAnswer

/-- Whether a master's requests reach the part: a CAN port that is not ACTIVE receives nothing (R162). -/
def canReceive (m : Master) (s : State) : Bool :=
  match masterPort m with
  | none => true
  | some p => portActive p s

/-- A queue takes a value. -/
def setQueue (m : Master) (q : List Request) (s : State) : State :=
  s.mapPorts fun p => { p with queues := p.queues.set m q }

/-! ## The status broadcast (R170, 10.7) -/

/-- The byte that carries two bits of each camera. -/
def packCameras (f : Camera → Nat) : Byte := toByte (f 0 + 4 * f 1 + 16 * f 2 + 64 * f 3)

/-- The eight bytes of a broadcast to master `m` (10.7). -/
def broadcastBytes (m : Master) (s : State) : List Byte :=
  [toByte (s.alert.level.code + if warningLine s then 16 else 0), toByte (layoutCode s.arbiter.shown),
    toByte (winningSource s.arbiter).code, packCameras fun c => (s.intake.get c).link.code,
    packCameras fun c => (s.exposure.get c).condition.code] ++
  bytes16 (s.ports.pendingSets.get m) ++ [occupancySet s.alert.occupancy]

/-- A broadcast is sent: it carries and empties the pending set, and the period runs anew (R170). -/
def sendBroadcast (p : Port) (s : State) : State :=
  let f : CanFrame := ⟨s.loaded.ports.base.get p + 2, broadcastBytes (portMaster p) s, .unasked⟩
  let s1 := s.mapPorts fun q => { q with pendingSets := q.pendingSets.set (portMaster p) 0#16 }
  mapPort p (fun q => { q with store := q.store ++ [f], timer := some s.ms, owed := false }) s1

/-- Whether a port's broadcast is due (R170). -/
def broadcastDue (now : Word) (q : CanPort) : Bool :=
  timerDue now q.timer 100 || (q.owed && timerDue now q.timer 20)

/-- A port joins its bus ACTIVE, its error counts at zero, and broadcasts at once (R162, R170). -/
def joinBus (p : Port) (s : State) : State :=
  sendBroadcast p (mapPort p (fun q => { q with state := .active, txErrors := 0, rxErrors := 0 }) s)

/-- A port goes bus-off (R162): its queue and transmit store are emptied. -/
def goBusOff (p : Port) (s : State) : State :=
  let e := Config.busOffErrors s.draws
  let s1 := mapPort p (fun q =>
    { q with state := .busOff s.ms, store := [], txErrors := e.1, rxErrors := e.2 }) s
  { setQueue (portMaster p) [] s1 with draws := s.draws + 1 }

/-- Whether a port has been bus-off for 1000 ms (R162). -/
def recoveryDue (now : Word) (q : CanPort) : Bool :=
  match q.state with
  | .busOff since => timerDue now (some since) 1000
  | .active => false
  | .joining => false

/-! ## The cab framer (R159) -/

/-- The start byte of a cab frame (R159). -/
def startByte : Byte := 0x7E#8

/-- The framer takes a state. -/
def setFramer (x : Framer) (s : State) : State := s.mapPorts fun p => { p with framer := x }

/-- A broken cab frame: counted, the framer in HUNT. -/
def breakFrame (s : State) : State :=
  s.mapPorts fun p => { p with framer := .hunt, frameErrors := satAdd p.frameErrors 1 }

/-- The framer returns to HUNT. -/
def endCabFrame (s : State) : State := setFramer .hunt s

/-- A data message from the wrong master is counted (R161). -/
def countWrongData (s : State) : State := s.mapPorts fun p => { p with wrongData := satAdd p.wrongData 1 }

/-- Whether a kind is a data message (10.3). -/
def isDataKind (kind : Byte) : Bool := decide (kind = 0x30#8) || decide (kind = 0x31#8) || decide (kind = 0x32#8)

/-- Whether a data message of this kind on this carrier is ignored and counted (R161). -/
def wrongCarrier (m : Master) (kind : Byte) : Bool :=
  match m with
  | .cab => isDataKind kind
  | .body => decide (kind ≠ 0x31#8) && decide (kind ≠ 0x32#8)
  | .chassis => decide (kind ≠ 0x30#8)

/-- The CRC that ends a cab frame, most significant byte first. -/
def receivedCrc (l : List Byte) : Half := BitVec.ofNat 16 (256 * byteAt l (l.length - 2) + byteAt l (l.length - 1))

/-- Whether the bytes after a start byte are a whole cab frame with the right CRC (R159): length byte,
kind, tag, payload, CRC. -/
def cabFrameWhole (l : List Byte) : Bool :=
  decide (byteAt l 0 ≤ 200) && decide (l.length = byteAt l 0 + 5) &&
    decide (crc16 (l.take (l.length - 2)) = receivedCrc l)

/-- The bytes of a frame between its start byte and its CRC: length byte, kind, tag, payload (R159). -/
def CabFrame.body (f : CabFrame) : List Byte := toByte f.payload.length :: f.kind :: f.tag :: f.payload

/-- The bytes that a frame the part sends puts on the cab serial link: the start byte, the bytes that the
CRC covers, and the CRC, most significant byte first (R159, R160). -/
def CabFrame.linkBytes (f : CabFrame) : List Byte :=
  startByte :: f.body ++ [toByte ((crc16 f.body).toNat / 256), toByte (crc16 f.body).toNat]

/-- What the part is sending on the cab serial link: the bytes of the frame being sent, none when the link
is idle. -/
def cabLine (s : State) : List Byte :=
  match s.ports.sending with
  | some f => f.linkBytes
  | none => []

/-- The request of a whole cab frame. -/
def cabRequest (l : List Byte) : Request := ⟨l.getD 1 0#8, l.getD 2 0#8, (l.drop 3).take (byteAt l 0)⟩

end Sys2Proof.Machine
end

