-- ==== Sys2Proof/Machine/Reset.lean ====
section
/-! DEFINITION. Chapter 11: flash operations on the cells, the restart, the power-on reset and the exit from SERVICE. -/

namespace Sys2Proof.Machine

/-! ## Flash operations (R174) -/

/-- Byte `i` of a write at address `a`, as the flash holds it afterwards: the AND of old and written (R174). -/
def writtenByte (cells : List Host.Cell) (a : Nat) (data : List Byte) (i : Nat) : Byte :=
  sparseRead erased cells (a + i) &&& data.getD i erased

/-- The flash after a write of 128 bytes at `a` (R174). -/
def flashWritten (cells : List Host.Cell) (a : Nat) (data : List Byte) : List Host.Cell :=
  sparseWriteAll erased cells ((List.range 128).map fun i => (a + i, writtenByte cells a data i))

/-- The flash after an erase of the 4096 bytes at `a` (R174). -/
def flashErased (cells : List Host.Cell) (a : Nat) : List Host.Cell :=
  sparseWriteAll erased cells ((List.range 4096).map fun i => (a + i, erased))

/-- The flash after an operation that a power-on reset cuts, each byte old or new as `isNew` says of
its address (R176, log 14). -/
def flashCut (isNew : Nat → Bool) (f : Flash) : List Host.Cell :=
  match f.op with
  | .idle => f.cells
  | .reading _ => f.cells
  | .writing a data =>
    sparseWriteAll erased f.cells
      (((List.range 128).filter fun i => isNew (a + i)).map fun i => (a + i, writtenByte f.cells a data i))
  | .erasing a =>
    sparseWriteAll erased f.cells
      (((List.range 4096).filter fun i => isNew (a + i)).map fun i => (a + i, erased))

/-! ## The blocks at a restart (R176) -/

/-- An exposure record at a restart; its mismatch counter is kept (R34, R44). -/
def Exposure.restarted (e : Exposure) : Exposure := { exposureStart with gainMismatch := e.gainMismatch }

/-- The tracker at a restart; its counters are kept (R105, R113). -/
def Tracker.restarted (t : Tracker) : Tracker :=
  { trackerStart with discarded := t.discarded, unknownSensors := t.unknownSensors, overflow := t.overflow }

/-- The arbiter at a restart; its lapse counters are kept (R131). -/
def Arbiter.restarted (a : Arbiter) : Arbiter := { arbiterStart with lapses := a.lapses }

/-- The remap unit at a restart; its counters are kept (R61, R75). -/
def Remap.restarted (r : Remap) : Remap := { remapStart with refills := r.refills, mapFaults := r.mapFaults }

/-- The compositor at a restart; its counter is kept, and the output store and what was sent stand
until the next output frame start (R76). -/
def Compositor.restarted (k : Compositor) : Compositor :=
  { compositorStart with held := k.held, store := k.store, sent := k.sent, line1 := k.line1, line2 := k.line2 }

/-- The incident unit at a restart: the trigger conditions are ARMED, the list and counters kept (R158). -/
def Incident.restarted (k : Incident) : Incident := { k with triggers := Quad.all .armed }

/-- The port controller at a restart; its counters are kept (10.8). -/
def Ports.restarted (p : Ports) : Ports := { portsStart with frameErrors := p.frameErrors, wrongData := p.wrongData }

/-- The flash service at a restart; the contents are kept (R174, R176). -/
def Flash.restarted (f : Flash) : Flash := { flashStart with cells := f.cells }

/-- A restart (R176). -/
def restartPart (s : State) : State :=
  { s with
    loader := loaderStart
    loaded := loadedStart
    intake := s.intake.map CameraIntake.restarted
    exposure := s.exposure.map Exposure.restarted
    motion := motionStart
    tracker := s.tracker.restarted
    alert := alertStart
    arbiter := s.arbiter.restarted
    remap := s.remap.restarted
    compositor := s.compositor.restarted
    incident := s.incident.restarted
    ports := s.ports.restarted
    flash := s.flash.restarted }

/-! ## The power-on reset (R176) -/

/-- The intake counters of a camera at 0 (R32). -/
def CameraIntake.cleared (k : CameraIntake) : CameraIntake := { k with dropped := 0#16, torn := 0#16, mismatch := 0#16 }

/-- The intake of a camera at a power-on reset: that of a restart with its counters at 0 (R33).
DESIGN CHOICE, unsafe (log 35): no output frame has started, so the camera is not in use. -/
def CameraIntake.poweredOn (k : CameraIntake) : CameraIntake := { k.restarted.cleared with inUse := false }

/-- A power-on reset: the start values of a restart, the two counters, the mark number counter and
every statistics counter at 0, the incident list empty (R176). -/
def powerOn (s : State) : State :=
  { restartPart s with
    ms := 0#32
    frame := 0#32
    intake := s.intake.map CameraIntake.poweredOn
    exposure := Quad.all exposureStart
    tracker := trackerStart
    arbiter := arbiterStart
    remap := remapStart
    compositor := { s.compositor.restarted with held := 0#16 }
    incident := incidentStart
    ports := portsStart
    flash := { flashStart with cells := flashCut (Config.cutByteIsNew s.draws) s.flash }
    draws := s.draws + 1 }

/-! ## Automatic exit from SERVICE (R175) -/

/-- Whether the speed field reads a known 0. -/
def standing0 (s : State) : Bool := decide (s.alert.vehicle.speed.value = some 0)

/-- After a change of the speed field: in SERVICE, a speed that reads anything but 0 restarts the part,
or sets the exit-pending flag while a flash operation is in flight (R175). -/
def autoExit (s : State) : State :=
  if s.mode = .service ∧ standing0 s = false then
    if s.flash.op = .idle then restartPart s else s.mapFlash fun f => { f with exitPending := true }
  else s

/-- The end of a flash operation: IDLE, and the pending exit if there is one (R174, R175). -/
def endFlashOp (s : State) : State :=
  let s1 := s.mapFlash fun f => { f with op := .idle }
  if s.flash.exitPending then restartPart s1 else s1

end Sys2Proof.Machine
end

