-- ==== Sys2Proof/Machine/Requests.lean ====
section
/-! DEFINITION. The requests: the general checks of R163, each request's own rule, and the serving of the queues. -/

namespace Sys2Proof.Machine

/-- What the taking of a request gives: the response, the role of its frame, the state after its
effect, and whether a NOTICE frame is produced after the response (R169). -/
structure Answer where
  code : ResponseCode
  results : List Byte
  role : FrameRole
  state : State
  noticeAfter : Bool
  deriving DecidableEq, Repr

/-- A refusal: its code, no results, nothing changed (10.7). -/
def refuse (code : ResponseCode) (s : State) : Answer := ⟨code, [], .answer, s, false⟩

/-- A response with results. -/
def answer (code : ResponseCode) (results : List Byte) (s : State) : Answer := ⟨code, results, .answer, s, false⟩

/-- A request's own rule, when the payload has its length; BAD_FORMAT otherwise (R163). -/
def lengthed (n : Nat) (payload : List Byte) (s : State) (own : Answer) : Answer :=
  if payload.length = n then own else refuse .badFormat s

/-! ## CLAIM_VIEW and DROP_VIEW (R133 to R135) -/

/-- A resolved lifetime: what is held, `none` for no expiry, and whether it was clamped (R134). -/
structure Lifetime where
  held : Option Nat
  clamped : Bool
  deriving DecidableEq, Repr

/-- The lifetime of a claim (R134). -/
def resolveLifetime (m : Master) (n : Nat) : Lifetime :=
  if n = 0 then (if m = .cab then ⟨none, false⟩ else ⟨some 1000, false⟩)
  else if n < 100 then ⟨some 100, true⟩
  else if n ≤ 5000 then ⟨some n, false⟩
  else ⟨some 5000, true⟩

/-- The outcome of an accepted CLAIM_VIEW (R134). -/
inductive ClaimOutcome where
  | new
  | refreshed
  | replaced
  deriving DecidableEq, Repr

/-- The code of an outcome (10.7). -/
def ClaimOutcome.code : ClaimOutcome → Nat
  | .new => 0
  | .refreshed => 1
  | .replaced => 2

/-- The outcome for a slot and the requested layout (R134). -/
def claimOutcome (held : Option Claim) (layout : Nat) : ClaimOutcome :=
  match held with
  | none => .new
  | some k => if k.layout = layout then .refreshed else .replaced

/-- Whether a written claim is granted: the flag is kept by REFRESHED alone (R134, R140). -/
def grantedAfter (held : Option Claim) (layout : Nat) : Bool :=
  match held with
  | none => false
  | some k => k.granted && decide (k.layout = layout)

/-- Whether the write is a claim table change: not for a REFRESHED claim of the same level (R134). -/
def tableChanges (held : Option Claim) (layout level : Nat) : Bool :=
  match held with
  | none => true
  | some k => !(decide (k.layout = layout) && decide (k.level = level))

/-- The claim that an accepted CLAIM_VIEW writes (R134). -/
def writtenClaim (m : Master) (layout level : Nat) (t : Lifetime) (s : State) : Claim where
  layout := layout
  level := min level (s.loaded.ports.maxLevel.get m)
  expiry := t.held.map fun n => s.ms + BitVec.ofNat 32 n
  granted := grantedAfter (s.arbiter.claims.get (masterSlot m)) layout

/-- The table after an accepted CLAIM_VIEW, with the decision of a claim table change (R134, R138). -/
def writeClaim (m : Master) (k : Claim) (s : State) : State :=
  if tableChanges (s.arbiter.claims.get (masterSlot m)) k.layout k.level then
    changeClaim (masterSlot m) (some k) s
  else setClaim (masterSlot m) (some k) s

/-- An accepted CLAIM_VIEW (R134). -/
def acceptClaim (m : Master) (layout level lifetime : Nat) (s : State) : Answer :=
  let t := resolveLifetime m lifetime
  let k := writtenClaim m layout level t s
  let clamped := t.clamped || decide (k.level < level)
  answer (if clamped then .doneClamped else .done)
    ([toByte (claimOutcome (s.arbiter.claims.get (masterSlot m)) layout).code, toByte k.level] ++
      bytes16 (BitVec.ofNat 16 (t.held.getD 0)))
    (writeClaim m k s)

/-- CLAIM_VIEW (R133). -/
def takeClaimView (m : Master) (payload : List Byte) (s : State) : Answer :=
  if s.loaded.ports.mayClaim.get m = false then refuse .notPermitted s
  else if payload.length ≠ 4 then refuse .badFormat s
  else if s.mode = .service then refuse .wrongState s
  else if 11 < byteAt payload 0 ∨ layoutPresent s.loaded.layouts (byteAt payload 0) = false then refuse .outOfRange s
  else acceptClaim m (byteAt payload 0) (byteAt payload 1) (u16At payload 2) s

/-- DROP_VIEW (R133, R135). -/
def takeDropView (m : Master) (payload : List Byte) (s : State) : Answer :=
  if s.loaded.ports.mayClaim.get m = false then refuse .notPermitted s
  else if payload.length ≠ 0 then refuse .badFormat s
  else
    match s.arbiter.claims.get (masterSlot m) with
    | none => answer .done [0#8] s
    | some _ => answer .done [1#8] (changeClaim (masterSlot m) none s)

/-! ## TAKE_LATCHES (R125) -/

/-- TAKE_LATCHES. -/
def takeTakeLatches (m : Master) (payload : List Byte) (s : State) : Answer :=
  lengthed 0 payload s
    (answer .done [occupancySet s.alert.occupancy, s.alert.latched.get m]
      (s.mapAlert fun a => { a with latched := a.latched.set m 0#8 }))

/-! ## GET_STATUS (R164) -/

/-- The bytes of an expiry: milliseconds left, 0 once reached, 65535 for none (log 30). -/
def expiryBytes (now : Word) (e : Option Word) : List Byte :=
  match e with
  | none => bytes16 0xFFFF#16
  | some t => bytes16 (BitVec.ofNat 16 (if reached now t then 0 else min (t - now).toNat 65534))

/-- The five bytes of a claim slot (10.7, log 30). -/
def claimBytes (now : Word) (c : Option Claim) : List Byte :=
  match c with
  | none => [255#8, 0#8, 0#8] ++ expiryBytes now none
  | some k => [toByte k.layout, toByte k.level, flagByte k.granted] ++ expiryBytes now k.expiry

/-- The ten bytes of a camera (10.7). -/
def cameraBytes (k : CameraIntake) (e : Exposure) : List Byte :=
  [toByte k.link.code, toByte e.condition.code, toByte e.gain.val,
    match e.inFlight with
    | some g => toByte g.index.val
    | none => 255#8,
    BitVec.ofInt 8 e.balance] ++
  match e.stats with
  | some t => [1#8, toByte t.m, toByte t.s] ++ bytes16 (BitVec.ofNat 16 t.h)
  | none => [0#8, 0#8, 0#8, 0#8, 0#8]

/-- The byte of a zone index: its live occupancy level, 255 when the zone is not held (10.7). -/
def zoneByte (s : State) (z : Nat) : Byte :=
  if (findZone s.loaded.zones z).isSome then toByte (s.alert.occupancy.getD z .none).code else 255#8

/-- The full status (10.7). -/
def fullStatus (s : State) : List Byte :=
  let v := vehicleReading s.alert.vehicle
  [toByte s.mode.code, flagByte (decide (s.flash.op ≠ .idle)), toByte s.alert.level.code,
    toByte s.alert.warningLevel.code, flagByte s.alert.silence, flagByte (warningLine s),
    toByte s.arbiter.state.code, toByte (layoutCode s.arbiter.shown),
    toByte (layoutCode (s.arbiter.target.map SwitchTarget.layout)), toByte (winningSource s.arbiter).code,
    toByte s.arbiter.dwell, toByte s.arbiter.home] ++
  (s.arbiter.claims.toList.map (claimBytes s.ms)).flatten ++ vehicleBytes v ++
  (cameraBytes s.intake.c0 s.exposure.c0 ++ cameraBytes s.intake.c1 s.exposure.c1 ++
    cameraBytes s.intake.c2 s.exposure.c2 ++ cameraBytes s.intake.c3 s.exposure.c3) ++
  (List.range 8).map (zoneByte s) ++
  [s.alert.activity, toByte (heldTracks s.tracker.tracks).length, toByte s.incident.marks.length,
    toByte (s.incident.marks.filter fun m => !m.collected).length] ++
  bytes16 s.ports.pendingSets.cab

/-- The five status bytes of a CAN master (10.7). -/
def shortStatus (s : State) : List Byte :=
  [toByte s.mode.code, toByte s.alert.level.code, toByte (layoutCode s.arbiter.shown),
    toByte (winningSource s.arbiter).code, toByte s.arbiter.dwell]

/-- GET_STATUS. -/
def takeGetStatus (m : Master) (payload : List Byte) (s : State) : Answer :=
  lengthed 0 payload s (answer .done (if m = .cab then fullStatus s else shortStatus s) s)

/-! ## MARK_INCIDENT and COLLECT_MARK (R153, R155) -/

/-- MARK_INCIDENT. -/
def takeMarkIncident (m : Master) (payload : List Byte) (s : State) : Answer :=
  let s1 := fireMark (.master m) s
  lengthed 0 payload s
    (if markFits s.incident.marks then answer .done (0#8 :: bytes16 s1.incident.lastNumber) s1
     else answer .done (1#8 :: bytes16 0#16) s1)

/-- The list with its oldest uncollected mark collected. -/
def collectOldest (marks : List Mark) : List Mark :=
  mapFirst (fun m => !m.collected) (fun m => { m with collected := true }) marks

/-- COLLECT_MARK. -/
def takeCollectMark (payload : List Byte) (s : State) : Answer :=
  lengthed 0 payload s
    (match s.incident.marks.find? fun m => !m.collected with
     | some m =>
       answer .done (1#8 :: padTo 48 (markBytes m m.embedded))
         (s.mapIncident fun k => { k with marks := collectOldest k.marks })
     | none => answer .done [0#8] s)

/-! ## ACK_WARNING (R129) -/

/-- ACK_WARNING. -/
def takeAckWarning (payload : List Byte) (s : State) : Answer :=
  lengthed 0 payload s
    (if s.alert.warningLevel.code ≤ s.alert.level.code then
       answer .done [0#8, flagByte s.alert.silence, toByte s.alert.level.code]
         (rearm readsWarning (s.mapAlert fun a => { a with silence := true }))
     else answer .done [1#8, flagByte s.alert.silence, toByte s.alert.level.code] s)

/-! ## GET_TRACKS (R165) -/

/-- The entries of the occupied slots from `first` on, with their slots. -/
def tracksFrom (l : List (Option Track)) (first : Nat) : List (Nat × Track) :=
  (l.zipIdx.filterMap fun p => p.1.map fun t => (p.2, t)).filter fun p => decide (first ≤ p.1)

/-- A GET_TRACKS entry (10.7). -/
def trackBytes (slot : Nat) (t : Track) : List Byte :=
  [toByte slot, toByte t.number, toByte t.state.code] ++ bytesInt16 t.x ++ bytesInt16 t.y ++ bytesInt16 t.vx ++
    bytesInt16 t.vy ++
    [toByte t.hits, toByte t.misses, toByte t.mask.code, toByte t.computed.code, toByte t.stored.code,
      toByte t.fall, toByte (bestCode t.best)]

/-- The slot after the last track returned, 255 when no occupied slot remains (R165). -/
def nextSlot (l : List (Nat × Track)) : Nat :=
  if 10 < l.length then (match l[9]? with
    | some p => p.1 + 1
    | none => 255) else 255

/-- GET_TRACKS. -/
def takeGetTracks (payload : List Byte) (s : State) : Answer :=
  let l := tracksFrom s.tracker.tracks (byteAt payload 0)
  lengthed 1 payload s
    (if 15 < byteAt payload 0 then refuse .outOfRange s
     else
       answer .done
         ([toByte (heldTracks s.tracker.tracks).length] ++ bytes32 s.tracker.publishedMs ++
           [toByte (l.take 10).length, toByte (nextSlot l)] ++
           ((l.take 10).map fun p => trackBytes p.1 p.2).flatten) s)

/-! ## GET_NOTICES and SET_NOTICE_MASK (R169) -/

/-- GET_NOTICES. -/
def takeGetNotices (payload : List Byte) (s : State) : Answer :=
  lengthed 0 payload s
    (answer .done (bytes16 s.ports.pendingSets.cab)
      (s.mapPorts fun p => { p with pendingSets := p.pendingSets.set .cab 0#16 }))

/-- SET_NOTICE_MASK. -/
def takeSetNoticeMask (payload : List Byte) (s : State) : Answer :=
  let h := halfAt payload 0
  lengthed 2 payload s
    { answer .done [] (s.mapPorts fun p => { p with enable := h }) with
      noticeAfter := decide (s.ports.pendingSets.cab &&& h &&& ~~~s.ports.enable ≠ 0#16) }

/-! ## SET_LIVE (R166) -/

/-- A live setting with the value it takes. -/
inductive LiveItem where
  | home (n : Nat)
  | switch (k : OverlayClass) (on : Bool)
  | warning (v : Level)
  | width (g : Fin 4) (phase : BlinkPhase) (n : Nat)
  deriving DecidableEq, Repr

/-- Whether an item code is in the table (R166). -/
def liveCode (code : Nat) : Bool :=
  decide (1 ≤ code ∧ code ≤ 5) || decide (16 ≤ code ∧ code ≤ 23)

/-- A switch value: 0 off, 1 on. -/
def switchValue (n : Nat) : Option Bool :=
  match n with
  | 0 => some false
  | 1 => some true
  | _ => none

/-- A warning level value: 2 CAUTION, 3 DANGER. -/
def warningValue (n : Nat) : Option Level :=
  match n with
  | 2 => some .caution
  | 3 => some .danger
  | _ => none

/-- An item whose code is in the table and whose value is one of its values (R166). -/
def liveItem (table : List Layout) (code v : Nat) : Option LiveItem :=
  if code = 1 then (if v ≤ 11 ∧ layoutPresent table v = true then some (.home v) else none)
  else if code = 2 then (switchValue v).map (.switch .guide)
  else if code = 3 then (switchValue v).map (.switch .zone)
  else if code = 4 then (switchValue v).map (.switch .frame)
  else if code = 5 then (warningValue v).map .warning
  else if 1 ≤ v ∧ v ≤ 255 then
    if code < 20 then some (.width (Fin.ofNat 4 (code - 16)) .off v) else some (.width (Fin.ofNat 4 (code - 20)) .on v)
  else none

/-- The home layout changes (R138, log 29). -/
def setHome (n : Nat) (s : State) : State :=
  if n = s.arbiter.home then s else decisionEvent (s.mapArbiter fun a => { a with home := n })

/-- A class switch is written (R76). -/
def Switches.write (w : Switches) (k : OverlayClass) (on : Bool) : Switches :=
  match k with
  | .guide => { w with guide := on }
  | .zone => { w with zone := on }
  | .frame => { w with frame := on }

/-- The warning level is written; one above S clears the silence flag (R128). -/
def setWarningLevel (v : Level) (a : Alert) : Alert := clearSilence { a with warningLevel := v }

/-- A next width of a generator is written (R95). -/
def Generator.write (g : Generator) (phase : BlinkPhase) (n : Nat) : Generator :=
  match phase with
  | .off => { g with nextOff := n }
  | .on => { g with nextOn := n }

/-- An item of an accepted SET_LIVE is applied (R166). -/
def applyItem (i : LiveItem) (s : State) : State :=
  match i with
  | .home n => setHome n s
  | .switch k on => s.mapCompositor fun c => { c with switches := c.switches.write k on }
  | .warning v => rearm readsWarning (s.mapAlert (setWarningLevel v))
  | .width g phase n =>
    s.mapCompositor fun c => { c with generators := c.generators.set g ((c.generators.get g).write phase n) }

/-- The items of a payload: code and value each (10.7). -/
def liveItems (payload : List Byte) : List (Nat × Nat) :=
  (List.range (payload.length / 3)).map fun k => (byteAt payload (3 * k), u16At payload (3 * k + 1))

/-- Whether a payload is 1 to 16 whole items with codes of the table (R166). -/
def liveWellFormed (payload : List Byte) : Bool :=
  decide (payload.length % 3 = 0) && decide (3 ≤ payload.length) && decide (payload.length ≤ 48) &&
    (liveItems payload).all fun p => liveCode p.1

/-- The items with their values, if every one is in its values. -/
def liveValues (table : List Layout) : List (Nat × Nat) → Option (List LiveItem)
  | [] => some []
  | (c, v) :: l =>
    match liveItem table c v, liveValues table l with
    | some i, some is => some (i :: is)
    | _, _ => none

/-- SET_LIVE (R166).
DEDUCED, unsafe (log 41): a payload with both faults is answered BAD_FORMAT. -/
def takeSetLive (payload : List Byte) (s : State) : Answer :=
  if liveWellFormed payload then
    match liveValues s.loaded.layouts (liveItems payload) with
    | some is => answer .done [] (is.foldl (fun s i => applyItem i s) s)
    | none => refuse .outOfRange s
  else refuse .badFormat s

/-! ## GET_COUNTERS (R167) -/

/-- The 28 counters in their order (R167). -/
def counterList (s : State) : List Half :=
  (s.intake.toList.map CameraIntake.dropped) ++ (s.intake.toList.map CameraIntake.torn) ++
  (s.intake.toList.map CameraIntake.mismatch) ++ (s.exposure.toList.map Exposure.gainMismatch) ++
  [s.compositor.held, s.remap.refills, s.remap.mapFaults, s.tracker.discarded, s.tracker.unknownSensors,
    s.tracker.overflow, s.arbiter.lapses.cab, s.arbiter.lapses.body, s.arbiter.lapses.chassis,
    s.incident.dropped, s.ports.frameErrors, s.ports.wrongData]

/-- Every counter at 0 (R167). -/
def clearCounters (s : State) : State :=
  { s with
    intake := s.intake.map CameraIntake.cleared
    exposure := s.exposure.map fun e => { e with gainMismatch := 0#16 }
    compositor := { s.compositor with held := 0#16 }
    remap := { s.remap with refills := 0#16, mapFaults := 0#16 }
    tracker := { s.tracker with discarded := 0#16, unknownSensors := 0#16, overflow := 0#16 }
    arbiter := { s.arbiter with lapses := PerMaster.all 0#16 }
    incident := { s.incident with dropped := 0#16 }
    ports := { s.ports with frameErrors := 0#16, wrongData := 0#16 } }

/-- GET_COUNTERS. -/
def takeGetCounters (payload : List Byte) (s : State) : Answer :=
  lengthed 1 payload s
    (if 1 < byteAt payload 0 then refuse .badFormat s
     else answer .done ((counterList s).map bytes16).flatten (if byteAt payload 0 = 1 then clearCounters s else s))

/-! ## PROBE_MAP, READ_MAP_ENTRY and GET_FAULT (R72 to R74) -/

/-- Whether a key names a present pair (R73). -/
def probePresent (table : List Layout) (k : Key) : Bool :=
  match keyPane table k with
  | some p => decide (k.pair < p.pairs)
  | none => false

/-- Whether a layout number names the plain quad, whose pairs are never cached (R73). -/
def isBuiltIn (table : List Layout) (n : Nat) : Bool :=
  match findLayout table n with
  | some l => l.builtIn
  | none => false

/-- The code of an entry's state (10.7). -/
def CacheEntry.stateCode : CacheEntry → Nat
  | .empty => 0
  | .filling _ _ => 1
  | .valid _ _ _ _ => 2

/-- The results of PROBE_MAP for a present pair (R73, 10.7). -/
def probeBytes (table : List Layout) (k : Key) (r : Remap) : List Byte :=
  if isBuiltIn table k.layout then [0#8]
  else match r.find k with
    | some i => [1#8, toByte i, toByte (r.entry i).stateCode, flagByte (decide (i < r.pinned))]
    | none => [0#8]

/-- PROBE_MAP. -/
def takeProbeMap (payload : List Byte) (s : State) : Answer :=
  let k : Key := ⟨byteAt payload 0, byteAt payload 1, u16At payload 2⟩
  lengthed 4 payload s
    (if probePresent s.loaded.layouts k then answer .done (probeBytes s.loaded.layouts k s.remap) s
     else refuse .outOfRange s)

/-- The key and class bytes of an entry (10.7). -/
def keyBytes (k : Key) (c : SizeClass) : List Byte :=
  [toByte k.layout, toByte k.pane] ++ bytes16 (BitVec.ofNat 16 k.pair) ++ [toByte c.code]

/-- The results of READ_MAP_ENTRY (R74, 10.7). -/
def entryBytes (i : Nat) (r : Remap) : List Byte :=
  [toByte (r.entry i).stateCode, flagByte (decide (i < r.pinned)), toByte r.pinned, toByte r.pointer] ++
  match r.entry i with
  | .empty => []
  | .filling k c => keyBytes k c
  | .valid k c e o => keyBytes k c ++ e.bytes ++ o.bytes

/-- READ_MAP_ENTRY. -/
def takeReadMapEntry (payload : List Byte) (s : State) : Answer :=
  lengthed 1 payload s
    (if 39 < byteAt payload 0 then refuse .outOfRange s
     else answer .done (entryBytes (byteAt payload 0) s.remap) s)

/-- The results of GET_FAULT (R72, 10.7). -/
def faultBytes (f : MapFault) : List Byte :=
  if f.held then
    [1#8, toByte f.key.layout, toByte f.key.pane] ++ bytes16 (BitVec.ofNat 16 f.key.pair) ++ [toByte f.tile.code]
  else [0#8]

/-- GET_FAULT. -/
def takeGetFault (payload : List Byte) (s : State) : Answer :=
  lengthed 0 payload s
    (answer .done (faultBytes s.remap.fault)
      (s.mapRemap fun r => { r with fault := { r.fault with held := false } }))

/-! ## RESTART, ENTER_SERVICE, LEAVE_SERVICE (R173, R175, R176) -/

/-- Whether a flash operation is in flight or an exit is pending (R174). -/
def flashBusy (s : State) : Bool := decide (s.flash.op ≠ .idle) || s.flash.exitPending

/-- DONE, and a restart once it is sent whole (R176). -/
def answerRestart (s : State) : Answer := { answer .done [] s with role := .restart }

/-- RESTART. -/
def takeRestart (payload : List Byte) (s : State) : Answer :=
  lengthed 0 payload s (if flashBusy s then refuse .busy s else answerRestart s)

/-- The part enters SERVICE (R173, R146). -/
def enterService (s : State) : State :=
  let s1 : State :=
    { s with
      loader := { s.loader with mode := .service }
      arbiter := suspendClaims s.arbiter
      alert := { s.alert with linger := none } }
  raiseNotice .serviceEntered s1

/-- Whether the part may enter SERVICE (R173). -/
def mayEnterService (s : State) : Bool :=
  decide (s.mode = .running) && standing0 s && decide (s.alert.vehicle.gear.value ≠ some .reverse) &&
    decide (s.alert.level = .none)

/-- ENTER_SERVICE. -/
def takeEnterService (payload : List Byte) (s : State) : Answer :=
  lengthed 0 payload s (if mayEnterService s then answer .done [] (enterService s) else refuse .wrongState s)

/-- LEAVE_SERVICE. -/
def takeLeaveService (payload : List Byte) (s : State) : Answer :=
  lengthed 0 payload s
    (if s.mode ≠ .service then refuse .wrongState s
     else if flashBusy s then refuse .busy s
     else answerRestart s)

/-! ## FLASH_READ, FLASH_WRITE, FLASH_ERASE (R174) -/

/-- The state checks and the address check that flash requests share: a multiple of `unit` below the
flash's size. -/
def flashAllowed (unit a : Nat) (s : State) (own : Answer) : Answer :=
  if s.mode ≠ .service then refuse .wrongState s
  else if flashBusy s then refuse .busy s
  else if a % unit = 0 ∧ a < flashSize then own
  else refuse .outOfRange s

/-- FLASH_READ: the data of a read buffer that holds the address, or a read begins. -/
def takeFlashRead (payload : List Byte) (s : State) : Answer :=
  let a := u24At payload 0
  lengthed 3 payload s
    (flashAllowed 128 a s
      (match s.flash.buffer with
       | some (b, data) =>
         if b = a then answer .done (1#8 :: data) (s.mapFlash fun f => { f with buffer := none })
         else answer .done [0#8] (s.mapFlash fun f => { f with op := .reading a })
       | none => answer .done [0#8] (s.mapFlash fun f => { f with op := .reading a })))

/-- FLASH_WRITE. -/
def takeFlashWrite (payload : List Byte) (s : State) : Answer :=
  let a := u24At payload 0
  lengthed 131 payload s
    (flashAllowed 128 a s
      (answer .done [] (s.mapFlash fun f => { f with op := .writing a (payload.drop 3), buffer := none })))

/-- FLASH_ERASE. -/
def takeFlashErase (payload : List Byte) (s : State) : Answer :=
  let a := u24At payload 0
  lengthed 3 payload s
    (flashAllowed 4096 a s (answer .done [] (s.mapFlash fun f => { f with op := .erasing a, buffer := none })))

/-! ## Taking and serving (R163) -/

/-- A request's own rule, by its kind (10.3). -/
def takeOwn (m : Master) (r : Request) (s : State) : Answer :=
  match r.kind.toNat with
  | 0x01 => takeClaimView m r.payload s
  | 0x02 => takeDropView m r.payload s
  | 0x03 => takeTakeLatches m r.payload s
  | 0x04 => takeGetStatus m r.payload s
  | 0x05 => takeMarkIncident m r.payload s
  | 0x06 => takeAckWarning r.payload s
  | 0x10 => takeGetTracks r.payload s
  | 0x11 => takeGetNotices r.payload s
  | 0x12 => takeSetNoticeMask r.payload s
  | 0x13 => takeCollectMark r.payload s
  | 0x14 => takeSetLive r.payload s
  | 0x15 => takeGetCounters r.payload s
  | 0x18 => takeProbeMap r.payload s
  | 0x19 => takeReadMapEntry r.payload s
  | 0x1A => takeGetFault r.payload s
  | 0x20 => takeRestart r.payload s
  | 0x21 => takeEnterService r.payload s
  | 0x22 => takeLeaveService r.payload s
  | 0x23 => takeFlashRead r.payload s
  | 0x24 => takeFlashWrite r.payload s
  | 0x25 => takeFlashErase r.payload s
  | _ => refuse .unknownKind s

/-- The general checks of R163, in their order, and then the request's own rule. -/
def judge (m : Master) (r : Request) (s : State) : Answer :=
  if isRequest r.kind = false then refuse .unknownKind s
  else if permitted m r.kind = false then refuse .notPermitted s
  else if s.mode = .starting ∧ r.kind ≠ 0x04#8 then refuse .wrongState s
  else takeOwn m r s

/-- A NOTICE frame produced after the response (R169). -/
def noticeIf (b : Bool) (s : State) : State := if b then s.mapPorts (produceCab .notice) else s

/-- The taking of a request that has left its queue: its effect and its response in one event (R163).
DESIGN CHOICE, unsafe (log 19): a NOTICE frame that the effect raises is produced before the response. -/
def takeRequest (m : Master) (r : Request) (s : State) : State :=
  let a := judge m r s
  noticeIf a.noticeAfter (respond m r a.code a.results a.role a.state)

/-- A master's next request is taken, unless the response of the one before is still being sent (R163). -/
def serve (m : Master) (s : State) : State :=
  if answering m s then s
  else match s.ports.queues.get m with
    | [] => s
    | r :: rest => takeRequest m r (setQueue m rest s)

/-- The arrival of a request (R163): BUSY when the queue holds four, and otherwise it joins the queue. -/
def arrive (m : Master) (r : Request) (s : State) : State :=
  if 4 ≤ (s.ports.queues.get m).length then respond m r .busy [] .busy s
  else serve m (setQueue m (s.ports.queues.get m ++ [r]) s)

/-- A request as a master sends it: a CAN port that is not ACTIVE receives nothing (R162). -/
def present (m : Master) (r : Request) (s : State) : State := if canReceive m s then arrive m r s else s

/-! ## The end of a frame (R160, R161, R163, R176) -/

/-- A frame's role once it is sent whole: the next request is taken after a response, and the restart
follows the DONE that asked for it. -/
def afterSent (m : Master) (role : FrameRole) (s : State) : State :=
  match role with
  | .unasked => s
  | .busy => s
  | .answer => serve m s
  | .restart => restartPart s

/-- The cab frame being sent has been sent whole; the next waiting one begins (R160).
DESIGN CHOICE, unsafe (log 40): a NOTICE that begins then reads its set before the next request is taken. -/
def cabSent (s : State) : State :=
  match s.ports.sending with
  | none => s
  | some f => afterSent .cab f.role (s.mapPorts fun p => beginSending { p with sending := none })

/-- The frame at the head of a port's transmit store has been transmitted (R161). -/
def canSent (p : Port) (s : State) : State :=
  match (s.ports.can.get p).store with
  | [] => s
  | f :: rest => afterSent (portMaster p) f.role (mapPort p (fun q => { q with store := rest }) s)

end Sys2Proof.Machine
end

