-- ==== Sys2Proof/Machine/PortCommands.lean ====
section
/-! DEFINITION. The commands of the cab serial link and the CAN ports (chapter 10). -/

namespace Sys2Proof.Machine

/-- A complete cab frame, its bytes after the start byte: broken, a data message from the wrong master, or
a request (R159, R161). -/
def takeCabFrame (l : List Byte) (s : State) : State :=
  if cabFrameWhole l then
    if isDataKind (cabRequest l).kind then countWrongData (endCabFrame s)
    else present .cab (cabRequest l) (endCabFrame s)
  else breakFrame s

/-- The bytes `l` of the frame in progress, the last of them just received (R159): a length byte above 200
breaks the frame, the last CRC byte completes it, and otherwise the framer waits for the next byte. -/
def growCabFrame (l : List Byte) (s : State) : State :=
  if 200 < byteAt l 0 then breakFrame s
  else if byteAt l 0 + 5 ≤ l.length then takeCabFrame l s
  else setFramer (.frame l s.ms) s

/-- One byte received on the cab serial link (R159): in HUNT all but the start byte are discarded, and in
FRAME a start byte is ordinary data. -/
def takeCabByte (b : Byte) (s : State) : State :=
  match s.ports.framer with
  | .hunt => if b = startByte then setFramer (.frame [] s.ms) s else s
  | .frame received _ => growCabFrame (received ++ [b]) s

/-- Bytes received one after another. -/
def takeCabBytes (l : List Byte) (s : State) : State := l.foldl (fun s b => takeCabByte b s) s

/-- CAB_START_BYTE_RECEIVED (R159): the byte 0x7E. -/
def execCabStartByteReceived (s : State) : Host.Outcome State Fault Refusal := .next (takeCabByte startByte s)

/-- Whether the framer is in FRAME. -/
def inFrame (s : State) : Bool := decide (s.ports.framer ≠ .hunt)

/-- CAB_FRAME_BROKEN (R159): whatever the cause, the frame is broken in the same way. -/
def execCabFrameBroken (_cause : BreakCause) (s : State) : Host.Outcome State Fault Refusal :=
  if inFrame s then .next (breakFrame s) else .next s

/-- Whether 5 ms have passed since the last byte of the frame in progress (R159). -/
def interbyteDue (s : State) : Bool :=
  match s.ports.framer with
  | .frame _ last => timerDue s.ms (some last) 5
  | .hunt => false

/-- CAB_INTERBYTE_TIMEOUT (R159). -/
def execCabInterbyteTimeout (s : State) : Host.Outcome State Fault Refusal :=
  if interbyteDue s then .next (breakFrame s) else .next s

/-- A base+0 frame's data bytes: a request from the port's master, ignored when shorter than 2 (R161). -/
def takeCanBytes (p : Port) (l : List Byte) (s : State) : State :=
  if l.length < 2 then s else present (portMaster p) ⟨l.getD 0 0#8, l.getD 1 0#8, l.drop 2⟩ s

/-- REQUEST_ARRIVAL (R159, R161, R163): bytes received on the cab serial link, or a CAN frame (log 5). -/
def execRequestArrival (a : Arrival) (s : State) : Host.Outcome State Fault Refusal :=
  match a with
  | .cabBytes l => .next (takeCabBytes l s)
  | .canFrame p l => .next (takeCanBytes p l s)

/-- Whether a frame from a master reaches the part: a cab frame ends the frame in progress (R159), a
CAN frame needs its port ACTIVE (R162). -/
def frameReaches (m : Master) (s : State) : Bool :=
  match masterPort m with
  | none => inFrame s
  | some p => portActive p s

/-- WRONG_MASTER_DATA (R161). -/
def execWrongMasterData (m : Master) (kind : Byte) (s : State) : Host.Outcome State Fault Refusal :=
  if frameReaches m s && wrongCarrier m kind then
    .next (countWrongData (if m = .cab then endCabFrame s else s))
  else .next s

/-- IGNORED_CAN_FRAME (R161): ignored without count. -/
def execIgnoredCanFrame (_port : Port) (_cause : IgnoreCause) (s : State) : Host.Outcome State Fault Refusal := .next s

/-- CAB_FRAME_SENT (R160, R163, R176). -/
def execCabFrameSent (s : State) : Host.Outcome State Fault Refusal := .next (cabSent s)

/-- CAN_FRAME_TRANSMITTED (R161, R163). -/
def execCanFrameTransmitted (p : Port) (s : State) : Host.Outcome State Fault Refusal :=
  if portActive p s then .next (canSent p s) else .next s

/-- BUS_OFF (R162). -/
def execBusOff (p : Port) (s : State) : Host.Outcome State Fault Refusal :=
  if portActive p s then .next (goBusOff p s) else .next s

/-- BUS_OFF_RECOVERY (R162), once 1000 ms have passed. -/
def execBusOffRecovery (p : Port) (s : State) : Host.Outcome State Fault Refusal :=
  if recoveryDue s.ms (s.ports.can.get p) then .next (joinBus p s) else .next s

/-- STATUS_BROADCAST (R170), when it is due. -/
def execStatusBroadcast (p : Port) (s : State) : Host.Outcome State Fault Refusal :=
  if portActive p s && broadcastDue s.ms (s.ports.can.get p) then .next (sendBroadcast p s) else .next s

end Sys2Proof.Machine
end

