-- ==== Sys2Proof/Machine/RequestCommands.lean ====
section
/-! DEFINITION. The request rows: each presents its request, with its kind and payload of 10.3 and 10.7, at its master's port. -/

namespace Sys2Proof.Machine

/-- A request row's request at its master's port (DESIGN CHOICE, safe: log 4). -/
def sendRequest (m : Master) (kind tag : Byte) (payload : List Byte) (s : State) : Host.Outcome State Fault Refusal :=
  .next (present m ⟨kind, tag, payload⟩ s)

/-- The three bytes of a flash address (10.7). -/
def bytes24 (a : BitVec 24) : List Byte := [toByte a.toNat, toByte (a.toNat / 256), toByte (a.toNat / 65536)]

/-- The three bytes of a SET_LIVE item (10.7). -/
def itemBytes (code : Nat) (value : Half) : List Byte := toByte code :: bytes16 value

/-- Whether a frame of this kind from this master is UNKNOWN_KIND's: the kind is no request (R163), nor a
data message in a cab frame, which R161 has ignored. -/
def unknownToMaster (m : Master) (kind : Byte) : Bool :=
  !isRequest kind && !(decide (m = .cab) && isDataKind kind)

/-- UNKNOWN_KIND (R163). A frame of another kind is not this row's and changes nothing (log 2). -/
def execUnknownKind (m : Master) (kind tag : Byte) (payload : List Byte) (s : State) : Host.Outcome State Fault Refusal :=
  if unknownToMaster m kind then sendRequest m kind tag payload s else .next s

/-- CLAIM_VIEW (R133, R134). -/
def execClaimView (m : Master) (tag layout level : Byte) (lifetime : Half) (s : State) : Host.Outcome State Fault Refusal :=
  sendRequest m 0x01#8 tag ([layout, level] ++ bytes16 lifetime) s

/-- DROP_VIEW (R135). -/
def execDropView (m : Master) (tag : Byte) (s : State) : Host.Outcome State Fault Refusal :=
  sendRequest m 0x02#8 tag [] s

/-- TAKE_LATCHES (R125). -/
def execTakeLatches (m : Master) (tag : Byte) (s : State) : Host.Outcome State Fault Refusal :=
  sendRequest m 0x03#8 tag [] s

/-- GET_STATUS (R164). -/
def execGetStatus (m : Master) (tag : Byte) (s : State) : Host.Outcome State Fault Refusal :=
  sendRequest m 0x04#8 tag [] s

/-- MARK_INCIDENT (R153). -/
def execMarkIncident (m : Master) (tag : Byte) (s : State) : Host.Outcome State Fault Refusal :=
  sendRequest m 0x05#8 tag [] s

/-- ACK_WARNING (R129). -/
def execAckWarning (m : Master) (tag : Byte) (s : State) : Host.Outcome State Fault Refusal :=
  sendRequest m 0x06#8 tag [] s

/-- GET_TRACKS (R165). -/
def execGetTracks (m : Master) (tag first : Byte) (s : State) : Host.Outcome State Fault Refusal :=
  sendRequest m 0x10#8 tag [first] s

/-- GET_NOTICES (R169). -/
def execGetNotices (m : Master) (tag : Byte) (s : State) : Host.Outcome State Fault Refusal :=
  sendRequest m 0x11#8 tag [] s

/-- SET_NOTICE_MASK (R169). -/
def execSetNoticeMask (m : Master) (tag : Byte) (enable : Half) (s : State) : Host.Outcome State Fault Refusal :=
  sendRequest m 0x12#8 tag (bytes16 enable) s

/-- COLLECT_MARK (R155). -/
def execCollectMark (m : Master) (tag : Byte) (s : State) : Host.Outcome State Fault Refusal :=
  sendRequest m 0x13#8 tag [] s

/-- SET_LIVE with item code 1 (R166). -/
def execSetLiveHomeLayout (m : Master) (tag : Byte) (value : Half) (s : State) : Host.Outcome State Fault Refusal :=
  sendRequest m 0x14#8 tag (itemBytes 1 value) s

/-- The item code of a class switch (R166). -/
def switchCode (k : OverlayClass) : Nat :=
  match k with
  | .guide => 2
  | .zone => 3
  | .frame => 4

/-- SET_LIVE with item code 2, 3 or 4 (R166). -/
def execSetLiveClassSwitch (m : Master) (tag : Byte) (k : OverlayClass) (value : Half) (s : State) :
    Host.Outcome State Fault Refusal :=
  sendRequest m 0x14#8 tag (itemBytes (switchCode k) value) s

/-- SET_LIVE with item code 5 (R166). -/
def execSetLiveWarningLevel (m : Master) (tag : Byte) (value : Half) (s : State) : Host.Outcome State Fault Refusal :=
  sendRequest m 0x14#8 tag (itemBytes 5 value) s

/-- The item code of a blink width (R166). -/
def widthCode (g : Fin 4) (phase : BlinkPhase) : Nat :=
  match phase with
  | .off => 16 + g.val
  | .on => 20 + g.val

/-- SET_LIVE with item code 16 + g or 20 + g (R166). -/
def execSetLiveBlinkWidth (m : Master) (tag : Byte) (g : Fin 4) (phase : BlinkPhase) (value : Half) (s : State) :
    Host.Outcome State Fault Refusal :=
  sendRequest m 0x14#8 tag (itemBytes (widthCode g phase) value) s

/-- GET_COUNTERS with clear flag 0 (R167). -/
def execGetCounters (m : Master) (tag : Byte) (s : State) : Host.Outcome State Fault Refusal :=
  sendRequest m 0x15#8 tag [0#8] s

/-- GET_COUNTERS with clear flag 1 (R167). -/
def execGetCountersClear (m : Master) (tag : Byte) (s : State) : Host.Outcome State Fault Refusal :=
  sendRequest m 0x15#8 tag [1#8] s

/-- PROBE_MAP (R73). -/
def execProbeMap (m : Master) (tag layout pane : Byte) (pair : Half) (s : State) : Host.Outcome State Fault Refusal :=
  sendRequest m 0x18#8 tag ([layout, pane] ++ bytes16 pair) s

/-- READ_MAP_ENTRY (R74). -/
def execReadMapEntry (m : Master) (tag index : Byte) (s : State) : Host.Outcome State Fault Refusal :=
  sendRequest m 0x19#8 tag [index] s

/-- GET_FAULT (R72). -/
def execGetFault (m : Master) (tag : Byte) (s : State) : Host.Outcome State Fault Refusal :=
  sendRequest m 0x1A#8 tag [] s

/-- RESTART (R176). -/
def execRestart (m : Master) (tag : Byte) (s : State) : Host.Outcome State Fault Refusal :=
  sendRequest m 0x20#8 tag [] s

/-- ENTER_SERVICE (R173). -/
def execEnterService (m : Master) (tag : Byte) (s : State) : Host.Outcome State Fault Refusal :=
  sendRequest m 0x21#8 tag [] s

/-- LEAVE_SERVICE (R175). -/
def execLeaveService (m : Master) (tag : Byte) (s : State) : Host.Outcome State Fault Refusal :=
  sendRequest m 0x22#8 tag [] s

/-- FLASH_READ (R174). -/
def execFlashRead (m : Master) (tag : Byte) (address : BitVec 24) (s : State) : Host.Outcome State Fault Refusal :=
  sendRequest m 0x23#8 tag (bytes24 address) s

/-- FLASH_WRITE (R174). -/
def execFlashWrite (m : Master) (tag : Byte) (address : BitVec 24) (data : List Byte) (s : State) :
    Host.Outcome State Fault Refusal :=
  sendRequest m 0x24#8 tag (bytes24 address ++ data) s

/-- FLASH_ERASE (R174). -/
def execFlashErase (m : Master) (tag : Byte) (address : BitVec 24) (s : State) : Host.Outcome State Fault Refusal :=
  sendRequest m 0x25#8 tag (bytes24 address) s

end Sys2Proof.Machine
end

