-- ==== Sys2Proof/Machine/Loader.lean ====
section
/-! DEFINITION. Chapter 11, the load: header, directory, each section's form and check, the fallbacks and the entry to RUNNING. -/

namespace Sys2Proof.Machine

/-! ## Header and directory (11.2, R172) -/

/-- A directory entry. -/
structure Entry where
  code : Nat
  crc : Half
  offset : Nat
  length : Nat
  deriving DecidableEq, Repr

/-- The entry whose twelve bytes begin at flash address `a`. -/
def entryAt (cells : List Host.Cell) (a : Nat) : Entry :=
  let l := readBytes cells a 12
  ⟨byteAt l 0, halfAt l 2, u32At l 4, u32At l 8⟩

/-- Whether the header passes (R172). -/
def headerPasses (cells : List Host.Cell) : Bool :=
  let h := readBytes cells 0 12
  let n := byteAt h 6
  decide (u32At h 0 = 0x36344353) && decide (u16At h 4 = 1) && decide (1 ≤ n) && decide (n ≤ 16) &&
    decide (crc16 (h.take 8 ++ readBytes cells 12 (12 * n)) = halfAt h 8)

/-- The directory, empty when the header fails (R172). -/
def directory (cells : List Host.Cell) : List Entry :=
  if headerPasses cells then
    (List.range (byteAt (readBytes cells 6 1) 0)).map fun n => entryAt cells (12 + 12 * n)
  else []

/-- The one entry that names a code (R172). -/
def entryOf (dir : List Entry) (code : Nat) : Option Entry :=
  match dir.filter fun e => decide (e.code = code) with
  | [e] => some e
  | _ => none

/-- The entry of a section that lies inside the flash and whose CRC matches (R172). -/
def sectionEntry (cells : List Host.Cell) (code : Nat) : Option Entry :=
  match entryOf (directory cells) code with
  | some e =>
    if e.offset + e.length ≤ flashSize ∧ crc16 (readBytes cells e.offset e.length) = e.crc then some e else none
  | none => none

/-- The bytes of such a section. -/
def sectionBytes (cells : List Host.Cell) (code : Nat) : Option (List Byte) :=
  (sectionEntry cells code).map fun e => readBytes cells e.offset e.length

/-- Record `i` of records of `size` bytes that begin at byte `start`. -/
def recordBytes (l : List Byte) (start size i : Nat) : List Byte := (l.drop (start + size * i)).take size

/-- The records of a section. -/
def records (l : List Byte) (start size n : Nat) : List (List Byte) :=
  (List.range n).map (recordBytes l start size)

/-- A value if a check holds. -/
def ensure {α : Type} (b : Bool) (x : α) : Option α := if b then some x else none

/-- Every value, if none is missing. -/
def sequenceAll {α : Type} : List (Option α) → Option (List α)
  | [] => some []
  | some x :: l => (sequenceAll l).map (x :: ·)
  | none :: _ => none

/-! ## PORTS (R132, R168, 11.2) -/

/-- Whether a bit rate is one of the two (R132). -/
def rateKnown (n : Nat) : Bool := decide (n = 250) || decide (n = 500)

/-- Whether a maximum level is in 1–5 (R132). -/
def levelKnown (n : Nat) : Bool := decide (1 ≤ n) && decide (n ≤ 5)

/-- The set of kinds routed to the master of bit `m` (11.2). -/
def routedSet (l : List Byte) (m : Nat) : Half :=
  (List.range 16).foldl (fun h n => if bitAt l (13 + n) m then h ||| (1#16 <<< n) else h) 0#16

/-- The PORTS section. -/
def parsePorts (l : List Byte) : Option PortsConfig :=
  ensure
    (decide (l.length = 31) && levelKnown (byteAt l 0) && levelKnown (byteAt l 1) && levelKnown (byteAt l 2) &&
      decide (byteAt l 4 ≤ 90) && decide (u16At l 5 ≤ 0x7FC) && rateKnown (u16At l 7) &&
      decide (u16At l 9 ≤ 0x7FC) && rateKnown (u16At l 11))
    { maxLevel := ⟨byteAt l 0, byteAt l 1, byteAt l 2⟩
      mayClaim := ⟨bitAt l 3 0, bitAt l 3 1, bitAt l 3 2⟩
      dwell := byteAt l 4
      base := ⟨u16At l 5, u16At l 9⟩
      bitRate := ⟨u16At l 7, u16At l 11⟩
      routing := ⟨routedSet l 0, routedSet l 1, routedSet l 2⟩
      enable := halfAt l 29 }

/-! ## PALETTE (R86) -/

/-- A palette entry of three bytes. -/
def pixelOf (l : List Byte) : Pixel := ⟨l.getD 0 0#8, l.getD 1 0#8, l.getD 2 0#8⟩

/-- The PALETTE section. -/
def parsePalette (l : List Byte) : Option (List Pixel) :=
  ensure (decide (l.length = 48)) ((records l 0 3 16).map pixelOf)

/-! ## SENSORS (R5, R6, R108) -/

/-- Whether a direction has its length within the tolerance (R6). -/
def directionFits (cx cy : Int) : Bool :=
  decide (-4096 ≤ cx ∧ cx ≤ 4096 ∧ -4096 ≤ cy ∧ cy ≤ 4096) &&
    decide (15728640 ≤ cx * cx + cy * cy ∧ cx * cx + cy * cy ≤ 17825792)

/-- A sensor record, if it has none of the faults of its own (R6). -/
def parseSensor (l : List Byte) : Option Sensor :=
  let r := u16At l 10
  ensure
    (decide (byteAt l 0 ≤ 7) && inBounds (s16At l 2) (s16At l 4) && directionFits (s16At l 6) (s16At l 8) &&
      decide (r = 0 ∨ (100 ≤ r ∧ r ≤ 1000)))
    { number := byteAt l 0
      enabled := bitAt l 1 0
      mountX := s16At l 2
      mountY := s16At l 4
      cx := s16At l 6
      cy := s16At l 8
      maxRange := if r = 0 then 500 else r }

/-- Whether a list of numbers names none twice. -/
def distinct (l : List Nat) : Bool := decide l.Nodup

/-- What SENSORS carries. -/
structure SensorsSection where
  gate : Nat
  sensors : List Sensor
  deriving DecidableEq, Repr

/-- The SENSORS section. -/
def parseSensors (l : List Byte) : Option SensorsSection :=
  let g := byteAt l 0
  let n := byteAt l 1
  match sequenceAll ((records l 2 12 n).map parseSensor) with
  | some sensors =>
    ensure
      (decide (l.length = 2 + 12 * n) && decide (g = 0 ∨ (20 ≤ g ∧ g ≤ 200)) && distinct (sensors.map Sensor.number))
      ⟨if g = 0 then 80 else g, sensors⟩
  | none => none

/-! ## CELLS (R99) -/

/-- A cell record, if it passes (R99). -/
def parseCell (l : List Byte) : Option MotionCell :=
  ensure
    (decide (byteAt l 0 ≤ 3) && decide (u16At l 2 ≤ 1264) && decide (u16At l 4 ≤ 784) &&
      inBounds (s16At l 6) (s16At l 8) && decide (1 ≤ u16At l 10) && decide (u16At l 10 ≤ 4080))
    { camera := Fin.ofNat 4 (byteAt l 0)
      u := u16At l 2
      v := u16At l 4
      x := s16At l 6
      y := s16At l 8
      threshold := u16At l 10
      previous := none
      score := 0
      streak := 0
      active := false }

/-- The CELLS section. -/
def parseCells (l : List Byte) : Option (List MotionCell) :=
  let n := byteAt l 0
  if l.length = 2 + 12 * n ∧ n ≤ 192 then sequenceAll ((records l 2 12 n).map parseCell) else none

/-! ## WATCH (R46) -/

/-- A quantity code (11.2). -/
def quantityOfCode (n : Nat) : Option Quantity :=
  match n with
  | 0 => some .mean
  | 1 => some .sharp
  | 2 => some .highClip
  | 3 => some .limit
  | _ => none

/-- A direction code (11.2). -/
def directionOfCode (n : Nat) : Option Direction :=
  match n with
  | 0 => some .above
  | 1 => some .below
  | _ => none

/-- An action code (11.2). -/
def actionOfCode (n : Nat) : Option Condition :=
  match n with
  | 0 => some .obscured
  | 1 => some .glare
  | 2 => some .lowLight
  | _ => none

/-- Whether a threshold lies in the range of its quantity (3.5). -/
def thresholdFits (q : Quantity) (t : Int) : Bool :=
  match q with
  | .mean => decide (0 ≤ t ∧ t ≤ 255)
  | .sharp => decide (0 ≤ t ∧ t ≤ 255)
  | .highClip => decide (0 ≤ t ∧ t ≤ 256)
  | .limit => decide (-127 ≤ t ∧ t ≤ 127)

/-- A watch set record, its number aside (R46). -/
def parseWatchSet (l : List Byte) : Option WatchSet :=
  match quantityOfCode (byteAt l 2), directionOfCode (byteAt l 3), actionOfCode (byteAt l 8) with
  | some q, some d, some a =>
    ensure (thresholdFits q (s16At l 4) && decide (1 ≤ byteAt l 7) && decide (byteAt l 7 ≤ 60))
      { enabled := bitAt l 1 0
        quantity := q
        direction := d
        threshold := s16At l 4
        margin := byteAt l 6
        persistence := byteAt l 7
        action := a }
  | _, _, _ => none

/-- The record that names the number `i` in its byte 0. -/
def numbered (rs : List (List Byte)) (i : Nat) : Option (List Byte) := rs.find? fun r => decide (byteAt r 0 = i)

/-- Four parsed records, T0 to T3 or W0 to W3, each of them present once among four. -/
def parseQuad {α : Type} (rs : List (List Byte)) (f : List Byte → Option α) : Option (Quad α) :=
  match (numbered rs 0).bind f, (numbered rs 1).bind f, (numbered rs 2).bind f, (numbered rs 3).bind f with
  | some a, some b, some c, some d => some ⟨a, b, c, d⟩
  | _, _, _, _ => none

/-- What WATCH carries. -/
structure WatchSection where
  sets : Quad WatchSet
  targets : Quad Nat
  deriving DecidableEq, Repr

/-- Whether a target is in 40–200 (R46). -/
def targetFits (n : Nat) : Bool := decide (40 ≤ n) && decide (n ≤ 200)

/-- The WATCH section. -/
def parseWatch (l : List Byte) : Option WatchSection :=
  match parseQuad (records l 0 10 4) parseWatchSet with
  | some sets =>
    ensure
      (decide (l.length = 44) && targetFits (byteAt l 40) && targetFits (byteAt l 41) && targetFits (byteAt l 42) &&
        targetFits (byteAt l 43))
      ⟨sets, ⟨byteAt l 40, byteAt l 41, byteAt l 42, byteAt l 43⟩⟩
  | none => none

/-! ## TRIGGERS (R149) -/

/-- A record kind code (11.2). -/
def recordKindOfCode (n : Nat) : Option RecordKind :=
  match n with
  | 0 => some .alert
  | 1 => some .view
  | 2 => some .vehicle
  | 3 => some .condition
  | _ => none

/-- Whether a test is "any" or at most `n`. -/
def testUpTo (n t : Nat) : Bool := decide (t = 254) || decide (t ≤ n)

/-- Whether the field tests of a kind name values of their fields (R149).
DESIGN CHOICE, unsafe (log 23): a source mask test with a bit other than RANGE and MOTION, and not 254, names
no value of its field, and the section fails. -/
def testsFit (k : RecordKind) (t : Nat → Nat) : Bool :=
  match k with
  | .alert =>
    testUpTo 3 (t 0) && testUpTo 3 (t 1) && (testUpTo 7 (t 2) || decide (t 2 = 255)) && testUpTo 3 (t 3)
  | .view => (testUpTo 11 (t 0) || decide (t 0 = 128)) && testUpTo 4 (t 1)
  | .vehicle =>
    testUpTo 3 (t 0) && (testUpTo 1 (t 1) || decide (t 1 = 3)) && (testUpTo 1 (t 2) || decide (t 2 = 3))
  | .condition => testUpTo 3 (t 0) && testUpTo 3 (t 1) && testUpTo 3 (t 2)

/-- The speed test of a record, read for VEHICLE (R149, 11.2). -/
def speedTestOf (k : RecordKind) (code n : Nat) : Option SpeedTest :=
  if k = .vehicle then
    match code with
    | 0 => some .any
    | 1 => if n ≤ 4000 then some (.atLeast n) else none
    | 2 => some .unknown
    | _ => none
  else some .any

/-- A trigger record, its number aside (R149). -/
def parseTrigger (l : List Byte) : Option Trigger :=
  match recordKindOfCode (byteAt l 2) with
  | some k =>
    match speedTestOf k (byteAt l 9) (u16At l 10) with
    | some t =>
      ensure (testsFit k fun i => byteAt l (5 + i))
        { enabled := bitAt l 1 0
          kind := k
          tests := [byteAt l 5, byteAt l 6, byteAt l 7, byteAt l 8]
          speed := t
          delay := byteAt l 3
          holdOff := byteAt l 4 }
    | none => none
  | none => none

/-- The TRIGGERS section. -/
def parseTriggers (l : List Byte) : Option (Quad Trigger) :=
  if l.length = 48 then parseQuad (records l 0 12 4) parseTrigger else none

/-! ## OVERLAYS (R87, R94) -/

/-- A level code (9.5). -/
def levelOfCode (n : Nat) : Option Level :=
  match n with
  | 0 => some .none
  | 1 => some .notice
  | 2 => some .caution
  | 3 => some .danger
  | _ => none

/-- An overlay kind code (11.2). -/
def overlayKindOfCode (n : Nat) : Option OverlayKind :=
  match n with
  | 0 => some .groundLine
  | 1 => some .zoneTint
  | 2 => some .screenLine
  | 3 => some .screenBox
  | _ => none

/-- A class code (11.2). -/
def classOfCode (n : Nat) : Option OverlayClass :=
  match n with
  | 0 => some .guide
  | 1 => some .zone
  | 2 => some .frame
  | _ => none

/-- A blink generator code: 0 none, 1 to 4 (11.2). -/
def generatorOfCode (n : Nat) : Option (Option (Fin 4)) :=
  match n with
  | 0 => some none
  | 1 => some (some 0)
  | 2 => some (some 1)
  | 3 => some (some 2)
  | 4 => some (some 3)
  | _ => none

/-- An arm source code (11.2). -/
def armOfCode (n : Nat) : Option ArmSource :=
  match n with
  | 0 => some .always
  | 1 => some .levelNotice
  | 2 => some .levelCaution
  | 3 => some .levelDanger
  | 4 => some .cameraFault
  | 5 => some .warning
  | _ => none

/-- Whether a screen coordinate lies in the frame (R87). -/
def onScreen (c r : Int) : Bool := decide (0 ≤ c ∧ c ≤ 1279 ∧ 0 ≤ r ∧ r ≤ 767)

/-- Whether the coordinates of an object pass (R87). -/
def coordinatesFit (k : OverlayKind) (a b c d : Int) : Bool :=
  match k with
  | .groundLine => inBounds a b && inBounds c d
  | .zoneTint => true
  | .screenLine => onScreen a b && onScreen c d
  | .screenBox => onScreen a b && onScreen c d && decide (a ≤ c) && decide (b ≤ d)

/-- Whether a stride is in −4000..4000 (5.6). -/
def strideFits (x : Int) : Bool := decide (-4000 ≤ x) && decide (x ≤ 4000)

/-- Whether the plain fields of an object record pass (R87, log 23). -/
def objectFits (k : OverlayKind) (l : List Byte) : Bool :=
  decide (byteAt l 3 ≤ 3) && decide (byteAt l 4 ≤ 7) && decide (byteAt l 6 ≤ 16) && decide (1 ≤ byteAt l 7) &&
    decide (byteAt l 7 ≤ 4) && decide (byteAt l 11 ≤ 15) && strideFits (s16At l 20) && strideFits (s16At l 22) &&
    coordinatesFit k (s16At l 12) (s16At l 14) (s16At l 16) (s16At l 18)

/-- An object record (R87). -/
def parseOverlay (l : List Byte) : Option Overlay :=
  match overlayKindOfCode (byteAt l 0), generatorOfCode (byteAt l 8), levelOfCode (byteAt l 9), classOfCode (byteAt l 10) with
  | some k, some g, some v, some w =>
    ensure (objectFits k l)
      { kind := k
        layouts := halfAt l 1
        pane := byteAt l 3
        zone := byteAt l 4
        a := s16At l 12
        b := s16At l 14
        c := s16At l 16
        d := s16At l 18
        copies := byteAt l 11
        dX := s16At l 20
        dY := s16At l 22
        colour := byteAt l 5 % 16
        alpha := byteAt l 6
        width := byteAt l 7
        generator := g
        visibility := v
        cls := w }
  | _, _, _, _ => none

/-- A generator record: its number and its configuration (R94). -/
def parseGenerator (l : List Byte) : Option (Nat × GeneratorConfig) :=
  match armOfCode (byteAt l 3) with
  | some a =>
    ensure (decide (byteAt l 0 ≤ 3) && decide (1 ≤ byteAt l 1) && decide (1 ≤ byteAt l 2))
      (byteAt l 0, ⟨byteAt l 1, byteAt l 2, a⟩)
  | none => none

/-- What OVERLAYS carries. -/
structure OverlaysSection where
  objects : List Overlay
  generators : Quad GeneratorConfig
  deriving DecidableEq, Repr

/-- The generators of a section's records, each other one by its row of R94. -/
def generatorsOf (l : List (Nat × GeneratorConfig)) : Quad GeneratorConfig :=
  generatorsFallback.mapIdx fun i g =>
    match l.find? fun p => decide (p.1 = i.val) with
    | some p => p.2
    | none => g

/-- The OVERLAYS section. -/
def parseOverlays (l : List Byte) : Option OverlaysSection :=
  let n := byteAt l 0
  let m := byteAt l 1
  match sequenceAll ((records l 2 28 n).map parseOverlay),
      sequenceAll ((records l (2 + 28 * n) 4 m).map parseGenerator) with
  | some objects, some gens =>
    ensure (decide (l.length = 2 + 28 * n + 4 * m) && decide (n ≤ 32) && distinct (gens.map Prod.fst))
      ⟨objects, generatorsOf gens⟩
  | _, _ => none

/-! ## LAYOUTS (R53 to R56) -/

/-- A pane kind code (11.2). -/
def paneKindOfCode (n : Nat) : Option PaneKind :=
  match n with
  | 0 => some .topview
  | 1 => some .camera
  | _ => none

/-- A size class code (11.2). -/
def sizeOfCode (n : Nat) : Option SizeClass :=
  match n with
  | 0 => some .a
  | 1 => some .b
  | 2 => some .c
  | _ => none

/-- The cameras that a record adds to a camera set (R56). -/
def recordCameras (r : MapRecord) : BitVec 4 :=
  (if r.kind.toNat ≤ 1 ∧ r.primary.toNat ≤ 3 then 1#4 <<< r.primary.toNat else 0#4) |||
    (if r.kind.toNat = 1 ∧ r.secondary.toNat ≤ 3 then 1#4 <<< r.secondary.toNat else 0#4)

/-- The camera set of a pane: that of its records (R56, R92). -/
def paneCameras (cells : List Host.Cell) (p : Pane) : BitVec 4 :=
  (List.range (2 * p.pairs)).foldl (fun set i =>
    set ||| recordCameras (recordOfBytes (readBytes cells (p.mapBase + 32 * i) 32))) 0#4

/-- Whether the ground geometry of a TOPVIEW pane passes (R13). -/
def geometryFits (p : Pane) : Bool := inBounds p.x0 p.y0 && decide (32 ≤ p.scale) && decide (p.scale ≤ 1024)

/-- Whether a pane passes (R54), the map area having `mapLength` bytes. -/
def paneFits (mapLength : Nat) (p : Pane) : Bool :=
  decide (p.width ≠ 0) && decide (p.height ≠ 0) && decide (p.left % p.cls.pairWidth = 0) &&
    decide (p.width % p.cls.pairWidth = 0) && decide (p.top % p.cls.tile = 0) && decide (p.height % p.cls.tile = 0) &&
    decide (p.left + p.width ≤ 1280) && decide (p.top + p.height ≤ 768) &&
    (decide (p.kind ≠ .topview) || geometryFits p) && decide (p.mapBase % 64 = 0) &&
    decide (p.mapBase + 64 * p.pairs ≤ mapLength)

/-- A pane record; what is read for the other kind alone stays at its zero (11.2). -/
def parsePane (l : List Byte) : Option Pane :=
  match paneKindOfCode (byteAt l 8), sizeOfCode (byteAt l 9) with
  | some k, some c =>
    let top := decide (k = .topview)
    some
      { left := u16At l 0
        top := u16At l 2
        width := u16At l 4
        height := u16At l 6
        kind := k
        cls := c
        mapBase := u32At l 12
        x0 := if top then s16At l 16 else 0
        y0 := if top then s16At l 18 else 0
        scale := if top then u16At l 20 else 0
        mirror := top && bitAt l 10 0
        zoneMask := if top then 0#8 else l.getD 11 0#8
        cameras := 0#4 }
  | _, _ => none

/-- Whether two panes share an output pixel (R54). -/
def panesShare (p q : Pane) : Bool :=
  decide (p.left < q.left + q.width ∧ q.left < p.left + p.width ∧ p.top < q.top + q.height ∧ q.top < p.top + p.height)

/-- Whether no two panes of a list share an output pixel. -/
def panesApart : List Pane → Bool
  | [] => true
  | p :: ps => (ps.all fun q => !panesShare p q) && panesApart ps

/-- Whether a layout passes (R54). -/
def layoutFits (mapLength : Nat) (l : Layout) : Bool :=
  decide (l.number ≤ 11) && decide (1 ≤ l.panes.length) && decide (l.panes.length ≤ 4) &&
    l.panes.all (paneFits mapLength) && panesApart l.panes

/-- A layout of its record and its panes, its camera sets not yet computed. -/
def layoutOf (l : List Byte) (panes : List Pane) : Layout := ⟨byteAt l 0, bitAt l 1 0, panes, false, 0#4⟩

/-- `n` layout records from the bytes, which they must fill exactly (11.2). -/
def parseLayoutRecords : Nat → List Byte → Option (List Layout)
  | 0, l => if l = [] then some [] else none
  | n + 1, l =>
    let k := byteAt l 2
    if l.length < 4 + 24 * k then none
    else
      match sequenceAll ((records l 4 24 k).map parsePane), parseLayoutRecords n (l.drop (4 + 24 * k)) with
      | some panes, some rest => some (layoutOf l panes :: rest)
      | _, _ => none

/-- A layout with its camera sets (R56, R92). -/
def withCameras (cells : List Host.Cell) (l : Layout) : Layout :=
  let panes := l.panes.map fun p => { p with cameras := paneCameras cells p }
  { l with panes := panes, cameras := panes.foldl (fun set p => set ||| p.cameras) 0#4 }

/-- What LAYOUTS carries. -/
structure LayoutsSection where
  home : Nat
  layouts : List Layout
  deriving DecidableEq, Repr

/-- The fallback of LAYOUTS: the plain quad as L0, home 0 (R53). -/
def layoutsFallback : LayoutsSection := ⟨0, [plainQuad]⟩

/-- The LAYOUTS section over a map area (R53, R54). -/
def parseLayouts (mapLength : Nat) (cells : List Host.Cell) (l : List Byte) : Option LayoutsSection :=
  if l.length < 2 then none
  else
    match parseLayoutRecords (byteAt l 1) (l.drop 2) with
    | some ls =>
      ensure (distinct (ls.map Layout.number) && ls.all (layoutFits mapLength) && layoutPresent ls (byteAt l 0))
        ⟨byteAt l 0, ls.map (withCameras cells)⟩
    | none => none

/-! ## MAPS (R172) -/

/-- What MAPS carries. -/
structure MapsSection where
  length : Nat
  cells : List Host.Cell
  deriving DecidableEq, Repr

/-- The map area that a section of the flash is copied into, byte for byte (R172). -/
def copyMap (flash : List Host.Cell) (e : Entry) : List Host.Cell :=
  (flash.filter fun p => decide (e.offset ≤ p.1) && decide (p.1 < e.offset + e.length)).map
    fun p => (p.1 - e.offset, p.2)

/-- The MAPS section. -/
def parseMaps (flash : List Host.Cell) : Option MapsSection :=
  match sectionEntry flash 2 with
  | some e => ensure (decide (e.length ≤ 4194304) && decide (e.length % 32 = 0)) ⟨e.length, copyMap flash e⟩
  | none => none

/-! ## ZONES (R114, R115) -/

/-- A zone condition of its code and its limit; `none` is one not listed or out of range. -/
def conditionOfCode (n limit : Nat) : Option ZoneCondition :=
  match n with
  | 0 => some .always
  | 1 => if limit ≤ 4000 then some (.speedAtMost limit) else none
  | 2 => some .moving
  | 3 => some .indicatorOn
  | 4 => some .reverse
  | 5 => some .liftActive
  | _ => none

/-- An occupancy level code (11.2). -/
def zoneLevelOfCode (n : Nat) : Option Level := if n = 0 then none else levelOfCode n

/-- A view layout byte: a number or 255 (11.2). -/
def viewOfByte (n : Nat) : Option Nat := if n = 255 then none else some n

/-- Whether the plain fields of a zone record pass (R114). -/
def zoneFits (l : List Byte) : Bool :=
  decide (byteAt l 0 ≤ 7) && decide (s16At l 4 ≤ s16At l 6) && decide (s16At l 8 ≤ s16At l 10) &&
    inBounds (s16At l 4) (s16At l 8) && inBounds (s16At l 6) (s16At l 10) &&
    decide (u16At l 14 = 0 ∨ (100 ≤ u16At l 14 ∧ u16At l 14 ≤ 5000)) &&
    decide (byteAt l 16 ≤ 11 ∨ byteAt l 16 = 255)

/-- A zone record (R114). -/
def parseZone (l : List Byte) : Option Zone :=
  match conditionOfCode (byteAt l 2) (u16At l 12), zoneLevelOfCode (byteAt l 3) with
  | some c, some v =>
    ensure (zoneFits l)
      { index := Fin.ofNat 8 (byteAt l 0)
        enabled := bitAt l 1 0
        xMin := s16At l 4
        xMax := s16At l 6
        yMin := s16At l 8
        yMax := s16At l 10
        condition := c
        level := v
        closing := u16At l 14
        view := viewOfByte (byteAt l 16) }
  | _, _ => none

/-- What ZONES carries. -/
structure ZonesSection where
  stale : Nat
  warningLevel : Level
  generator : Fin 4
  zones : List Zone
  deriving DecidableEq, Repr

/-- The warning level of its code (R114). -/
def warningOfCode (n : Nat) : Option Level :=
  match n with
  | 2 => some .caution
  | 3 => some .danger
  | _ => none

/-- The ZONES section. -/
def parseZones (l : List Byte) : Option ZonesSection :=
  let n := byteAt l 4
  let t := u16At l 0
  match warningOfCode (byteAt l 2), sequenceAll ((records l 5 18 n).map parseZone) with
  | some w, some zones =>
    ensure
      (decide (l.length = 5 + 18 * n) && decide (n ≤ 8) && decide (t = 0 ∨ (200 ≤ t ∧ t ≤ 2000)) &&
        decide (byteAt l 3 ≤ 3) && distinct (zones.map fun z => z.index.val))
      ⟨if t = 0 then 500 else t, w, Fin.ofNat 4 (byteAt l 3), zones⟩
  | _, _ => none

/-- The fallback of ZONES, its Z0 naming the home layout (R114). -/
def zonesFallback (home : Nat) : ZonesSection where
  stale := 500
  warningLevel := .caution
  generator := 3
  zones := [⟨0, true, 0, 1000, 0, 300, .always, .caution, 1500, some home⟩]

/-- A zone with its view layout resolved against the layout table (R115). -/
def resolveView (table : List Layout) (z : Zone) : Zone :=
  { z with view := match z.view with
    | some n => if layoutPresent table n then some n else none
    | none => none }

/-! ## PORTS taken (R162, R172) -/

/-- PORTS is taken: its settings or their fallback; both ports join their buses (R162, R172, R168).
DESIGN CHOICE, safe (log 22): the section is read from the flash as it stands at this step. -/
def takePorts (s : State) : State :=
  let parsed := (sectionBytes s.flash.cells 9).bind parsePorts
  let c := parsed.getD portsFallback
  let s1 : State :=
    { s with
      loaded := { s.loaded with ports := c }
      loader := { s.loader with portsTaken := true, fellBack := s.loader.fellBack || parsed.isNone }
      ports := { s.ports with enable := c.enable } }
  joinBus .chassis (joinBus .body s1)

/-! ## The rest of the load (R172) -/

/-- What the sections after PORTS give. -/
structure LoadResult where
  loaded : Loaded
  cells : List MotionCell
  fell : Bool
  deriving DecidableEq, Repr

/-- The sections from PALETTE to ZONES, read, checked and taken (R172). -/
def loadSections (flash : List Host.Cell) (ports : PortsConfig) : LoadResult :=
  let palette := (sectionBytes flash 10).bind parsePalette
  let sensors := (sectionBytes flash 4).bind parseSensors
  let cells := (sectionBytes flash 5).bind parseCells
  let watch := (sectionBytes flash 7).bind parseWatch
  let triggers := (sectionBytes flash 8).bind parseTriggers
  let overlays := (sectionBytes flash 6).bind parseOverlays
  let maps := parseMaps flash
  let map := maps.getD ⟨0, []⟩
  let layouts := (sectionBytes flash 1).bind (parseLayouts map.length map.cells)
  let table := if maps.isSome then layouts.getD layoutsFallback else layoutsFallback
  let zones := (sectionBytes flash 3).bind parseZones
  let zone := zones.getD (zonesFallback table.home)
  let sensor := sensors.getD ⟨80, []⟩
  let overlay := overlays.getD ⟨[], generatorsFallback⟩
  let watchSet := watch.getD ⟨watchFallback, targetsFallback⟩
  { loaded :=
      { layouts := table.layouts
        home := table.home
        mapLength := map.length
        mapCells := map.cells
        zones := zone.zones.map (resolveView table.layouts)
        staleLimit := zone.stale
        warningLevel := zone.warningLevel
        warningGenerator := zone.generator
        sensors := sensor.sensors
        gate := sensor.gate
        overlays := overlay.objects
        generators := overlay.generators
        watchSets := watchSet.sets
        targets := watchSet.targets
        triggers := triggers.getD triggersFallback
        ports := ports
        palette := palette.getD paletteFallback }
    cells := cells.getD []
    fell := palette.isNone || sensors.isNone || cells.isNone || watch.isNone || triggers.isNone ||
      overlays.isNone || maps.isNone || layouts.isNone || zones.isNone }

/-! ## The entry to RUNNING (R171) -/

/-- A generator when the load completes: its count takes the next OFF width (R94). -/
def loadedGenerator (g : GeneratorConfig) : Generator := { generatorStart g with count := g.offWidth }

/-- The state with the load's results in place and the part RUNNING. -/
def installLoad (r : LoadResult) (s : State) : State :=
  { s with
    loaded := r.loaded
    loader := { s.loader with mode := .running, fellBack := s.loader.fellBack || r.fell }
    motion := ⟨r.cells, Quad.all none⟩
    tracker := { s.tracker with timer := some s.ms }
    alert := { s.alert with warningLevel := r.loaded.warningLevel }
    arbiter := { s.arbiter with home := r.loaded.home }
    compositor := { s.compositor with generators := r.loaded.generators.map loadedGenerator } }

/-- The intake's notices at the entry to RUNNING for one camera (R24, R171). -/
def entryNotices (c : Camera) (s : State) : State :=
  let s1 := if (s.intake.get c).link = .live then s else raiseNotice .cameraLost s
  if (s.intake.get c).episode then raiseNotice .cameraMismatch s1 else s1

/-- The entry actions of R171.
DESIGN CHOICE, unsafe (log 36): the notices are raised in the order CONFIG_FALLBACK, then C0 to C3. -/
def enterRunning (s : State) : State :=
  let s1 := if s.loader.fellBack then raiseNotice .configFallback s else s
  let s2 := entryNotices 3 (entryNotices 2 (entryNotices 1 (entryNotices 0 s1)))
  decisionEvent (rearm (fun _ => true) s2)

/-- The load completion (R171, R172). -/
def completeLoad (s : State) : State :=
  let s1 := if s.loader.portsTaken then s else takePorts s
  enterRunning (installLoad (loadSections s1.flash.cells s1.loaded.ports) s1)

end Sys2Proof.Machine
end

