-- ==== Sys2Proof/Machine/ServiceCommands.lean ====
section
/-! DEFINITION. The commands of the resets, the load and the flash operations (chapter 11). -/

namespace Sys2Proof.Machine

/-- POWER_ON_RESET (R176). -/
def execPowerOnReset (s : State) : Host.Outcome State Fault Refusal := .next (powerOn s)

/-- PART_RESTART (R176, log 26). -/
def execPartRestart (s : State) : Host.Outcome State Fault Refusal := .next (restartPart s)

/-- PORTS_TAKEN (R162, R172), once in each load. -/
def execPortsTaken (s : State) : Host.Outcome State Fault Refusal :=
  if s.mode = .starting ∧ s.loader.portsTaken = false then .next (takePorts s) else .next s

/-- LOAD_COMPLETION (R171, R172). -/
def execLoadCompletion (s : State) : Host.Outcome State Fault Refusal :=
  if s.mode = .starting then .next (completeLoad s) else .next s

/-- FLASH_READ_COMPLETION (R174, R175). -/
def execFlashReadCompletion (s : State) : Host.Outcome State Fault Refusal :=
  match s.flash.op with
  | .reading a => .next (endFlashOp (s.mapFlash fun f => { f with buffer := some (a, readBytes f.cells a 128) }))
  | .idle => .next s
  | .writing _ _ => .next s
  | .erasing _ => .next s

/-- FLASH_WRITE_COMPLETION (R174, R175). -/
def execFlashWriteCompletion (s : State) : Host.Outcome State Fault Refusal :=
  match s.flash.op with
  | .writing a data => .next (endFlashOp (s.mapFlash fun f => { f with cells := flashWritten f.cells a data }))
  | .idle => .next s
  | .reading _ => .next s
  | .erasing _ => .next s

/-- FLASH_ERASE_COMPLETION (R174, R175). -/
def execFlashEraseCompletion (s : State) : Host.Outcome State Fault Refusal :=
  match s.flash.op with
  | .erasing a => .next (endFlashOp (s.mapFlash fun f => { f with cells := flashErased f.cells a }))
  | .idle => .next s
  | .reading _ => .next s
  | .writing _ _ => .next s

end Sys2Proof.Machine
end

