-- ==== Sys2Proof/Machine/TrackingCommands.lean ====
section
/-! DEFINITION. The commands of the tracker, the vehicle state record and the alert evaluator (chapters 6 and 7). -/

namespace Sys2Proof.Machine

/-- Whether a data message on a port is taken: the port receives, and the part is not STARTING (R98, R116, R117, R162). -/
def dataTaken (p : Port) (s : State) : Bool := portActive p s && decide (s.mode ≠ .starting)

/-- RANGE_REPORT (R98). -/
def execRangeReport (data : List Byte) (s : State) : Host.Outcome State Fault Refusal :=
  if dataTaken .body s && reportWellFormed data then
    .next (s.mapTracker (takeReadings s.loaded.sensors (reportReadings data)))
  else .next s

/-- VEHICLE_STATUS (R116, R119, R175). -/
def execVehicleStatus (data : List Byte) (s : State) : Host.Outcome State Fault Refusal :=
  if dataTaken .chassis s then
    match takeVehicleStatus s.ms data s.alert.vehicle with
    | some v => .next (autoExit (changeVehicle v s))
    | none => .next s
  else .next s

/-- BODY_STATUS (R117, R119). -/
def execBodyStatus (data : List Byte) (s : State) : Host.Outcome State Fault Refusal :=
  if dataTaken .body s then
    match takeBodyStatus s.ms data s.alert.vehicle with
    | some v => .next (changeVehicle v s)
    | none => .next s
  else .next s

/-- A staleness expiry; that of the speed field may end SERVICE (R118, R175). -/
def expireField (f : VehicleField) (s : State) : State :=
  if f = .speed then autoExit (goStale f s) else goStale f s

/-- STALENESS_TIMER_EXPIRY (R118), once more than the limit has passed. -/
def execStalenessTimerExpiry (f : VehicleField) (s : State) : Host.Outcome State Fault Refusal :=
  if timerDue s.ms (fieldTimer f s.alert.vehicle) (s.loaded.staleLimit + 1) then .next (expireField f s) else .next s

/-- TRACKER_TIMER_EXPIRY (R107), once 100 ms have passed. -/
def execTrackerTimerExpiry (s : State) : Host.Outcome State Fault Refusal :=
  if timerDue s.ms s.tracker.timer 100 then
    .next (s.mapTracker (trackerExpiry s.ms (vehicleReading s.alert.vehicle)))
  else .next s

/-- TRACKER_UPDATE_COMPLETION (R105). -/
def execTrackerUpdateCompletion (s : State) : Host.Outcome State Fault Refusal :=
  match s.tracker.update with
  | some u => .next (completeUpdate u s)
  | none => .next s

/-- The linger's end: the alert claim leaves its slot (R127). -/
def expireLinger (s : State) : State := changeClaim 3 none (setLinger none s)

/-- LINGER_TIMER_EXPIRY (R127), once 2000 ms have passed. -/
def execLingerTimerExpiry (s : State) : Host.Outcome State Fault Refusal :=
  if timerDue s.ms s.alert.linger 2000 then .next (expireLinger s) else .next s

end Sys2Proof.Machine
end

