-- ==== Sys2Proof/Machine/Meanings.lean ====
section
/-! DEFINITION. All the meanings, for the dispatch: one definition `exec…` for each command, in the files imported here. -/
end

