-- ==== Sys2Proof/Machine/Dispatch.lean ====
section
/-! DEFINITION. One arm for each command. -/

namespace Sys2Proof.Machine

open Host

def exec (i : Instr) (s : State) : Host.Outcome State Fault Refusal :=
  match i with
  | .powerOnReset => Sys2Proof.Machine.execPowerOnReset s
  | .partRestart => Sys2Proof.Machine.execPartRestart s
  | .portsTaken => Sys2Proof.Machine.execPortsTaken s
  | .loadCompletion => Sys2Proof.Machine.execLoadCompletion s
  | .lockLost camera => Sys2Proof.Machine.execLockLost camera s
  | .lockGained camera => Sys2Proof.Machine.execLockGained camera s
  | .cameraFrameStart camera => Sys2Proof.Machine.execCameraFrameStart camera s
  | .headerArrival camera number sequence gain => Sys2Proof.Machine.execHeaderArrival camera number sequence gain s
  | .frameCompletion camera pixels => Sys2Proof.Machine.execFrameCompletion camera pixels s
  | .stallTimerExpiry camera => Sys2Proof.Machine.execStallTimerExpiry camera s
  | .lostTimerExpiry camera => Sys2Proof.Machine.execLostTimerExpiry camera s
  | .rangeReport data => Sys2Proof.Machine.execRangeReport data s
  | .vehicleStatus data => Sys2Proof.Machine.execVehicleStatus data s
  | .bodyStatus data => Sys2Proof.Machine.execBodyStatus data s
  | .stalenessTimerExpiry field => Sys2Proof.Machine.execStalenessTimerExpiry field s
  | .wrongMasterData master kind => Sys2Proof.Machine.execWrongMasterData master kind s
  | .ignoredCanFrame port cause => Sys2Proof.Machine.execIgnoredCanFrame port cause s
  | .trackerTimerExpiry => Sys2Proof.Machine.execTrackerTimerExpiry s
  | .trackerUpdateCompletion => Sys2Proof.Machine.execTrackerUpdateCompletion s
  | .lingerTimerExpiry => Sys2Proof.Machine.execLingerTimerExpiry s
  | .outputFrameStart written => Sys2Proof.Machine.execOutputFrameStart written s
  | .pairRendered => Sys2Proof.Machine.execPairRendered s
  | .refillCompletion slot => Sys2Proof.Machine.execRefillCompletion slot s
  | .claimExpiry master => Sys2Proof.Machine.execClaimExpiry master s
  | .cabFrameBroken cause => Sys2Proof.Machine.execCabFrameBroken cause s
  | .cabInterbyteTimeout => Sys2Proof.Machine.execCabInterbyteTimeout s
  | .requestArrival arrival => Sys2Proof.Machine.execRequestArrival arrival s
  | .cabFrameSent => Sys2Proof.Machine.execCabFrameSent s
  | .canFrameTransmitted port => Sys2Proof.Machine.execCanFrameTransmitted port s
  | .busOff port => Sys2Proof.Machine.execBusOff port s
  | .busOffRecovery port => Sys2Proof.Machine.execBusOffRecovery port s
  | .statusBroadcast port => Sys2Proof.Machine.execStatusBroadcast port s
  | .unknownKind master kind tag payload => Sys2Proof.Machine.execUnknownKind master kind tag payload s
  | .claimView master tag layout level lifetime => Sys2Proof.Machine.execClaimView master tag layout level lifetime s
  | .dropView master tag => Sys2Proof.Machine.execDropView master tag s
  | .takeLatches master tag => Sys2Proof.Machine.execTakeLatches master tag s
  | .getStatus master tag => Sys2Proof.Machine.execGetStatus master tag s
  | .markIncident master tag => Sys2Proof.Machine.execMarkIncident master tag s
  | .ackWarning master tag => Sys2Proof.Machine.execAckWarning master tag s
  | .getTracks master tag first => Sys2Proof.Machine.execGetTracks master tag first s
  | .getNotices master tag => Sys2Proof.Machine.execGetNotices master tag s
  | .setNoticeMask master tag enable => Sys2Proof.Machine.execSetNoticeMask master tag enable s
  | .collectMark master tag => Sys2Proof.Machine.execCollectMark master tag s
  | .setLiveHomeLayout master tag value => Sys2Proof.Machine.execSetLiveHomeLayout master tag value s
  | .setLiveClassSwitch master tag cls value => Sys2Proof.Machine.execSetLiveClassSwitch master tag cls value s
  | .setLiveWarningLevel master tag value => Sys2Proof.Machine.execSetLiveWarningLevel master tag value s
  | .setLiveBlinkWidth master tag generator phase value => Sys2Proof.Machine.execSetLiveBlinkWidth master tag generator phase value s
  | .getCounters master tag => Sys2Proof.Machine.execGetCounters master tag s
  | .getCountersClear master tag => Sys2Proof.Machine.execGetCountersClear master tag s
  | .probeMap master tag layout pane pair => Sys2Proof.Machine.execProbeMap master tag layout pane pair s
  | .readMapEntry master tag index => Sys2Proof.Machine.execReadMapEntry master tag index s
  | .getFault master tag => Sys2Proof.Machine.execGetFault master tag s
  | .restart master tag => Sys2Proof.Machine.execRestart master tag s
  | .enterService master tag => Sys2Proof.Machine.execEnterService master tag s
  | .leaveService master tag => Sys2Proof.Machine.execLeaveService master tag s
  | .flashRead master tag address => Sys2Proof.Machine.execFlashRead master tag address s
  | .flashWrite master tag address data => Sys2Proof.Machine.execFlashWrite master tag address data s
  | .flashErase master tag address => Sys2Proof.Machine.execFlashErase master tag address s
  | .flashReadCompletion => Sys2Proof.Machine.execFlashReadCompletion s
  | .flashWriteCompletion => Sys2Proof.Machine.execFlashWriteCompletion s
  | .flashEraseCompletion => Sys2Proof.Machine.execFlashEraseCompletion s
  | .cabStartByteReceived => Sys2Proof.Machine.execCabStartByteReceived s

end Sys2Proof.Machine
end

