-- ==== Sys2Proof/Safety.lean ====
section
/-! DEFINITION. What the claims speak of: blocks that a command leaves alone, the invariants of the part, and answered requests. -/

namespace Sys2Proof.Machine

/-! ## Frames -/

/-- The blocks of the state, one for each field. -/
inductive Block where
  | pending
  | ms
  | frame
  | loader
  | loaded
  | intake
  | exposure
  | motion
  | tracker
  | alert
  | arbiter
  | remap
  | compositor
  | incident
  | ports
  | flash
  | draws
  deriving DecidableEq, Repr

/-- Whether a block of `t` is that of `s`. -/
def Block.same (b : Block) (s t : State) : Prop :=
  match b with
  | .pending => t.pending = s.pending
  | .ms => t.ms = s.ms
  | .frame => t.frame = s.frame
  | .loader => t.loader = s.loader
  | .loaded => t.loaded = s.loaded
  | .intake => t.intake = s.intake
  | .exposure => t.exposure = s.exposure
  | .motion => t.motion = s.motion
  | .tracker => t.tracker = s.tracker
  | .alert => t.alert = s.alert
  | .arbiter => t.arbiter = s.arbiter
  | .remap => t.remap = s.remap
  | .compositor => t.compositor = s.compositor
  | .incident => t.incident = s.incident
  | .ports => t.ports = s.ports
  | .flash => t.flash = s.flash
  | .draws => t.draws = s.draws

/-- Every block outside `bs` is in `t` what it is in `s`. -/
def KeepsBut (bs : List Block) (s t : State) : Prop := ∀ b, b ∉ bs → b.same s t

/-- Every byte of the flash and of the map area reads in `t` what it reads in `s`. -/
def BytesKept (s t : State) : Prop :=
  (∀ a, sparseRead erased t.flash.cells a = sparseRead erased s.flash.cells a) ∧
    ∀ a, sparseRead erased t.loaded.mapCells a = sparseRead erased s.loaded.mapCells a

/-- Every pixel of the output store reads in `t` what it reads in `s`. -/
def StoreKept (s t : State) : Prop :=
  ∀ a, sparseRead blackPixel t.compositor.store a = sparseRead blackPixel s.compositor.store a

/-- Every pixel of every frame store slot reads in `t` what it reads in `s`. -/
def PicturesKept (s t : State) : Prop :=
  ∀ (c : Camera) (i : Fin 3) (a : Nat),
    sparseRead blankPixel ((t.intake.get c).slots.get i).picture a =
      sparseRead blankPixel ((s.intake.get c).slots.get i).picture a

/-- All memory reads as before: flash, map area, output store and frame store slots. -/
def MemoryKept (s t : State) : Prop := BytesKept s t ∧ StoreKept s t ∧ PicturesKept s t

/-- The compositor of `t` is that of `s` but for the pending arms of its generators (R96). -/
def ArmsOnly (s t : State) : Prop :=
  t.compositor = { s.compositor with generators := t.compositor.generators } ∧
    ∀ g, t.compositor.generators.get g =
      { s.compositor.generators.get g with pending := (t.compositor.generators.get g).pending }

/-- The port controller of `t` is that of `s` but for what raising notices changes: the pending sets
and the NOTICE frame (R168, R169). -/
def NoticesOnly (s t : State) : Prop :=
  t.ports = { s.ports with
    sending := t.ports.sending, waiting := t.ports.waiting, pendingSets := t.ports.pendingSets }

/-- Of the notice kinds, INCIDENT_MARKED apart, those of `ks` have been raised and no others: the
pending set of each master the routing table names has gained them (R168). -/
def NoticesRaised (ks : List NoticeKind) (s t : State) : Prop :=
  ∀ (m : Master) (k : NoticeKind), k ≠ .incidentMarked →
    (t.ports.pendingSets.get m).getLsbD k.index =
      ((s.ports.pendingSets.get m).getLsbD k.index || (routedTo s.loaded.ports m k && decide (k ∈ ks)))

/-- The pending arm of each generator whose source `reads` names has its source's present value in `t`,
and the compositor is otherwise that of `s` (R96). While STARTING no arm is recomputed (R94). -/
def ArmsFollow (reads : ArmSource → Bool) (s t : State) : Prop :=
  t.compositor = { s.compositor with generators := t.compositor.generators } ∧
    ∀ g, t.compositor.generators.get g =
      { s.compositor.generators.get g with
        pending :=
          if s.mode ≠ .starting ∧ reads (s.compositor.generators.get g).source = true then
            armValue t (s.compositor.generators.get g).source
          else (s.compositor.generators.get g).pending }

/-- Every camera but `c` has in `t` the intake that it has in `s`. -/
def OtherCameras (c : Camera) (s t : State) : Prop := ∀ d, d ≠ c → t.intake.get d = s.intake.get d

/-- The FILLING slot of `q`, if there is one, is FREE in `r`, and every other slot stands (R27). -/
def FillingFreed (q r : Trio FrameSlot) : Prop :=
  ∀ i, r.get i = if fillingSlot q = some i then { q.get i with state := .free } else q.get i

/-- `t` is `s` with the vehicle state record `v`: a change of what it reads offers a VEHICLE record with
the fields as they then read (R119), and nothing else changes. -/
def VehicleTaken (v : Vehicle) (s t : State) : Prop :=
  t.alert = { s.alert with vehicle := v } ∧
    (if vehicleReading v = vehicleReading s.alert.vehicle then t.incident = s.incident
     else t.incident = (offerRecord (.vehicle (vehicleReading v)) { t with incident := s.incident }).incident) ∧
    NoticesOnly s t ∧ NoticesRaised [] s t ∧ KeepsBut [.alert, .incident, .ports] s t

/-! ## Invariants -/

/-- Every memory is in its canonical form: flash, map area, output store, the picture sent and the
frame store slots. -/
def memoryCanonical (s : State) : Bool :=
  sparseWf erased s.flash.cells && sparseWf erased s.loaded.mapCells && sparseWf blackPixel s.compositor.store &&
    sparseWf blackPixel s.compositor.sent &&
    s.intake.toList.all fun k => k.slots.toList.all fun t => sparseWf blankPixel t.picture

/-- The lengths that the spec gives: four places in each request queue (R163), at most one NOTICE
waiting (R160), 48 sightings (R104), sixteen track slots (R105), eight marks (R154), two faulted
pairs (R67), forty entries (4.3), eight zones' occupancy (R124). -/
def listsBounded (s : State) : Bool :=
  decide (s.ports.queues.cab.length ≤ 4) && decide (s.ports.queues.body.length ≤ 4) &&
    decide (s.ports.queues.chassis.length ≤ 4) && decide (s.ports.waiting.count .notice ≤ 1) &&
    decide (s.tracker.queue.length ≤ 48) && decide (s.tracker.tracks.length = 16) &&
    decide (s.incident.marks.length ≤ 8) && decide (s.remap.faulted.length ≤ 2) &&
    decide (s.remap.entries.length = 40) && decide (s.alert.occupancy.length = 8)

/-- The keys that the entries of the cache carry. -/
def cacheKeys (r : Remap) : List Key := r.entries.filterMap CacheEntry.key

/-- The remap unit as R61 says: the pinned count in 0–32, the pointer between it and 39, no two
entries VALID or FILLING with the same key. -/
def remapSound (s : State) : Bool :=
  decide (s.remap.pinned ≤ 32) && decide (s.remap.pinned ≤ s.remap.pointer) && decide (s.remap.pointer ≤ 39) &&
    decide (cacheKeys s.remap).Nodup

/-- The track list as R105 says: at most sixteen tracks, numbers in 1–255, no number twice. -/
def tracksSound (s : State) : Bool :=
  decide (s.tracker.tracks.length ≤ 16) &&
    ((heldTracks s.tracker.tracks).all fun t => decide (1 ≤ t.number) && decide (t.number ≤ 255)) &&
    decide ((heldTracks s.tracker.tracks).map Track.number).Nodup

/-- The maximum level of a claim slot: what PORTS configures for a master, 6 for ALERT (R132). -/
def slotMaximum (c : PortsConfig) (i : Fin 4) : Nat :=
  match i with
  | 0 => c.maxLevel.cab
  | 1 => c.maxLevel.body
  | 2 => c.maxLevel.chassis
  | 3 => 6

/-- Whether a claim slot is empty or holds a claim up to its maximum level. -/
def slotBounded (s : State) (i : Fin 4) : Bool :=
  match s.arbiter.claims.get i with
  | none => true
  | some k => decide (k.level ≤ slotMaximum s.loaded.ports i)

/-- No claim above its maximum (R131), and no claim at all outside RUNNING (R141, R146). -/
def claimsSound (s : State) : Bool :=
  slotBounded s 0 && slotBounded s 1 && slotBounded s 2 && slotBounded s 3 &&
    (decide (s.mode = .running) || decide (s.arbiter.claims = Quad.all none))

/-- At most eight marks, no number twice (R152, R154). -/
def marksSound (s : State) : Bool :=
  decide (s.incident.marks.length ≤ 8) && decide (s.incident.marks.map Mark.number).Nodup

/-- Whether a camera's timers stand as R22 and R23 say: the stall timer runs and the lost timer is
STOPPED just while the link is LIVE. -/
def timersSound (k : CameraIntake) : Bool :=
  (decide (k.link = .live) == k.stall.isSome) && (decide (k.link = .live) == decide (k.lost = .stopped))

/-- The timers of all four cameras. -/
def linksSound (s : State) : Bool := s.intake.toList.all timersSound

/-- The slots of a camera in a state. -/
def slotCount (x : SlotState) (k : CameraIntake) : Nat := k.slots.toList.countP fun t => decide (t.state = x)

/-- At most one FILLING and one READING slot for each camera (R26, R30). -/
def slotsSound (s : State) : Bool :=
  s.intake.toList.all fun k => decide (slotCount .filling k ≤ 1) && decide (slotCount .reading k ≤ 1)

/-- The responses to taken requests of a master that have not been sent whole. -/
def outstanding (m : Master) (s : State) : Nat :=
  match masterPort m with
  | none =>
    (match s.ports.sending with
     | some f => if f.role.isAnswer then 1 else 0
     | none => 0) + s.ports.waiting.countP CabWaiting.isAnswer
  | some p => (s.ports.can.get p).store.countP fun f => f.role.isAnswer

/-- A master's requests are taken one at a time, and none waits in its queue without a response on its
way (R163). -/
def servedSound (m : Master) (s : State) : Bool :=
  decide (outstanding m s ≤ 1) && (decide (s.ports.queues.get m = []) || decide (outstanding m s = 1))

/-- The queues of the three masters, and the cab link: no frame waits while none is being sent (R160). -/
def requestsServed (s : State) : Bool :=
  servedSound .cab s && servedSound .body s && servedSound .chassis s &&
    (s.ports.sending.isSome || decide (s.ports.waiting = []))

/-! ## Requests and their responses -/

/-- Whether a request of master `m` is taken as it arrives: its port receives, nothing of it waits and
no response is on its way (R162, R163). -/
def takenAtOnce (m : Master) (s : State) : Prop :=
  canReceive m s = true ∧ s.ports.queues.get m = [] ∧ answering m s = false

/-- The response frame of a cab request (R160). -/
def cabResponse (r : Request) (code : ResponseCode) (results : List Byte) (role : FrameRole) : CabFrame :=
  ⟨r.kind, r.tag, toByte code.code :: results, role⟩

/-- The response frame of a CAN request on a port (R161). -/
def canResponse (s : State) (p : Port) (r : Request) (code : ResponseCode) (results : List Byte) (role : FrameRole) : CanFrame :=
  ⟨s.loaded.ports.base.get p + 1, [r.kind, r.tag, toByte code.code] ++ results, role⟩

/-- The response is on its way in `t`: being sent or waiting on the cab link, last in the transmit
store of a CAN port. -/
def Answered (m : Master) (r : Request) (code : ResponseCode) (results : List Byte) (role : FrameRole) (t : State) : Prop :=
  match masterPort m with
  | none =>
    t.ports.sending = some (cabResponse r code results role) ∨
      CabWaiting.frame (cabResponse r code results role) ∈ t.ports.waiting
  | some p => (t.ports.can.get p).store.getLast? = some (canResponse t p r code results role)

/-- What producing frames for master `m` changes in the port controller: the cab frames, or the
transmit store of the master's port. -/
def SendsOnly (m : Master) (p q : Ports) : Prop :=
  match masterPort m with
  | none => q = { p with sending := q.sending, waiting := q.waiting }
  | some x => q = { p with can := p.can.set x { p.can.get x with store := (q.can.get x).store } }

/-- `t` is `u`, the state after the request's effect, with the response on its way and nothing else but
frames to the same master changed. -/
def AnswersWith (m : Master) (r : Request) (code : ResponseCode) (results : List Byte) (role : FrameRole)
    (u t : State) : Prop :=
  Answered m r code results role t ∧ SendsOnly m u.ports t.ports ∧ KeepsBut [.ports] u t

end Sys2Proof.Machine
end

