-- ==== Sys2Proof/Certificates/Slice0/Obligations.lean ====
section
/-! DEFINITION. The statements for the provers: one `Obligations.<Name>` for each entry of OBLIGATIONS.json. -/

section Statements

open Sys2Proof Sys2Proof.Machine

/-! ## Camera links (chapter 2) -/

/-- R19, R23, R24, R27, R31, R96, R100: lock lost takes the link to DOWN from any state, and lock gained takes
a link in DOWN to SEARCH and sends a waiting gain command. -/
def Obligations.LockEventsMoveTheLink : Prop :=
  (∀ (c : Camera) (s : State), ∃ t, exec (.lockLost c) s = .next t ∧
     t.intake.get c =
       { s.intake.get c with
         lock := false
         link := .down
         slots := (t.intake.get c).slots
         stall := none
         lost := if (s.intake.get c).link = .live then .running s.ms else (s.intake.get c).lost
         torn :=
           if (fillingSlot (s.intake.get c).slots).isSome then satAdd (s.intake.get c).torn 1
           else (s.intake.get c).torn } ∧
     FillingFreed (s.intake.get c).slots (t.intake.get c).slots ∧
     OtherCameras c s t ∧
     t.motion = (if (s.intake.get c).link = .live then resetCells c s.motion else s.motion) ∧
     t.incident =
       (if (s.intake.get c).link = .down then s.incident
        else (offerRecord (.condition c .down (s.exposure.get c).condition) s).incident) ∧
     (if (s.intake.get c).link = .down then t.compositor = s.compositor else ArmsFollow readsCamera s t) ∧
     NoticesOnly s t ∧
     NoticesRaised (if (s.intake.get c).link = .live ∧ s.mode ≠ .starting then [.cameraLost] else []) s t ∧
     MemoryKept s t ∧
     KeepsBut [.intake, .motion, .compositor, .incident, .ports] s t) ∧
  ∀ (c : Camera) (s : State), ∃ t, exec (.lockGained c) s = .next t ∧
    t.intake.get c =
      { s.intake.get c with
        lock := true
        link := if (s.intake.get c).link = .down then .search else (s.intake.get c).link
        sendBuffer := none
        sentGain :=
          if (s.intake.get c).sendBuffer.isSome then (s.intake.get c).sendBuffer else (s.intake.get c).sentGain } ∧
    OtherCameras c s t ∧
    t.incident =
      (if (s.intake.get c).link = .down then
         (offerRecord (.condition c .search (s.exposure.get c).condition) s).incident
       else s.incident) ∧
    (if (s.intake.get c).link = .down then ArmsFollow readsCamera s t else t.compositor = s.compositor) ∧
    NoticesOnly s t ∧
    NoticesRaised [] s t ∧
    MemoryKept s t ∧
    KeepsBut [.intake, .compositor, .incident, .ports] s t

/-- R26, R27: a camera frame start tears a FILLING frame and takes the lowest FREE slot, or else the
oldest READY one; a link in DOWN has no frame start. Ages are those of log 16. -/
def Obligations.CameraFrameStartTakesASlot : Prop :=
  ∀ (c : Camera) (s : State), ∃ t, exec (.cameraFrameStart c) s = .next t ∧
    ((s.intake.get c).link = .down → t = s) ∧
    ((s.intake.get c).link ≠ .down →
      ∃ q : Trio FrameSlot, FillingFreed (s.intake.get c).slots q ∧
        (∀ i, (q.get i).state = .free → (∀ j, j < i → (q.get j).state ≠ .free) →
          (t.intake.get c).slots = q.set i { q.get i with state := .filling } ∧
            (t.intake.get c).dropped = (s.intake.get c).dropped) ∧
        ((∀ i, (q.get i).state ≠ .free) → (∃ i, (q.get i).state = .ready) →
          ∃ i, (q.get i).state = .ready ∧
            (∀ j, (q.get j).state = .ready → slotAge s.ms (q.get j) ≤ slotAge s.ms (q.get i)) ∧
            (t.intake.get c).slots = q.set i { q.get i with state := .filling } ∧
            (t.intake.get c).dropped =
              if (s.intake.get c).inUse then satAdd (s.intake.get c).dropped 1 else (s.intake.get c).dropped) ∧
        ((∀ i, (q.get i).state ≠ .free ∧ (q.get i).state ≠ .ready) →
          (t.intake.get c).slots = q ∧ (t.intake.get c).dropped = (s.intake.get c).dropped) ∧
        t.intake.get c =
          { s.intake.get c with
            slots := (t.intake.get c).slots
            dropped := (t.intake.get c).dropped
            torn :=
              if (fillingSlot (s.intake.get c).slots).isSome then satAdd (s.intake.get c).torn 1
              else (s.intake.get c).torn }) ∧
    OtherCameras c s t ∧
    PicturesKept s t ∧
    KeepsBut [.intake] s t

/-- R20, R22, R23, R24, R25: a header with the link's number is accepted. -/
def Obligations.HeaderWithTheRightNumberIsAccepted : Prop :=
  ∀ (c : Camera) (number : BitVec 4) (sequence : Half) (gain : Gain) (s : State),
    number.toNat = c.val → (s.intake.get c).link ≠ .down →
    ∃ t, exec (.headerArrival c number sequence gain) s = .next t ∧
      t.intake.get c =
        { s.intake.get c with
          link := if (s.intake.get c).link = .search then .live else (s.intake.get c).link
          slots := (t.intake.get c).slots
          header := some ⟨number, sequence, gain⟩
          stall := if (s.intake.get c).link = .search then some s.ms else (s.intake.get c).stall
          lost := if (s.intake.get c).link = .search then .stopped else (s.intake.get c).lost
          episode := false
          dropped := (t.intake.get c).dropped } ∧
      (∀ i, (t.intake.get c).slots.get i =
        if fillingSlot (s.intake.get c).slots = some i then { (s.intake.get c).slots.get i with gain := gain }
        else (s.intake.get c).slots.get i) ∧
      (t.intake.get c).dropped =
        (match (s.intake.get c).header with
         | none => (s.intake.get c).dropped
         | some b =>
           if (s.intake.get c).link ≠ .search ∧ 1 ≤ (sequence - (b.sequence + 1#16)).toNat ∧
               (sequence - (b.sequence + 1#16)).toNat ≤ 32767 then
             satAdd (s.intake.get c).dropped (sequence - (b.sequence + 1#16)).toNat
           else (s.intake.get c).dropped) ∧
      OtherCameras c s t ∧
      t.incident =
        (if (s.intake.get c).link = .search then
           (offerRecord (.condition c .live (s.exposure.get c).condition) s).incident
         else s.incident) ∧
      (if (s.intake.get c).link = .search then ArmsFollow readsCamera s t else t.compositor = s.compositor) ∧
      NoticesOnly s t ∧
      NoticesRaised (if (s.intake.get c).link = .search ∧ s.mode ≠ .starting then [.cameraBack] else []) s t ∧
      MemoryKept s t ∧
      KeepsBut [.intake, .compositor, .incident, .ports] s t

/-- R21, R23, R24, R100: a header with another number is an identity mismatch. On a link in DOWN no
header is taken (log 17). -/
def Obligations.HeaderWithAWrongNumberIsAMismatch : Prop :=
  ∀ (c : Camera) (number : BitVec 4) (sequence : Half) (gain : Gain) (s : State), ∃ t,
    exec (.headerArrival c number sequence gain) s = .next t ∧
    ((s.intake.get c).link = .down → t = s) ∧
    (number.toNat ≠ c.val → (s.intake.get c).link ≠ .down →
      t.intake.get c =
        { s.intake.get c with
          link := .search
          slots := (t.intake.get c).slots
          stall := if (s.intake.get c).link = .live then none else (s.intake.get c).stall
          lost := if (s.intake.get c).link = .live then .running s.ms else (s.intake.get c).lost
          episode := true
          mismatch := satAdd (s.intake.get c).mismatch 1 } ∧
      FillingFreed (s.intake.get c).slots (t.intake.get c).slots ∧
      OtherCameras c s t ∧
      t.motion = (if (s.intake.get c).link = .live then resetCells c s.motion else s.motion) ∧
      t.incident =
        (if (s.intake.get c).link = .search then s.incident
         else (offerRecord (.condition c .search (s.exposure.get c).condition) s).incident) ∧
      (if (s.intake.get c).link = .search then t.compositor = s.compositor else ArmsFollow readsCamera s t) ∧
      NoticesOnly s t ∧
      NoticesRaised
        ((if (s.intake.get c).link = .live ∧ s.mode ≠ .starting then [.cameraLost] else []) ++
          (if (s.intake.get c).episode = false ∧ s.mode ≠ .starting then [.cameraMismatch] else [])) s t ∧
      MemoryKept s t ∧
      KeepsBut [.intake, .motion, .compositor, .incident, .ports] s t)

/-- R28, R22, R23: the FILLING slot becomes READY, and a STALLED link returns to LIVE. That a camera with no
FILLING slot and a link in DOWN complete no frame, and that in SEARCH the slot becomes READY and nothing is
handed over, is the model's choice (log 17). How the operand gives the picture is the model's choice too (log
8): an unlisted pixel is blank, the later of two entries counts, and an entry outside the frame is left out. -/
def Obligations.FrameCompletionReadiesTheSlot : Prop :=
  ∀ (c : Camera) (pixels : List (Nat × Pixel)) (s : State), ∃ t, exec (.frameCompletion c pixels) s = .next t ∧
    (fillingSlot (s.intake.get c).slots = none ∨ (s.intake.get c).link = .down → t = s) ∧
    (∀ i, fillingSlot (s.intake.get c).slots = some i → (s.intake.get c).link ≠ .down →
      t.intake.get c =
        { s.intake.get c with
          link := if (s.intake.get c).link = .stalled then .live else (s.intake.get c).link
          slots := (t.intake.get c).slots
          stall := if (s.intake.get c).link = .search then (s.intake.get c).stall else some s.ms
          lost := if (s.intake.get c).link = .stalled then .stopped else (s.intake.get c).lost
          sendBuffer := (t.intake.get c).sendBuffer
          sentGain := (t.intake.get c).sentGain } ∧
      (∀ j, j ≠ i → (t.intake.get c).slots.get j = (s.intake.get c).slots.get j) ∧
      (t.intake.get c).slots.get i =
        { (s.intake.get c).slots.get i with
          state := .ready
          doneMs := s.ms
          picture := ((t.intake.get c).slots.get i).picture } ∧
      (∀ a, sparseRead blankPixel ((t.intake.get c).slots.get i).picture a =
        if a < 1024000 then (((pixels.filter fun p => decide (p.1 = a)).getLast?).map Prod.snd).getD blankPixel
        else blankPixel) ∧
      ((s.intake.get c).link = .search → KeepsBut [.intake] s t)) ∧
    OtherCameras c s t ∧
    ArmsOnly s t ∧
    NoticesOnly s t ∧
    KeepsBut [.intake, .exposure, .motion, .tracker, .compositor, .incident, .ports] s t

/-- R22, R23, R24: the expiry of a running stall timer moves a LIVE link to STALLED. A lost timer that has
run for 3000 ms goes to EXPIRED, and nothing else happens; before that, stopped or expired, its expiry
changes nothing (log 2, log 3). -/
def Obligations.LinkTimersExpire : Prop :=
  ∀ (c : Camera) (s : State),
    (∀ since, (s.intake.get c).link = .live → (s.intake.get c).stall = some since → 100 ≤ (s.ms - since).toNat →
      ∃ t, exec (.stallTimerExpiry c) s = .next t ∧
        t.intake.get c = { s.intake.get c with link := .stalled, stall := none, lost := .running s.ms } ∧
        OtherCameras c s t ∧
        t.motion = resetCells c s.motion ∧
        t.incident = (offerRecord (.condition c .stalled (s.exposure.get c).condition) s).incident ∧
        ArmsFollow readsCamera s t ∧
        NoticesOnly s t ∧
        NoticesRaised (if s.mode ≠ .starting then [.cameraLost] else []) s t ∧
        MemoryKept s t ∧
        KeepsBut [.intake, .motion, .compositor, .incident, .ports] s t) ∧
    (∀ since, (s.intake.get c).lost = .running since → 3000 ≤ (s.ms - since).toNat →
      exec (.lostTimerExpiry c) s =
        .next { s with intake := s.intake.set c { s.intake.get c with lost := .expired } }) ∧
    (∀ since, (s.intake.get c).lost = .running since → (s.ms - since).toNat < 3000 →
      exec (.lostTimerExpiry c) s = .next s) ∧
    ((s.intake.get c).lost = .stopped ∨ (s.intake.get c).lost = .expired →
      exec (.lostTimerExpiry c) s = .next s)

/-! ## Exposure unit and motion cells (chapters 3 and 6) -/

/-- R36, R37, R38: the statistics of a frame over the metering windows of a camera, which are its cells'
windows, of weight 2 where the cell's ground centre lies in an active zone, or the whole-frame grid when it has
no cells. A pixel that the picture does not list is blank (log 8). -/
def Obligations.FrameStatisticsFollowTheWindows : Prop :=
  ∀ (picture : List (Nat × Pixel)) (zones : List Zone) (activity : ZoneSet) (cells : List MotionCell),
    let luma (u v : Nat) : Nat := (sparseRead blankPixel picture (v * 1280 + u)).y.toNat
    let mean (u v : Nat) : Nat :=
      ((List.range 16).map fun j => ((List.range 16).map fun i => luma (u + i) (v + j)).sum).sum / 256
    let sharp (u v : Nat) : Nat :=
      ((List.range 16).map fun j => ((List.range 15).map fun i =>
        max (luma (u + i + 1) (v + j)) (luma (u + i) (v + j)) -
          min (luma (u + i + 1) (v + j)) (luma (u + i) (v + j))).sum).sum / 240
    let clipped (u v : Nat) : Nat :=
      ((List.range 16).map fun j => (List.range 16).countP fun i => decide (250 ≤ luma (u + i) (v + j))).sum
    let weight (x y : Int) : Nat :=
      if ∃ z ∈ zones, activity.getLsbD z.index.val = true ∧ z.xMin ≤ x ∧ x ≤ z.xMax ∧ z.yMin ≤ y ∧ y ≤ z.yMax then 2
      else 1
    let stats := frameStats picture (meteringWindows zones activity cells)
    (cells = [] →
      stats.m = (((List.range 160).map fun n => mean (80 * (n % 16) + 32) (80 * (n / 16) + 32)).sum + 80) / 160 ∧
        stats.s = (((List.range 160).map fun n => sharp (80 * (n % 16) + 32) (80 * (n / 16) + 32)).sum + 80) / 160 ∧
        stats.h = 256 * ((List.range 160).map fun n => clipped (80 * (n % 16) + 32) (80 * (n / 16) + 32)).sum / 40960) ∧
    (cells ≠ [] →
      let total := (cells.map fun k => weight k.x k.y).sum
      let count := cells.length
      stats.m = ((cells.map fun k => weight k.x k.y * mean k.u k.v).sum + total / 2) / total ∧
        stats.s = ((cells.map fun k => sharp k.u k.v).sum + count / 2) / count ∧
        stats.h = 256 * (cells.map fun k => clipped k.u k.v).sum / (256 * count)) ∧
    stats.m ≤ 255 ∧ stats.s ≤ 255 ∧ stats.h ≤ 256

/-- R39, R40: stage 3 of R35 from the gain `g`, the balance `b`, the mean `m` and the target `T`
that the condition gives. -/
def Obligations.GainUpdateStepsTowardTheTarget : Prop :=
  ∀ (T m : Nat) (condition : Condition) (e : Exposure),
    let target : Int := max 16 (min 235 ((T : Int) +
      match condition with
      | .glare => -24
      | .lowLight => 16
      | .normal => 0
      | .obscured => 0))
    let g' : Int := (e.gain.val : Int) + max (-4) (min 4 (Int.tdiv (target - m) 8))
    ((updateGain T m condition e).gain.val : Int) = max 0 (min 63 g') ∧
    (updateGain T m condition e).inFlight =
      (if (updateGain T m condition e).gain = e.gain then e.inFlight
       else some ⟨(updateGain T m condition e).gain, 0⟩) ∧
    (63 < g' → (updateGain T m condition e).balance = if e.balance < 127 then e.balance + 1 else e.balance) ∧
    (g' < 0 → (updateGain T m condition e).balance = if -127 < e.balance then e.balance - 1 else e.balance) ∧
    (0 ≤ g' ∧ g' ≤ 63 →
      (updateGain T m condition e).balance =
        if 0 < e.balance then e.balance - 1 else if e.balance < 0 then e.balance + 1 else 0) ∧
    updateGain T m condition e =
      { e with
        gain := (updateGain T m condition e).gain
        inFlight := (updateGain T m condition e).inFlight
        balance := (updateGain T m condition e).balance }

/-- R35, R41, R42, R43: what a handover does to the gain, by the command in flight. `i` is the FILLING
slot, whose record holds the frame's applied gain. -/
def Obligations.HandoverChecksTheCommandInFlight : Prop :=
  ∀ (c : Camera) (pixels : List (Nat × Pixel)) (i : Fin 3) (applied : Gain) (stats : Stats) (s : State),
    fillingSlot (s.intake.get c).slots = some i → ((s.intake.get c).slots.get i).gain = applied →
    (s.intake.get c).link = .live ∨ (s.intake.get c).link = .stalled → s.mode ≠ .starting →
    stats = frameStats (framePicture pixels)
      (meteringWindows s.loaded.zones s.alert.activity (cellsOf c s.motion)) →
    ∃ t, exec (.frameCompletion c pixels) s = .next t ∧
      (t.exposure.get c).stats = some stats ∧
      (let e := s.exposure.get c
        let updated := updateGain (s.loaded.targets.get c) stats.m e.condition
          { e with gain := if e.inFlight = none then applied else e.gain, inFlight := none }
        match e.inFlight with
        | none =>
          (t.exposure.get c).gain = updated.gain ∧ (t.exposure.get c).inFlight = updated.inFlight ∧
            (t.exposure.get c).balance = updated.balance ∧ (t.exposure.get c).gainMismatch = e.gainMismatch
        | some k =>
          (k.index = applied →
            (t.exposure.get c).gain = updated.gain ∧ (t.exposure.get c).inFlight = updated.inFlight ∧
              (t.exposure.get c).balance = updated.balance ∧ (t.exposure.get c).gainMismatch = e.gainMismatch) ∧
          (k.index ≠ applied → k.waits + 1 < 6 →
            (t.exposure.get c).gain = e.gain ∧ (t.exposure.get c).inFlight = some ⟨k.index, k.waits + 1⟩ ∧
              (t.exposure.get c).balance = e.balance ∧ (t.exposure.get c).gainMismatch = e.gainMismatch) ∧
          (k.index ≠ applied → 6 ≤ k.waits + 1 →
            (t.exposure.get c).gain = applied ∧ (t.exposure.get c).inFlight = none ∧
              (t.exposure.get c).balance = e.balance ∧
              (t.exposure.get c).gainMismatch = satAdd e.gainMismatch 1)) ∧
      (∀ d, d ≠ c → t.exposure.get d = s.exposure.get d) ∧
      (t.intake.get c).sendBuffer =
        (if commandIssued applied (s.exposure.get c) (t.exposure.get c) then none
         else (s.intake.get c).sendBuffer) ∧
      (t.intake.get c).sentGain =
        (if commandIssued applied (s.exposure.get c) (t.exposure.get c) then some (t.exposure.get c).gain
         else (s.intake.get c).sentGain) ∧
      KeepsBut [.intake, .exposure, .motion, .tracker, .compositor, .incident, .ports] s t

/-- R22, R45, R47, R49, R50: at a handover, from a LIVE link or from a STALLED one that returns to LIVE, the
enabled watch sets move, the condition is recomputed, and a change of it raises its notices. One watch set
asserts at the end of a run of entry tests and clears at the end of a run of release tests. -/
def Obligations.HandoverMovesTheWatchSets : Prop :=
  (∀ (c : Camera) (pixels : List (Nat × Pixel)) (i : Fin 3) (s : State),
    fillingSlot (s.intake.get c).slots = some i → (s.intake.get c).link = .live ∨ (s.intake.get c).link = .stalled →
    s.mode ≠ .starting →
    ∃ t, exec (.frameCompletion c pixels) s = .next t ∧
      (∀ stats, (t.exposure.get c).stats = some stats → ∀ w,
        (t.exposure.get c).watch.get w =
          if (s.loaded.watchSets.get w).enabled then
            moveWatch (s.loaded.watchSets.get w)
              (match (s.loaded.watchSets.get w).quantity with
               | .mean => (stats.m : Int)
               | .sharp => stats.s
               | .highClip => stats.h
               | .limit => (t.exposure.get c).balance)
              ((s.exposure.get c).watch.get w)
          else (s.exposure.get c).watch.get w) ∧
      (∀ w, watchAsserted ((t.exposure.get c).watch.get w) = true →
        (∀ v, v < w → watchAsserted ((t.exposure.get c).watch.get v) = false) →
        (t.exposure.get c).condition = (s.loaded.watchSets.get w).action) ∧
      ((∀ w, watchAsserted ((t.exposure.get c).watch.get w) = false) → (t.exposure.get c).condition = .normal) ∧
      NoticesRaised
        ((if (s.intake.get c).link = .stalled then [.cameraBack] else []) ++
          (if (s.exposure.get c).condition ≠ .obscured ∧ (t.exposure.get c).condition = .obscured then
            [.lensObscured] else []) ++
          (if (s.exposure.get c).condition = .obscured ∧ (t.exposure.get c).condition ≠ .obscured then
            [.lensClear] else []) ++
          (if (s.exposure.get c).condition ≠ .lowLight ∧ (t.exposure.get c).condition = .lowLight then
            [.lowLightOn] else [])) s t ∧
      (if (s.intake.get c).link = .live ∧ (t.exposure.get c).condition = (s.exposure.get c).condition then
         t.compositor = s.compositor
       else ArmsFollow readsCamera s t) ∧
      t.incident =
        (let u := if (s.intake.get c).link = .stalled then
            offerRecord (.condition c .live (s.exposure.get c).condition) s
          else s
         if (t.exposure.get c).condition = (s.exposure.get c).condition then u
         else offerRecord (.condition c .live (t.exposure.get c).condition) u).incident) ∧
  ∀ (w : WatchSet) (q : Int) (x : WatchState),
    let entry : Prop := match w.direction with
      | .above => w.threshold < q
      | .below => q < w.threshold
    let release : Prop := match w.direction with
      | .above => q < w.threshold - w.margin
      | .below => w.threshold + w.margin < q
    (x = .clear → entry → moveWatch w q x = if w.persistence = 1 then .asserted else .entering 1) ∧
      (x = .clear → ¬ entry → moveWatch w q x = .clear) ∧
      (∀ n, x = .entering n → entry →
        moveWatch w q x = if n + 1 = w.persistence then .asserted else .entering (n + 1)) ∧
      (∀ n, x = .entering n → ¬ entry → moveWatch w q x = .clear) ∧
      (x = .asserted → release → moveWatch w q x = if w.persistence = 1 then .clear else .leaving 1) ∧
      (x = .asserted → ¬ release → moveWatch w q x = .asserted) ∧
      (∀ n, x = .leaving n → release →
        moveWatch w q x = if n + 1 = w.persistence then .clear else .leaving (n + 1)) ∧
      (∀ n, x = .leaving n → ¬ release → moveWatch w q x = .asserted)

/-- R22, R101, R102, R103, R104: the motion cells at a handover, from a LIVE link or from a STALLED one that
returns to LIVE. At a scored handover the active cells post unless the condition is OBSCURED: at most four,
the highest scores first and the lower index first among equals. -/
def Obligations.HandoverScoresTheMotionCells : Prop :=
  ∀ (c : Camera) (pixels : List (Nat × Pixel)) (i : Fin 3) (applied : Gain) (s : State),
    fillingSlot (s.intake.get c).slots = some i → ((s.intake.get c).slots.get i).gain = applied →
    (s.intake.get c).link = .live ∨ (s.intake.get c).link = .stalled → s.mode ≠ .starting →
    ∃ t, exec (.frameCompletion c pixels) s = .next t ∧
      t.motion.lastGain.get c = some applied ∧
      (∀ d, d ≠ c → t.motion.lastGain.get d = s.motion.lastGain.get d) ∧
      t.motion.cells.length = s.motion.cells.length ∧
      (∀ (n : Nat) (k l : MotionCell), s.motion.cells[n]? = some k → t.motion.cells[n]? = some l →
        (k.camera ≠ c → l = k) ∧
        (k.camera = c → l.previous = some (subBlockMeans (framePicture pixels) k)) ∧
        (k.camera = c →
          (s.motion.lastGain.get c ≠ some applied ∨ ∃ x ∈ s.motion.cells, x.camera = c ∧ x.previous = none) →
          l = { k with previous := l.previous }) ∧
        (∀ p, k.camera = c → s.motion.lastGain.get c = some applied →
          (∀ x ∈ s.motion.cells, x.camera = c → x.previous ≠ none) → k.previous = some p →
          l.score = cellScore (subBlockMeans (framePicture pixels) k) p ∧
          l.streak =
            (if (if (s.exposure.get c).condition = .lowLight then min (2 * k.threshold) 4080 else k.threshold) ≤ l.score
             then min (k.streak + 1) 2 else 0) ∧
          l.active = decide (l.streak = 2) ∧
          l = { k with previous := l.previous, score := l.score, streak := l.streak, active := l.active })) ∧
      ∃ posts : List Nat,
        t.tracker =
          (posts.filterMap fun n => t.motion.cells[n]?).foldl (fun q k =>
            if q.queue.length < 48 then { q with queue := q.queue ++ [⟨k.x, k.y, .motion⟩] }
            else { q with queue := q.queue.drop 1 ++ [⟨k.x, k.y, .motion⟩], discarded := satAdd q.discarded 1 })
            s.tracker ∧
        (s.motion.lastGain.get c ≠ some applied ∨ (∃ x ∈ s.motion.cells, x.camera = c ∧ x.previous = none) ∨
          (s.exposure.get c).condition = .obscured → posts = []) ∧
        (s.motion.lastGain.get c = some applied → (∀ x ∈ s.motion.cells, x.camera = c → x.previous ≠ none) →
          (s.exposure.get c).condition ≠ .obscured →
          let goesFirst (a b : Nat) : Prop := ∀ x y : MotionCell,
            t.motion.cells[a]? = some x → t.motion.cells[b]? = some y → y.score < x.score ∨ y.score = x.score ∧ a < b
          posts.length ≤ 4 ∧ posts.Pairwise goesFirst ∧
            (∀ n ∈ posts, ∃ k : MotionCell, t.motion.cells[n]? = some k ∧ k.camera = c ∧ k.active = true) ∧
            ∀ (n : Nat) (k : MotionCell), t.motion.cells[n]? = some k → k.camera = c → k.active = true → n ∉ posts →
              posts.length = 4 ∧ ∀ m ∈ posts, goesFirst m n)

/-- R98, R7, R104: the readings of a well-formed RANGE_REPORT join the sighting queue one after another. In
one reading `v` the low ten bits are the distance and the rest the sensor number. -/
def Obligations.RangeReadingsBecomeSightings : Prop :=
  (∀ (data : List Byte) (s : State),
    (portActive .body s = true → s.mode ≠ .starting → reportWellFormed data = true →
      ∃ t, exec (.rangeReport data) s = .next t ∧
        t.tracker = (reportReadings data).foldl (fun k v => takeReading s.loaded.sensors v k) s.tracker ∧
        KeepsBut [.tracker] s t) ∧
    (portActive .body s = false ∨ s.mode = .starting ∨ reportWellFormed data = false →
      exec (.rangeReport data) s = .next s)) ∧
  ∀ (sensors : List Sensor) (v r n : Nat) (t : Tracker), v = n * 1024 + r → r < 1024 →
    (∀ k, findSensor sensors n = some k → k.enabled = true → 1 ≤ r → r ≤ k.maxRange →
      ∃ g : Sighting, g.source = .range ∧
        g.x = max (-1000) (min 3000 (k.mountX + Int.fdiv ((max r 20 : Nat) * k.cx + 2048) 4096)) ∧
        g.y = max (-500) (min 1500 (k.mountY + Int.fdiv ((max r 20 : Nat) * k.cy + 2048) 4096)) ∧
        takeReading sensors v t =
          (if t.queue.length < 48 then { t with queue := t.queue ++ [g] }
           else { t with queue := t.queue.drop 1 ++ [g], discarded := satAdd t.discarded 1 })) ∧
    (∀ k, findSensor sensors n = some k → k.enabled = true → r = 0 ∨ k.maxRange < r → takeReading sensors v t = t) ∧
    ((∀ k, findSensor sensors n = some k → k.enabled = false) →
      takeReading sensors v t = { t with unknownSensors := satAdd t.unknownSensors 1 })

/-! ## Vehicle state, tracker and alert evaluator (chapters 6 and 7) -/

/-- R116, R117, R119, R175: a well-formed VEHICLE_STATUS on the chassis port and a well-formed
BODY_STATUS on the body port write their fields; in SERVICE a speed that reads anything but 0 ends the
state. A message of the wrong length or with an undefined code is discarded whole. -/
def Obligations.VehicleMessagesWriteTheirFields : Prop :=
  (∀ (data : List Byte) (gear : Option Gear) (indicator : Option Indicator) (s : State),
    portActive .chassis s = true → s.mode ≠ .starting → data.length = 4 →
    gearOfCode (byteAt data 2) = some gear → indicatorOfCode (byteAt data 3) = some indicator →
    ∃ u t, exec (.vehicleStatus data) s = .next t ∧
      VehicleTaken
        { s.alert.vehicle with
          speed :=
            ⟨if u16At data 0 = 65535 then none else some (min (u16At data 0) 4000), some s.ms, some s.ms⟩
          gear := ⟨gear, some s.ms, some s.ms⟩
          indicator := ⟨indicator, some s.ms, some s.ms⟩ } s u ∧
      (s.mode = .running ∨ u16At data 0 = 0 → t = u) ∧
      (s.mode = .service → u16At data 0 ≠ 0 → s.flash.op = .idle → t = restartPart u) ∧
      (s.mode = .service → u16At data 0 ≠ 0 → s.flash.op ≠ .idle →
        t = { u with flash := { s.flash with exitPending := true } })) ∧
  (∀ (data : List Byte) (lift : Option Lift) (s : State),
    portActive .body s = true → s.mode ≠ .starting → data.length = 1 → liftOfCode (byteAt data 0) = some lift →
    ∃ t, exec (.bodyStatus data) s = .next t ∧
      VehicleTaken { s.alert.vehicle with lift := ⟨lift, some s.ms, some s.ms⟩ } s t) ∧
  (∀ (data : List Byte) (s : State),
    data.length ≠ 4 ∨ 3 < byteAt data 2 ∨ byteAt data 3 = 2 ∨ 3 < byteAt data 3 →
    exec (.vehicleStatus data) s = .next s) ∧
  ∀ (data : List Byte) (s : State), data.length ≠ 1 ∨ byteAt data 0 = 2 ∨ 3 < byteAt data 0 →
    exec (.bodyStatus data) s = .next s

/-- R118, R119, R175: a field whose age exceeds the staleness limit goes UNKNOWN. -/
def Obligations.StalenessExpiryMakesTheFieldUnknown : Prop :=
  ∀ (f : VehicleField) (since : Word) (s : State), fieldTimer f s.alert.vehicle = some since →
    (s.loaded.staleLimit < (s.ms - since).toNat →
      ∃ u t, exec (.stalenessTimerExpiry f) s = .next t ∧
        u.alert =
          { s.alert with
            vehicle := match f with
              | .speed =>
                { s.alert.vehicle with speed := { s.alert.vehicle.speed with value := none, timer := none } }
              | .gear =>
                { s.alert.vehicle with gear := { s.alert.vehicle.gear with value := none, timer := none } }
              | .indicator =>
                { s.alert.vehicle with indicator := { s.alert.vehicle.indicator with value := none, timer := none } }
              | .lift =>
                { s.alert.vehicle with lift := { s.alert.vehicle.lift with value := none, timer := none } } } ∧
        (if fieldKnown f s.alert.vehicle then
           u.incident =
             (offerRecord (.vehicle (vehicleReading u.alert.vehicle)) { u with incident := s.incident }).incident
         else u.incident = s.incident) ∧
        NoticesOnly s u ∧
        NoticesRaised (if fieldKnown f s.alert.vehicle then [.vehicleStale] else []) s u ∧
        KeepsBut [.alert, .incident, .ports] s u ∧
        (f ≠ .speed ∨ s.mode ≠ .service → t = u) ∧
        (f = .speed → s.mode = .service → s.flash.op = .idle → t = restartPart u) ∧
        (f = .speed → s.mode = .service → s.flash.op ≠ .idle →
          t = { u with flash := { s.flash with exitPending := true } })) ∧
    ((s.ms - since).toNat ≤ s.loaded.staleLimit → exec (.stalenessTimerExpiry f) s = .next s)

/-- R107, R9: a due expiry of the update timer begins an update, unless one is running. -/
def Obligations.TrackerTimerBeginsAnUpdate : Prop :=
  ∀ (since : Word) (s : State), s.tracker.timer = some since → 100 ≤ (s.ms - since).toNat →
    ∃ t, exec .trackerTimerExpiry s = .next t ∧
      KeepsBut [.tracker] s t ∧
      (∀ u, s.tracker.update = some u → t.tracker = { s.tracker with timer := some s.ms }) ∧
      (s.tracker.update = none →
        t.tracker =
          { s.tracker with
            timer := some s.ms
            queue := []
            update := some
              { batch := s.tracker.queue
                predicted := s.tracker.tracks.map fun k =>
                  k.map fun x => (x.x + Int.tdiv x.vx 10, x.y + Int.tdiv x.vy 10)
                vehicle := vehicleReading s.alert.vehicle } })

/-- R108, R109: one sighting goes to the nearest candidate within the gate, the lowest slot among
equals, or starts a new track in the lowest empty slot or in place of the replaceable track with the
most misses, or is discarded. -/
def Obligations.SightingFindsItsTrack : Prop :=
  ∀ (gate : Nat) (g : Sighting) (a : Association),
    (∀ (i : Nat) (k : Candidate), a.slots[i]? = some (some k) → groundDistance g.x g.y k.atX k.atY ≤ gate →
      (∀ (j : Nat) (l : Candidate), a.slots[j]? = some (some l) →
        groundDistance g.x g.y k.atX k.atY ≤ groundDistance g.x g.y l.atX l.atY ∧
          (j < i → groundDistance g.x g.y k.atX k.atY < groundDistance g.x g.y l.atX l.atY)) →
      associateOne gate g a = { a with slots := a.slots.set i (some (takeSighting g k)) }) ∧
    ((∀ (j : Nat) (l : Candidate), a.slots[j]? = some (some l) → gate < groundDistance g.x g.y l.atX l.atY) →
      (∀ i : Nat, a.slots[i]? = some none → (∀ j : Nat, j < i → a.slots[j]? ≠ some none) →
        ∃ n, associateOne gate g a =
          { a with slots := a.slots.set i (some ⟨newTrack n g, g.x, g.y, true, []⟩), lastNumber := n }) ∧
      (∀ (i : Nat) (k : Candidate), (∀ j : Nat, a.slots[j]? ≠ some none) → a.slots[i]? = some (some k) → replaceable k = true →
        (∀ (j : Nat) (l : Candidate), a.slots[j]? = some (some l) → replaceable l = true →
          l.track.misses ≤ k.track.misses ∧ (j < i → l.track.misses < k.track.misses)) →
        ∃ n, associateOne gate g a =
          { a with slots := a.slots.set i (some ⟨newTrack n g, g.x, g.y, true, []⟩), lastNumber := n }) ∧
      ((∀ j : Nat, a.slots[j]? ≠ some none) → (∀ (j : Nat) (l : Candidate), a.slots[j]? = some (some l) → replaceable l = false) →
        associateOne gate g a = { a with overflow := a.overflow + 1 }))

/-- R110, R111 and the bounds of R112: the update, miss and bounds stages for one slot. -/
def Obligations.CandidateSettles : Prop :=
  ∀ (slots : List (Option Candidate)) (i : Nat) (k : Candidate), slots[i]? = some (some k) →
    (k.created = true →
      (settleSlots slots)[i]? = some (if inBounds k.track.x k.track.y then some k.track else none)) ∧
    (k.created = false → k.took = [] → k.track.state = .tentative → (settleSlots slots)[i]? = some none) ∧
    (k.created = false → k.took = [] → k.track.state = .confirmed →
      (settleSlots slots)[i]? = some
        (if inBounds k.atX k.atY then some { k.track with state := .coasting, misses := 1, x := k.atX, y := k.atY }
         else none)) ∧
    (k.created = false → k.took = [] → k.track.state = .coasting →
      (settleSlots slots)[i]? = some
        (if k.track.misses + 1 < 5 ∧ inBounds k.atX k.atY = true then
           some { k.track with misses := k.track.misses + 1, x := k.atX, y := k.atY }
         else none)) ∧
    (k.created = false → k.took ≠ [] →
      ∃ x : Track,
        (settleSlots slots)[i]? = some (if inBounds x.x x.y then some x else none) ∧
        x.hits = min (k.track.hits + 1) 255 ∧
        x.misses = 0 ∧
        x.state = (if k.track.state = .tentative ∧ x.hits < 3 then .tentative else .confirmed) ∧
        (x.mask.range = true ↔ ∃ g ∈ k.took, g.source = .range) ∧
        (x.mask.motion = true ↔ ∃ g ∈ k.took, g.source = .motion) ∧
        x.x = Int.fdiv (2 * (k.took.map Sighting.x).sum + k.took.length) (2 * k.took.length) ∧
        x.y = Int.fdiv (2 * (k.took.map Sighting.y).sum + k.took.length) (2 * k.took.length) ∧
        x.vx = max (-1000) (min 1000 (k.track.vx + Int.tdiv ((x.x - k.track.x) * 10 - k.track.vx) 4)) ∧
        x.vy = max (-1000) (min 1000 (k.track.vy + Int.tdiv ((x.y - k.track.y) * 10 - k.track.vy) 4)) ∧
        x = { k.track with
          hits := x.hits, misses := x.misses, state := x.state, mask := x.mask, x := x.x, y := x.y, vx := x.vx, vy := x.vy })

/-- R121: the computed level and the best zone of a track. A track created in the update is TENTATIVE with
best zone none. -/
def Obligations.TrackTakesTheHighestContribution : Prop :=
  ∀ (zones : List Zone) (v : VehicleReading) (x : Track),
    (x.state = .tentative → (rateTrack zones v x).computed = .none) ∧
    (∀ z k, findZone zones z = some k → z < 8 → zoneActive v k = true → x.state ≠ .tentative →
      zoneContains k x.x x.y = true →
      (closingRaises k.closing x.y x.vy = true → (rateTrack zones v x).computed = .danger) ∧
      (closingRaises k.closing x.y x.vy = false → k.level.code ≤ (rateTrack zones v x).computed.code)) ∧
    ((rateTrack zones v x).computed ≠ .none →
      ∃ (b : Fin 8) (k : Zone), (rateTrack zones v x).best = some b ∧ findZone zones b.val = some k ∧
        zoneActive v k = true ∧ zoneContains k x.x x.y = true ∧
        (rateTrack zones v x).computed = (if closingRaises k.closing x.y x.vy then .danger else k.level) ∧
        ∀ (c : Fin 8) (l : Zone), c < b → findZone zones c.val = some l → zoneActive v l = true →
          zoneContains l x.x x.y = true →
          (if closingRaises l.closing x.y x.vy then Level.danger else l.level).code <
            (rateTrack zones v x).computed.code) ∧
    ((rateTrack zones v x).computed = .none → (rateTrack zones v x).best = x.best) ∧
    rateTrack zones v x =
      { x with
        computed := (rateTrack zones v x).computed
        best := (rateTrack zones v x).best
        stored := (rateTrack zones v x).stored
        fall := (rateTrack zones v x).fall } ∧
    ∀ (n : Nat) (g : Sighting), (newTrack n g).state = .tentative ∧ (newTrack n g).best = none

/-- R122: at the end of an update each stored level has moved by the table of R122, and it is at least
the computed level. `y` is the track of the same slot as the bounds stage leaves it. -/
def Obligations.StoredLevelIsAtLeastTheComputedLevel : Prop :=
  ∀ (u : Update) (s : State), s.tracker.update = some u →
    ∃ t, exec .trackerUpdateCompletion s = .next t ∧
      t.tracker.tracks.length = (settleSlots (associateUpdate s.loaded.gate s.tracker u).slots).length ∧
      ∀ (i : Nat) (x : Track), t.tracker.tracks[i]? = some (some x) →
        x.computed.code ≤ x.stored.code ∧
        ∃ y : Track, (settleSlots (associateUpdate s.loaded.gate s.tracker u).slots)[i]? = some (some y) ∧
          (y.stored.code < x.computed.code → x.stored = x.computed ∧ x.fall = 0) ∧
          (x.computed = y.stored → x.stored = y.stored ∧ x.fall = 0) ∧
          (x.computed.code < y.stored.code → y.fall = 0 ∨ y.fall = 1 → x.stored = y.stored ∧ x.fall = y.fall + 1) ∧
          (x.computed.code < y.stored.code → y.fall = 2 → x.stored = x.computed ∧ x.fall = 0) ∧
          (y.state = .tentative → y.stored = .none → x.stored = .none ∧ x.fall = 0)

/-- R105, R120, R123, R124, R128, R96, R170: what the end of an update publishes, and what a change of S
brings with it. The arbiter and the linger are those of `AlertClaimFollowsTheWantedClaim`. That a change of S
owes each CAN port a broadcast and sends none itself, also where 20 ms have passed, is the model's choice (log
27), and so is that the zones are judged by the vehicle state as it read when the update began (log 20). A zone
condition on an UNKNOWN field is satisfied, and the highest track is the one of highest stored level in the
lowest slot. -/
def Obligations.UpdateCompletionPublishes : Prop :=
  (∀ (u : Update) (s : State), s.tracker.update = some u →
    ∃ t, exec .trackerUpdateCompletion s = .next t ∧
      (let a := associateUpdate s.loaded.gate s.tracker u
       t.tracker =
          { s.tracker with
            tracks := rateTracks s.loaded.zones u.vehicle (settleSlots a.slots)
            publishedMs := s.ms
            lastNumber := a.lastNumber
            update := none
            overflow := satAdd s.tracker.overflow a.overflow } ∧
        NoticesRaised
          ((if 0 < a.overflow then [.trackOverflow] else []) ++
            (if s.alert.level.code < t.alert.level.code then [.alertRise] else []) ++
            (if t.alert.level.code < s.alert.level.code then [.alertFall] else [])) s t) ∧
      (∀ x ∈ heldTracks t.tracker.tracks, x.stored.code ≤ t.alert.level.code) ∧
      (t.alert.level = .none ∨ ∃ x ∈ heldTracks t.tracker.tracks, x.stored = t.alert.level) ∧
      (∀ z : Fin 8, t.alert.activity.getLsbD z.val =
        s.loaded.zones.any fun k => decide (k.index = z) && zoneActive u.vehicle k) ∧
      t.alert.occupancy.length = 8 ∧
      (∀ z : Fin 8,
        (∀ x ∈ heldTracks t.tracker.tracks,
          (contributionAt s.loaded.zones u.vehicle x z.val).code ≤ (t.alert.occupancy.getD z.val .none).code) ∧
        (t.alert.occupancy.getD z.val .none = .none ∨ ∃ x ∈ heldTracks t.tracker.tracks,
          contributionAt s.loaded.zones u.vehicle x z.val = t.alert.occupancy.getD z.val .none)) ∧
      (∀ (z : Fin 8) (m : Master), (t.alert.latched.get m).getLsbD z.val =
        ((s.alert.latched.get m).getLsbD z.val || decide (t.alert.occupancy.getD z.val .none ≠ .none))) ∧
      t.alert.silence = (s.alert.silence && decide (s.alert.warningLevel.code ≤ t.alert.level.code)) ∧
      t.alert =
        { s.alert with
          level := t.alert.level
          activity := t.alert.activity
          occupancy := t.alert.occupancy
          latched := t.alert.latched
          linger := t.alert.linger
          silence := t.alert.silence } ∧
      (if t.alert.level = s.alert.level then t.incident = s.incident
       else t.incident =
        (offerRecord
          (match highestTrack t.tracker.tracks with
           | some x => .alert t.alert.level s.alert.level x.best x.mask
           | none => .alert t.alert.level s.alert.level none ⟨false, false⟩)
          { t with incident := s.incident }).incident) ∧
      ArmsFollow (fun x => readsLevel x || readsWarning x) s t ∧
      t.ports =
        { s.ports with
          sending := t.ports.sending
          waiting := t.ports.waiting
          pendingSets := t.ports.pendingSets
          can :=
            if t.alert.level = s.alert.level then s.ports.can
            else ⟨{ s.ports.can.body with owed := true }, { s.ports.can.chassis with owed := true }⟩ } ∧
      KeepsBut [.tracker, .alert, .arbiter, .compositor, .incident, .ports] s t) ∧
  (∀ (v : VehicleReading) (z : Zone),
    zoneActive v z = true ↔
      z.enabled = true ∧
        match z.condition with
        | .always => True
        | .speedAtMost limit => ∀ x, v.speed = some x → x ≤ limit
        | .moving => ∀ x, v.speed = some x → 0 < x
        | .indicatorOn => ∀ x, v.indicator = some x → x = .on
        | .reverse => ∀ x, v.gear = some x → x = .reverse
        | .liftActive => ∀ x, v.lift = some x → x = .cycling) ∧
  ∀ l : List (Option Track),
    ((∀ (j : Nat) (y : Track), l[j]? ≠ some (some y)) → highestTrack l = none) ∧
      ∀ (i : Nat) (x : Track), l[i]? = some (some x) →
        (∀ (j : Nat) (y : Track), l[j]? = some (some y) →
          y.stored.code ≤ x.stored.code ∧ (j < i → y.stored.code < x.stored.code)) →
        highestTrack l = some x

/-- R126, R127: in RUNNING the end of an update compares the wanted claim with the alert claim held, and
outside RUNNING the claims and the linger stand. The linger's expiry removes the alert claim, which is a claim
table change while RUNNING, and it counts and raises nothing (R127, R138). An expiry that is not due changes
nothing (log 3). -/
def Obligations.AlertClaimFollowsTheWantedClaim : Prop :=
  (∀ (u : Update) (s : State), s.tracker.update = some u →
     ∃ t, exec .trackerUpdateCompletion s = .next t ∧
       (let wanted : Option Wanted :=
           match claimLevel t.alert.level, (highestTrack t.tracker.tracks).bind fun x => zoneView s.loaded.zones x.best with
           | some n, some view => some ⟨view, n⟩
           | _, _ => none
        (s.mode ≠ .running → t.arbiter = s.arbiter ∧ t.alert.linger = s.alert.linger) ∧
        (s.mode = .running → s.arbiter.claims.c3 = none → wanted = none →
          t.arbiter = s.arbiter ∧ t.alert.linger = s.alert.linger) ∧
        (s.mode = .running → s.arbiter.claims.c3 = none → ∀ w, wanted = some w →
          t.arbiter = decideArbiter { s.arbiter with claims := s.arbiter.claims.set 3 (some ⟨w.layout, w.level, none, false⟩) } ∧
            t.alert.linger = s.alert.linger) ∧
        (∀ k, s.mode = .running → s.arbiter.claims.c3 = some k → ∀ w, wanted = some w →
          t.alert.linger = none ∧
          (k.layout = w.layout ∧ k.level = w.level → t.arbiter = s.arbiter) ∧
          (k.layout ≠ w.layout ∨ k.level ≠ w.level →
            t.arbiter = decideArbiter
              { s.arbiter with
                claims := s.arbiter.claims.set 3
                  (some ⟨w.layout, w.level, none, k.granted && decide (k.layout = w.layout)⟩) })) ∧
        (∀ k, s.mode = .running → s.arbiter.claims.c3 = some k → wanted = none →
          t.arbiter = s.arbiter ∧
            t.alert.linger = if s.alert.linger = none then some s.ms else s.alert.linger))) ∧
  ∀ (since : Word) (s : State), s.alert.linger = some since →
    (2000 ≤ (s.ms - since).toNat →
      exec .lingerTimerExpiry s =
        .next { s with
          alert := { s.alert with linger := none }
          arbiter :=
            if s.mode = .running then decideArbiter { s.arbiter with claims := s.arbiter.claims.set 3 none }
            else { s.arbiter with claims := s.arbiter.claims.set 3 none } }) ∧
    ((s.ms - since).toNat < 2000 → exec .lingerTimerExpiry s = .next s)

/-! ## Compositor and remap unit (chapters 4 and 5) -/

/-- R78, R156, R157, R70, R76: an output frame start in STARTING sends the starting picture, draws from no
camera and adopts nothing. In RUNNING a target that the arbiter holds ends the starting picture, and in SERVICE
the plain quad does. That every camera is then out of use is the model's choice (log 35). -/
def Obligations.StartingPictureIsSent : Prop :=
  ∀ (written : Option TileSide) (s : State), s.compositor.mode = .startingPicture →
    ∃ t, exec (.outputFrameStart written) s = .next t ∧
      t.frame = s.frame + 1#32 ∧
      (∀ x y : Nat, x < 1280 → sparseRead blackPixel t.compositor.sent (y * 1280 + x) =
        if 576 ≤ x ∧ x ≤ 703 ∧ 368 ≤ y ∧ y ≤ 399 then ⟨235#8, 128#8, 128#8⟩ else ⟨16#8, 128#8, 128#8⟩) ∧
      (s.mode = .starting → s.arbiter.state = .settled →
        t.compositor =
          { s.compositor with
            store := t.compositor.sent
            sent := t.compositor.sent
            line1 := lineOne { s with frame := s.frame + 1#32 }
            line2 := lineTwo s.incident.marks } ∧
        t.remap = { s.remap with faulted := [], inUse := none } ∧
        t.incident = { s.incident with marks := t.incident.marks } ∧
        t.incident.marks =
          mapFirst (fun m => !m.embedded) (fun m => { m with embedded := true }) s.incident.marks ∧
        (∀ c, t.intake.get c = { s.intake.get c with inUse := false }) ∧
        BytesKept s t ∧ PicturesKept s t ∧
        KeepsBut [.frame, .intake, .compositor, .remap, .incident, .draws] s t) ∧
      (∀ x, s.mode = .running ∧ s.arbiter.state = .targetHeld ∨ s.mode = .service ∧ s.arbiter.state = .service →
        s.arbiter.target = some x →
        t.compositor.mode = .layout ∧ t.compositor.inEffect = some x.layout ∧ t.arbiter.shown = some x.layout)

/-- R77, R30, R68, R70, R80, R81, R95, R143, R144, R145, R146, R151, R156, R157: an output frame start in LAYOUT
mode. `reported` is the arbiter after step 1, `ended` after a dwell that ends, `a` as step 3 finds it and `b` as
step 3 leaves it; `r` is the remap unit before the lookup of pair 0, and `i` the incident unit before line 2 is
written. The model's own: the ages of slots (log 16), that the command says which tile was written early (log
21), and that an adoption owes each CAN port a broadcast and sends none itself (log 27). What the spec leaves
open holds in either order: the decision at a dwell's end (log 11), the countdown (log 12) and line 1 (log 13);
that line 2 comes after the VIEW record is the model's choice (log 39). -/
def Obligations.LayoutFrameStartActsInOrder : Prop :=
  ∀ (written : Option TileSide) (ref : LayoutRef) (s : State), s.compositor.mode = .layout →
    s.compositor.inEffect = some ref → memoryCanonical s = true →
    ∃ t, exec (.outputFrameStart written) s = .next t ∧
      ∃ (a b : Arbiter) (r : Remap) (i : Incident) (snap : Snapshot),
      let settles : Arbiter := { s.arbiter with state := .settled, dwell := 0 }
      let ended : Arbiter := if s.mode = .running then decideArbiter settles else settles
      let reported : Arbiter :=
        if s.compositor.reportPending = true ∧ s.arbiter.state = .firstFrame then
          if s.loaded.ports.dwell = 0 then ended
          else { s.arbiter with state := .dwell, dwell := s.loaded.ports.dwell }
        else s.arbiter
      let target : Option SwitchTarget :=
        if s.mode ≠ .starting ∧ (a.state = .targetHeld ∨ a.state = .service) then a.target else none
      let begun : State := { s with frame := s.frame + 1#32 }
      let viewed (x : State) : State :=
        if s.compositor.reportPending then offerRecord (.view (some ref) (winningSource s.arbiter)) x else x
      -- the arbiter
      (b = match target with
        | none => a
        | some x =>
          { a with
            claims := a.claims.mapIdx fun i c => c.map fun k => { k with granted := decide (x.source.slot = some i) }
            state := if a.state = .service then .service else .firstFrame
            shown := some x.layout
            target := none }) ∧
      (s.arbiter.state ≠ .dwell → a = reported ∧ t.arbiter = b) ∧
      (s.arbiter.state = .dwell → 2 ≤ s.arbiter.dwell →
        a.state = .dwell ∧ a.claims = s.arbiter.claims ∧ t.arbiter = { s.arbiter with dwell := s.arbiter.dwell - 1 }) ∧
      (s.arbiter.state = .dwell → s.arbiter.dwell ≤ 1 →
        a = ended ∧ t.arbiter = b ∨ a = s.arbiter ∧ t.arbiter = ended) ∧
      -- the layout in effect, the held tiles and the pictures
      t.frame = s.frame + 1#32 ∧
      (t.compositor.inEffect = match target with
        | none => some ref
        | some x => some x.layout) ∧
      (t.compositor.adoptedAt = if target = none then s.compositor.adoptedAt else t.frame) ∧
      t.compositor.reportPending = target.isSome ∧
      t.compositor.mode = .layout ∧ t.compositor.switches = s.compositor.switches ∧
      t.compositor.held =
        satAdd s.compositor.held (heldTiles (resolveLayout s.loaded ref) s.compositor.work written).length ∧
      (s.compositor.work = .done ∨ written = none ∧ s.compositor.adoptedAt ≠ s.frame →
        t.compositor.sent = s.compositor.store) ∧
      (s.compositor.adoptedAt = s.frame →
        ∀ p ∈ heldTiles (resolveLayout s.loaded ref) s.compositor.work written, ∀ i j,
          i < p.1.pane.cls.tile → j < p.1.pane.cls.tile →
          sparseRead blackPixel t.compositor.sent (tileAddress p.1 p.2 i j) = colourOf s.loaded.palette 0) ∧
      (∀ x, (∀ p ∈ heldTiles (resolveLayout s.loaded ref) s.compositor.work none, ∀ i j,
          i < p.1.pane.cls.tile → j < p.1.pane.cls.tile → x ≠ tileAddress p.1 p.2 i j) →
        sparseRead blackPixel t.compositor.sent x = sparseRead blackPixel s.compositor.store x) ∧
      (target = none → t.compositor.store = t.compositor.sent) ∧
      (∀ g, target = some g → ∀ x y : Nat, x < 1280 → y < 768 →
        sparseRead blackPixel t.compositor.store (y * 1280 + x) =
          if ∃ p ∈ (resolveLayout s.loaded g.layout).panes,
              p.left ≤ x ∧ x < p.left + p.width ∧ p.top ≤ y ∧ y < p.top + p.height then
            sparseRead blackPixel t.compositor.sent (y * 1280 + x)
          else colourOf s.loaded.palette 0) ∧
      -- the remap unit
      r = { s.remap with faulted := [], inUse := none, entries := r.entries, pinned := r.pinned, pointer := r.pointer } ∧
      (target = none → r.entries = s.remap.entries ∧ r.pinned = s.remap.pinned ∧ r.pointer = s.remap.pointer) ∧
      (∀ g, target = some g →
        let l := resolveLayout s.loaded g.layout
        r.pinned = (if l.critical then min l.pairs 32 else 0) ∧
          r.pointer = (if r.pinned = s.remap.pinned then s.remap.pointer else 39) ∧
          r.entries.length = s.remap.entries.length ∧
          ∀ n, r.entry n =
            if n < r.pinned ∧ (s.remap.entry n).key ≠ (locatePair l n).map (placeKey l) then .empty
            else s.remap.entry n) ∧
      (∀ e, t.compositor.inEffect = some e →
        match locatePair (resolveLayout s.loaded e) 0 with
        | none => t.remap = r ∧ t.compositor.work = .done
        | some w =>
          t.remap = (lookupPair (resolveLayout s.loaded e) 0 w { s with remap := r }).remap ∧
            t.compositor.work = (lookupPair (resolveLayout s.loaded e) 0 w { s with remap := r }).compositor.work) ∧
      -- the cameras
      (∀ e, t.compositor.inEffect = some e → ∀ c : Camera,
        ((resolveLayout s.loaded e).cameras.getLsbD c.val = false →
          t.intake.get c = { s.intake.get c with inUse := false }) ∧
        ((resolveLayout s.loaded e).cameras.getLsbD c.val = true →
          (∀ i, ((s.intake.get c).slots.get i).state ≠ .ready) →
          t.intake.get c = { s.intake.get c with inUse := true }) ∧
        ((resolveLayout s.loaded e).cameras.getLsbD c.val = true →
          (∃ i, ((s.intake.get c).slots.get i).state = .ready) →
          ∃ i, ((s.intake.get c).slots.get i).state = .ready ∧
            (∀ j, ((s.intake.get c).slots.get j).state = .ready →
              slotAge s.ms ((s.intake.get c).slots.get i) ≤ slotAge s.ms ((s.intake.get c).slots.get j)) ∧
            (t.intake.get c).slots.get i = { (s.intake.get c).slots.get i with state := .reading } ∧
            (∀ j, j ≠ i →
              (t.intake.get c).slots.get j =
                { (s.intake.get c).slots.get j with
                  state :=
                    if ((s.intake.get c).slots.get j).state = .filling then .filling else .free }) ∧
            t.intake.get c =
              { s.intake.get c with
                slots := (t.intake.get c).slots
                inUse := true
                dropped :=
                  if (s.intake.get c).inUse then
                    satAdd (s.intake.get c).dropped (slotCount .ready (s.intake.get c) - 1)
                  else (s.intake.get c).dropped })) ∧
      -- the generators and the snapshot
      (∀ g, t.compositor.generators.get g =
        (let x := s.compositor.generators.get g
         if x.count ≤ 1 then
           match x.phase with
           | .off => { x with phase := .on, count := x.nextOn, effective := x.pending }
           | .on => { x with phase := .off, count := x.nextOff }
         else { x with count := x.count - 1 })) ∧
      t.compositor.snapshot = some snap ∧ snap.tracks = s.tracker.tracks ∧ snap.level = s.alert.level ∧
      snap.occupancy = s.alert.occupancy ∧ snap.switches = s.compositor.switches ∧ snap.winner = winningSource b ∧
      (∀ c, snap.links.get c = (s.intake.get c).link ∧ snap.lost.get c = (s.intake.get c).lost ∧
        snap.conditions.get c = (s.exposure.get c).condition) ∧
      (∀ g, snap.gates.get g =
        (!(t.compositor.generators.get g).effective || decide ((t.compositor.generators.get g).phase = .on))) ∧
      -- the incident unit and the lines
      (i = (viewed (countTriggers s.incident.triggers begun)).incident ∨
        i = (countTriggers s.incident.triggers { viewed begun with arbiter := t.arbiter }).incident) ∧
      t.incident = { i with marks := mapFirst (fun m => !m.embedded) (fun m => { m with embedded := true }) i.marks } ∧
      t.compositor.line2 = lineTwo i.marks ∧ (t.compositor.line1 = lineOne begun ∨ t.compositor.line1 = lineOne t) ∧
      -- the ports
      NoticesRaised (if s.compositor.reportPending then [.viewChanged] else []) s t ∧
      t.ports =
        { s.ports with
          sending := t.ports.sending, waiting := t.ports.waiting, pendingSets := t.ports.pendingSets, can := t.ports.can } ∧
      (∀ p, t.ports.can.get p =
        { s.ports.can.get p with
          owed := (s.ports.can.get p).owed || match target with
            | none => false
            | some x => decide (s.arbiter.shown ≠ some x.layout) }) ∧
      BytesKept s t ∧ PicturesKept s t ∧
      KeepsBut [.frame, .intake, .arbiter, .remap, .compositor, .incident, .ports, .draws] s t

/-- R79, R81, R144: the pair in progress is written into the output store, each pixel as `tilePixel` makes it, and
rendering goes to the lookup of the next pair (`LookupsFindTheirRecords`) or the frame is complete. -/
def Obligations.PairRenderedWritesItsTiles : Prop :=
  ∀ (n : Nat) (even odd : MapRecord) (ref : LayoutRef) (snap : Snapshot) (w : PairPlace) (s : State),
    s.compositor.work = .drawing n even odd → s.compositor.inEffect = some ref →
    s.compositor.snapshot = some snap → locatePair (resolveLayout s.loaded ref) n = some w →
    w.pane.left + w.pane.width ≤ 1280 → memoryCanonical s = true →
    ∃ t, exec .pairRendered s = .next t ∧
      (∀ i j, i < w.pane.cls.tile → j < w.pane.cls.tile →
        sparseRead blackPixel t.compositor.store (tileAddress w .even i j) = tilePixel s snap ref w .even even i j ∧
          sparseRead blackPixel t.compositor.store (tileAddress w .odd i j) = tilePixel s snap ref w .odd odd i j) ∧
      (∀ a, (∀ i j, i < w.pane.cls.tile → j < w.pane.cls.tile →
          a ≠ tileAddress w .even i j ∧ a ≠ tileAddress w .odd i j) →
        sparseRead blackPixel t.compositor.store a = sparseRead blackPixel s.compositor.store a) ∧
      (n + 1 < (resolveLayout s.loaded ref).pairs →
        t.compositor.reportPending = s.compositor.reportPending ∧ KeepsBut [.compositor, .remap] s t ∧
          ∃ v, locatePair (resolveLayout s.loaded ref) (n + 1) = some v ∧
            t.compositor.work = (lookupPair (resolveLayout s.loaded ref) (n + 1) v s).compositor.work ∧
            t.remap = (lookupPair (resolveLayout s.loaded ref) (n + 1) v s).remap) ∧
      ((resolveLayout s.loaded ref).pairs ≤ n + 1 →
        t.compositor.work = .done ∧ t.compositor.reportPending = false ∧ t.remap = s.remap ∧
          (s.compositor.reportPending = false → KeepsBut [.compositor] s t) ∧
          (s.compositor.reportPending = true →
            NoticesRaised [.viewChanged] s t ∧
              t.incident = (offerRecord (.view (some ref) (winningSource s.arbiter)) s).incident ∧
              (s.arbiter.state ≠ .firstFrame → t.arbiter = s.arbiter) ∧
              (s.arbiter.state = .firstFrame → s.loaded.ports.dwell ≠ 0 →
                t.arbiter = { s.arbiter with state := .dwell, dwell := s.loaded.ports.dwell }) ∧
              (s.arbiter.state = .firstFrame → s.loaded.ports.dwell = 0 →
                t.arbiter =
                  (let u : Arbiter := { s.arbiter with state := .settled, dwell := 0 }
                   if s.mode = .running then decideArbiter u else u)))) ∧
      t.compositor =
        { s.compositor with
          store := t.compositor.store
          work := t.compositor.work
          reportPending := t.compositor.reportPending } ∧
      NoticesOnly s t ∧ BytesKept s t ∧ PicturesKept s t ∧
      KeepsBut [.arbiter, .remap, .compositor, .incident, .ports] s t

/-- R62, R63, R64, R65, R67, R69: where the lookup of a pair finds its records, when it waits, what the lookahead
for the next pair does, and into which entry and slot a refill is issued. That a refill takes slot 0 when both
are free is the model's choice (log 37). -/
def Obligations.LookupsFindTheirRecords : Prop :=
  ∀ (l : Layout) (n : Nat) (s : State),
    let r := s.remap
    let busy : Prop := r.slot0 ≠ none ∧ r.slot1 ≠ none
    let working (w : Work) (q : Remap) : State :=
      { s with remap := q, compositor := { s.compositor with work := w } }
    let begins (even odd : MapRecord) (use : Option Nat) (q : Remap) : State :=
      sendLookahead l (n + 1) (working (.drawing n even odd) { q with inUse := use })
    (∀ w : PairPlace,
      let key : Key := ⟨l.number, w.paneIndex, w.pair⟩
      let alone (i : Nat) : Prop := ∀ j, (r.entry j).key = some key → j = i
      (l.builtIn = true → lookupPair l n w s = begins (madeTile w .even) (madeTile w .odd) none r) ∧
      (l.builtIn = false →
        (∀ i cls even odd, r.entry i = .valid key cls even odd → alone i →
          lookupPair l n w s = begins even odd (some i) r) ∧
        (∀ i cls, r.entry i = .filling key cls → alone i → lookupPair l n w s = working (.waitFill n) r) ∧
        ((∀ j, (r.entry j).key ≠ some key) →
          (∀ before f after, r.faulted = before ++ f :: after → f.key = key → (∀ g ∈ before, g.key ≠ key) →
            lookupPair l n w s = begins f.even f.odd none { r with faulted := before ++ after }) ∧
          ((∀ g ∈ r.faulted, g.key ≠ key) →
            (busy → lookupPair l n w s = working (.waitSlot n) r) ∧
            (¬ busy → lookupPair l n w s = working (.waitFill n) (r.issue n key w.pane.cls)))))) ∧
    (l.builtIn = true ∨ locatePair l n = none → sendLookahead l n s = s) ∧
    (∀ w, l.builtIn = false → locatePair l n = some w →
      let key : Key := ⟨l.number, w.paneIndex, w.pair⟩
      ((∃ j, (r.entry j).key = some key) ∨ (∃ g ∈ r.faulted, g.key = key) ∨ busy → sendLookahead l n s = s) ∧
      ((∀ j, (r.entry j).key ≠ some key) → (∀ g ∈ r.faulted, g.key ≠ key) → ¬ busy →
        sendLookahead l n s = { s with remap := r.issue n key w.pane.cls })) ∧
    ∀ (key : Key) (cls : SizeClass), ∃ e : Nat,
      r.issue n key cls =
        { r with
          entries := r.entries.set e (.filling key cls)
          slot0 := if r.slot0 = none then some ⟨e, key⟩ else r.slot0
          slot1 := if r.slot0 = none then r.slot1 else some ⟨e, key⟩
          refills := satAdd r.refills 1
          pointer := (r.issue n key cls).pointer } ∧
      (n < r.pinned → e = n ∧ (r.issue n key cls).pointer = r.pointer) ∧
      (let passed (p : Nat) : Prop := r.inUse = some p ∨ ∃ k c, r.entry p = .filling k c
       let down (p : Nat) : Nat := if p ≤ r.pinned then 39 else p - 1
       r.pinned ≤ n → r.pinned ≤ r.pointer → r.pointer ≤ 39 → (∃ p, r.pinned ≤ p ∧ p ≤ 39 ∧ ¬ passed p) →
        (r.issue n key cls).pointer = down e ∧ ¬ passed e ∧
          ∃ j, e = Nat.repeat down j r.pointer ∧ ∀ i, i < j → passed (Nat.repeat down i r.pointer))

/-- R66, R67, R71, R62, R64: a refill completes into its entry, into the faulted pair store, or as an orphan. A
lookup that waits on it begins rendering, and one that waits for a free slot is made again. A pair outside the
map area is a fault (the model's choice, log 25). -/
def Obligations.RefillCompletes : Prop :=
  ∀ (slot : Fin 2) (f : Refill) (even odd : MapRecord) (s : State), s.remap.slot slot = some f →
    let again (u : State) : State :=
      match s.compositor.work with
      | .waitSlot n =>
        match s.compositor.inEffect.bind fun ref => (locatePair (resolveLayout s.loaded ref) n).map fun w => (ref, w) with
        | some (ref, w) => lookupPair (resolveLayout s.loaded ref) n w u
        | none => { u with compositor := { u.compositor with work := .done } }
      | _ => u
    let waits (l : Layout) (n : Nat) : Prop :=
      s.compositor.work = .waitFill n ∧ l.builtIn = false ∧
        (∃ ref, s.compositor.inEffect = some ref ∧ l = resolveLayout s.loaded ref) ∧
        ∃ w, locatePair l n = some w ∧ placeKey l w = f.key
    let stored : List FaultedPair :=
      (if s.remap.faulted.length < 2 then s.remap.faulted else s.remap.faulted.drop 1) ++ [⟨f.key, even, odd⟩]
    let faulted (pairs : List FaultedPair) : Remap :=
      { s.remap.freeSlotOf slot with
        entries := s.remap.entries.set f.entry .empty
        faulted := pairs
        mapFaults := satAdd s.remap.mapFaults 1
        fault :=
          if s.remap.fault.held then s.remap.fault
          else
            ⟨true, f.key,
              if recordInvalid even = true ∧ recordInvalid odd = true then .both
              else if recordInvalid even = true then .even else .odd⟩ }
    ((∀ cls, s.remap.entry f.entry ≠ .filling f.key cls) →
      exec (.refillCompletion slot) s = .next (again { s with remap := s.remap.freeSlotOf slot })) ∧
    (∀ cls, s.remap.entry f.entry = .filling f.key cls → fetchPair s.loaded f.key = none →
      exec (.refillCompletion slot) s = .fault (.outsideMapArea f.key)) ∧
    (∀ cls, s.remap.entry f.entry = .filling f.key cls → fetchPair s.loaded f.key = some (even, odd) →
      let filled : Remap :=
        { s.remap.freeSlotOf slot with entries := s.remap.entries.set f.entry (.valid f.key cls even odd) }
      (recordInvalid even = false → recordInvalid odd = false →
        ((∀ l n, ¬ waits l n) → exec (.refillCompletion slot) s = .next (again { s with remap := filled })) ∧
        ∀ l n, waits l n →
          exec (.refillCompletion slot) s =
            .next (sendLookahead l (n + 1)
              { s with
                remap := { filled with inUse := some f.entry }
                compositor := { s.compositor with work := .drawing n even odd } })) ∧
      (recordInvalid even = true ∨ recordInvalid odd = true →
        ((∀ l n, ¬ waits l n) →
          ∃ u, exec (.refillCompletion slot) s = .next (again u) ∧ u.remap = faulted stored ∧
            NoticesOnly s u ∧ NoticesRaised (if s.remap.fault.held then [] else [.mapFault]) s u ∧
            KeepsBut [.remap, .ports] s u) ∧
        ∀ l n, waits l n →
          ∃ u, exec (.refillCompletion slot) s = .next (sendLookahead l (n + 1) u) ∧
            u.remap = { faulted (stored.eraseP fun g => decide (g.key = f.key)) with inUse := none } ∧
            u.compositor = { s.compositor with work := .drawing n even odd } ∧
            NoticesOnly s u ∧ NoticesRaised (if s.remap.fault.held then [] else [.mapFault]) s u ∧
            KeepsBut [.remap, .compositor, .ports] s u))

/-! ## Arbiter (chapter 8) -/

/-- R139: the winner of a decision. -/
def Obligations.WinnerIsTheHighestClaim : Prop :=
  ∀ a : Arbiter,
    (a.claims = Quad.all none → winner a = ⟨a.home, .home, none⟩) ∧
    (∀ i k, a.claims.get i = some k →
      ∃ j w src, a.claims.get j = some w ∧ src.slot = some j ∧ winner a = ⟨w.layout, src, some w.level⟩ ∧
        (∀ x c, a.claims.get x = some c → c.level ≤ w.level) ∧
        (w.granted = false → ∀ x c, a.claims.get x = some c → c.level = w.level → c.granted = false ∧ j ≤ x))

/-- R142, R140: a decision by the arbiter's state. -/
def Obligations.DecisionFollowsTheTable : Prop :=
  ∀ a : Arbiter,
    let w := winner a
    let same := a.shown = some (.stored w.layout)
    let granted : Quad (Option Claim) :=
      if w.source = .home then a.claims
      else a.claims.mapIdx fun i c => c.map fun k => { k with granted := decide (w.source.slot = some i) }
    let held : Arbiter := { a with state := .targetHeld, target := some ⟨.stored w.layout, w.source⟩, dwell := 0 }
    (a.state = .settled ∧ same → decideArbiter a = { a with claims := granted }) ∧
    (a.state = .targetHeld ∧ same →
      decideArbiter a = { a with state := .settled, target := none, claims := granted }) ∧
    ((a.state = .settled ∨ a.state = .targetHeld) ∧ ¬ same → decideArbiter a = held) ∧
    ((a.state = .firstFrame ∨ a.state = .dwell) ∧ same → decideArbiter a = a) ∧
    ((a.state = .firstFrame ∨ a.state = .dwell) ∧ ¬ same →
      ((∃ n, w.level = some n ∧ 6 ≤ n) → decideArbiter a = held) ∧
      ((∀ n, w.level = some n → n < 6) → decideArbiter a = a)) ∧
    (a.state = .service → decideArbiter a = a)

/-- R136, R138: a claim that has reached its expiry millisecond leaves its slot. A claim without one, or
one not yet reached, stays (log 3). -/
def Obligations.ClaimExpiryRemovesTheClaim : Prop :=
  ∀ (m : Master) (s : State),
    (∀ k e, s.arbiter.claims.get (masterSlot m) = some k → k.expiry = some e →
      (s.ms - e).toNat < 2147483648 →
      ∃ t, exec (.claimExpiry m) s = .next t ∧
        (let a : Arbiter :=
          { s.arbiter with
            claims := s.arbiter.claims.set (masterSlot m) none
            lapses := s.arbiter.lapses.set m (satAdd (s.arbiter.lapses.get m) 1) }
         t.arbiter = if s.mode = .running then decideArbiter a else a) ∧
        NoticesOnly s t ∧ NoticesRaised [.claimLapsed] s t ∧ KeepsBut [.arbiter, .ports] s t) ∧
    (∀ k e, s.arbiter.claims.get (masterSlot m) = some k → k.expiry = some e →
      2147483648 ≤ (s.ms - e).toNat → exec (.claimExpiry m) s = .next s) ∧
    (∀ k, s.arbiter.claims.get (masterSlot m) = some k → k.expiry = none → exec (.claimExpiry m) s = .next s) ∧
    (s.arbiter.claims.get (masterSlot m) = none → exec (.claimExpiry m) s = .next s)

/-! ## Port controller: requests (chapter 10) -/

/-- R161, R162, R163: what the arrival of a request does, and the general checks in their order. A CAN
frame's request is its bytes, a whole cab frame's the bytes between its length byte and its CRC, whose last
bytes one command may bring together (the model's choice, log 5). That UNKNOWN_KIND with a kind that is a
request, or from the cab unit with a data kind, changes nothing is the model's choice (log 2). -/
def Obligations.RequestsAreQueuedAndJudgedInOrder : Prop :=
  (∀ (p : Port) (kind tag : Byte) (payload : List Byte) (s : State),
    exec (.requestArrival (.canFrame p (kind :: tag :: payload))) s =
      .next (present (portMaster p) ⟨kind, tag, payload⟩ s)) ∧
  (∀ (p : Port) (l : List Byte) (s : State), l.length < 2 → exec (.requestArrival (.canFrame p l)) s = .next s) ∧
  (∀ (kind tag : Byte) (payload received rest : List Byte) (last : Word) (s : State),
    payload.length ≤ 200 → isDataKind kind = false → s.ports.framer = .frame received last → rest ≠ [] →
    let l := BitVec.ofNat 8 payload.length :: kind :: tag :: payload
    received ++ rest = l ++ [BitVec.ofNat 8 ((crc16 l).toNat / 256), BitVec.ofNat 8 (crc16 l).toNat] →
    exec (.requestArrival (.cabBytes rest)) s =
      .next (present .cab ⟨kind, tag, payload⟩ { s with ports := { s.ports with framer := .hunt } })) ∧
  (∀ (m : Master) (kind tag : Byte) (payload : List Byte) (s : State),
    (isRequest kind = false → m ≠ .cab ∨ isDataKind kind = false →
      exec (.unknownKind m kind tag payload) s = .next (present m ⟨kind, tag, payload⟩ s)) ∧
    (isRequest kind = true ∨ m = .cab ∧ isDataKind kind = true →
      exec (.unknownKind m kind tag payload) s = .next s)) ∧
  ∀ (m : Master) (r : Request) (s : State),
    (canReceive m s = false → present m r s = s) ∧
    (canReceive m s = true → 4 ≤ (s.ports.queues.get m).length →
      AnswersWith m r .busy [] .busy s (present m r s)) ∧
    (canReceive m s = true → (s.ports.queues.get m).length < 4 → answering m s = true →
      present m r s =
        { s with ports := { s.ports with queues := s.ports.queues.set m (s.ports.queues.get m ++ [r]) } }) ∧
    (takenAtOnce m s →
      (isRequest r.kind = false → AnswersWith m r .unknownKind [] .answer s (present m r s)) ∧
      (isRequest r.kind = true → m ≠ .cab → 6 ≤ r.kind.toNat →
        AnswersWith m r .notPermitted [] .answer s (present m r s)) ∧
      (isRequest r.kind = true → m = .cab ∨ r.kind.toNat ≤ 5 → r.kind ≠ 0x04#8 → s.mode = .starting →
        AnswersWith m r .wrongState [] .answer s (present m r s)))

/-- R133, R134, R135, R138: CLAIM_VIEW and DROP_VIEW, taken at once. `held` is the slot before. -/
def Obligations.ClaimRequestsWriteTheClaimTable : Prop :=
  (∀ (m : Master) (tag layout level : Byte) (lifetime : Half) (s : State), takenAtOnce m s → s.mode ≠ .starting →
    let r : Request := ⟨0x01#8, tag, [layout, level] ++ bytes16 lifetime⟩
    ∃ t, exec (.claimView m tag layout level lifetime) s = .next t ∧
      (s.loaded.ports.mayClaim.get m = false → AnswersWith m r .notPermitted [] .answer s t) ∧
      (s.loaded.ports.mayClaim.get m = true → s.mode = .service → AnswersWith m r .wrongState [] .answer s t) ∧
      (s.loaded.ports.mayClaim.get m = true → s.mode = .running →
        11 < layout.toNat ∨ findLayout s.loaded.layouts layout.toNat = none →
        AnswersWith m r .outOfRange [] .answer s t) ∧
      (s.loaded.ports.mayClaim.get m = true → s.mode = .running → layout.toNat ≤ 11 →
        findLayout s.loaded.layouts layout.toNat ≠ none →
        let held := s.arbiter.claims.get (masterSlot m)
        let lasts : Nat :=
          if lifetime.toNat = 0 then (if m = .cab then 0 else 1000)
          else if lifetime.toNat < 100 then 100
          else if lifetime.toNat ≤ 5000 then lifetime.toNat else 5000
        let claim : Claim :=
          ⟨layout.toNat, min level.toNat (s.loaded.ports.maxLevel.get m),
            if lasts = 0 then none else some (s.ms + BitVec.ofNat 32 lasts),
            match held with
            | none => false
            | some k => k.granted && decide (k.layout = layout.toNat)⟩
        let table : Arbiter := { s.arbiter with claims := s.arbiter.claims.set (masterSlot m) (some claim) }
        AnswersWith m r
          (if claim.level < level.toNat ∨ (0 < lifetime.toNat ∧ lifetime.toNat < 100) ∨ 5000 < lifetime.toNat then
             .doneClamped
           else .done)
          ([match held with
            | none => 0#8
            | some k => if k.layout = layout.toNat then 1#8 else 2#8,
            BitVec.ofNat 8 claim.level] ++ bytes16 (BitVec.ofNat 16 lasts)) .answer
          { s with
            arbiter := match held with
              | none => decideArbiter table
              | some k => if k.layout = layout.toNat ∧ k.level = claim.level then table else decideArbiter table } t)) ∧
  (∀ (m : Master) (tag : Byte) (s : State), takenAtOnce m s → s.mode ≠ .starting →
    let r : Request := ⟨0x02#8, tag, []⟩
    ∃ t, exec (.dropView m tag) s = .next t ∧
      (s.loaded.ports.mayClaim.get m = false → AnswersWith m r .notPermitted [] .answer s t) ∧
      (s.loaded.ports.mayClaim.get m = true → s.arbiter.claims.get (masterSlot m) = none →
        AnswersWith m r .done [0#8] .answer s t) ∧
      (s.loaded.ports.mayClaim.get m = true → s.mode = .running → s.arbiter.claims.get (masterSlot m) ≠ none →
        AnswersWith m r .done [1#8] .answer
          { s with
            arbiter := decideArbiter
              { s.arbiter with claims := s.arbiter.claims.set (masterSlot m) none } } t))

/-- R164, R165, R167, R73, R74: the requests that report and change nothing, taken at once. The full status
of the cab unit is given by its offsets. In it the level and granted bytes of an empty claim slot, and the bytes
of an expiry that is reached or more than 65534 ms away, and those of absent statistics, are the model's choice
(log 30). -/
def Obligations.ReadingRequestsChangeNothing : Prop :=
  (∀ (m : Master) (tag : Byte) (s : State), takenAtOnce m s →
    ∃ t, exec (.getStatus m tag) s = .next t ∧
      (m ≠ .cab →
        AnswersWith m ⟨0x04#8, tag, []⟩ .done
          [toByte s.mode.code, toByte s.alert.level.code, toByte (layoutCode s.arbiter.shown),
            toByte (winningSource s.arbiter).code, toByte s.arbiter.dwell] .answer s t) ∧
      (m = .cab →
        ∃ l : List Byte, AnswersWith .cab ⟨0x04#8, tag, []⟩ .done l .answer s t ∧ l.length = 91 ∧
          l.take 12 =
            [toByte s.mode.code, if s.flash.op = .idle then 0#8 else 1#8, toByte s.alert.level.code,
              toByte s.alert.warningLevel.code, if s.alert.silence then 1#8 else 0#8,
              if warningLine s then 1#8 else 0#8, toByte s.arbiter.state.code, toByte (layoutCode s.arbiter.shown),
              toByte (layoutCode (s.arbiter.target.map SwitchTarget.layout)), toByte (winningSource s.arbiter).code,
              toByte s.arbiter.dwell, toByte s.arbiter.home] ∧
          (∀ i : Fin 4, (l.drop (12 + 5 * i.val)).take 5 =
            match s.arbiter.claims.get i with
            | none => [255#8, 0#8, 0#8, 255#8, 255#8]
            | some k =>
              [toByte k.layout, toByte k.level, if k.granted then 1#8 else 0#8] ++
                match k.expiry with
                | none => [255#8, 255#8]
                | some e =>
                  if (s.ms - e).toNat < 2147483648 then [0#8, 0#8]
                  else bytes16 (BitVec.ofNat 16 (min (e - s.ms).toNat 65534))) ∧
          (l.drop 32).take 5 =
            (match s.alert.vehicle.speed.value with
              | none => [255#8, 255#8]
              | some v => bytes16 (BitVec.ofNat 16 v)) ++
              [toByte (gearCode s.alert.vehicle.gear.value), toByte (indicatorCode s.alert.vehicle.indicator.value),
                toByte (liftCode s.alert.vehicle.lift.value)] ∧
          (∀ c : Camera, (l.drop (37 + 10 * c.val)).take 10 =
            [toByte (s.intake.get c).link.code, toByte (s.exposure.get c).condition.code,
              toByte (s.exposure.get c).gain.val,
              match (s.exposure.get c).inFlight with
              | none => 255#8
              | some k => toByte k.index.val,
              BitVec.ofInt 8 (s.exposure.get c).balance] ++
            match (s.exposure.get c).stats with
            | none => [0#8, 0#8, 0#8, 0#8, 0#8]
            | some x => [1#8, toByte x.m, toByte x.s] ++ bytes16 (BitVec.ofNat 16 x.h)) ∧
          (∀ z : Fin 8, l.getD (77 + z.val) 0#8 =
            if ∃ k ∈ s.loaded.zones, k.index = z then toByte (s.alert.occupancy.getD z.val .none).code else 255#8) ∧
          l.drop 85 =
            [s.alert.activity, toByte (heldTracks s.tracker.tracks).length, toByte s.incident.marks.length,
              toByte (s.incident.marks.countP fun x => !x.collected)] ++ bytes16 s.ports.pendingSets.cab)) ∧
  ∀ (tag : Byte) (s : State), takenAtOnce .cab s → s.mode ≠ .starting →
    (∀ first : Byte, ∃ t, exec (.getTracks .cab tag first) s = .next t ∧
      (15 < first.toNat → AnswersWith .cab ⟨0x10#8, tag, [first]⟩ .outOfRange [] .answer s t) ∧
      (first.toNat ≤ 15 →
        let l := tracksFrom s.tracker.tracks first.toNat
        AnswersWith .cab ⟨0x10#8, tag, [first]⟩ .done
          ([toByte (heldTracks s.tracker.tracks).length] ++ bytes32 s.tracker.publishedMs ++
            [toByte (min 10 l.length),
              match l[9]? with
              | none => 255#8
              | some p => if l.length = 10 then 255#8 else toByte (p.1 + 1)] ++
            ((l.take 10).map fun p => trackBytes p.1 p.2).flatten) .answer s t)) ∧
    (∀ (layout pane : Byte) (pair : Half), ∃ t, exec (.probeMap .cab tag layout pane pair) s = .next t ∧
      let r : Request := ⟨0x18#8, tag, [layout, pane] ++ bytes16 pair⟩
      let k : Key := ⟨layout.toNat, pane.toNat, pair.toNat⟩
      (probePresent s.loaded.layouts k = false → AnswersWith .cab r .outOfRange [] .answer s t) ∧
      (probePresent s.loaded.layouts k = true →
        (isBuiltIn s.loaded.layouts k.layout = true ∨ (∀ i, (s.remap.entry i).key ≠ some k) →
          AnswersWith .cab r .done [0#8] .answer s t) ∧
        (∀ i, isBuiltIn s.loaded.layouts k.layout = false → (s.remap.entry i).key = some k →
          (∀ j, (s.remap.entry j).key = some k → j = i) →
          AnswersWith .cab r .done
            [1#8, toByte i, toByte (s.remap.entry i).stateCode, flagByte (decide (i < s.remap.pinned))] .answer s t))) ∧
    (∀ index : Byte, ∃ t, exec (.readMapEntry .cab tag index) s = .next t ∧
      (39 < index.toNat → AnswersWith .cab ⟨0x19#8, tag, [index]⟩ .outOfRange [] .answer s t) ∧
      (index.toNat ≤ 39 →
        AnswersWith .cab ⟨0x19#8, tag, [index]⟩ .done
          ([toByte (s.remap.entry index.toNat).stateCode, flagByte (decide (index.toNat < s.remap.pinned)),
              toByte s.remap.pinned, toByte s.remap.pointer] ++
            match s.remap.entry index.toNat with
            | .empty => []
            | .filling k c =>
              [toByte k.layout, toByte k.pane] ++ bytes16 (BitVec.ofNat 16 k.pair) ++ [toByte c.code]
            | .valid k c e o =>
              [toByte k.layout, toByte k.pane] ++ bytes16 (BitVec.ofNat 16 k.pair) ++ [toByte c.code] ++
                e.bytes ++ o.bytes) .answer s t)) ∧
    ∃ t, exec (.getCounters .cab tag) s = .next t ∧
      AnswersWith .cab ⟨0x15#8, tag, [0#8]⟩ .done ((counterList s).map bytes16).flatten .answer s t

/-- R125, R155, R167, R169, R72: the requests that return something and clear it, taken at once. -/
def Obligations.ClearingRequestsReturnAndClear : Prop :=
  (∀ (m : Master) (tag : Byte) (s : State), takenAtOnce m s → s.mode ≠ .starting →
    ∃ t, exec (.takeLatches m tag) s = .next t ∧
      AnswersWith m ⟨0x03#8, tag, []⟩ .done [occupancySet s.alert.occupancy, s.alert.latched.get m] .answer
        { s with alert := { s.alert with latched := s.alert.latched.set m 0#8 } } t) ∧
  ∀ (tag : Byte) (s : State), takenAtOnce .cab s → s.mode ≠ .starting →
    (∃ t, exec (.getNotices .cab tag) s = .next t ∧
      AnswersWith .cab ⟨0x11#8, tag, []⟩ .done (bytes16 s.ports.pendingSets.cab) .answer
        { s with ports := { s.ports with pendingSets := { s.ports.pendingSets with cab := 0#16 } } } t) ∧
    (∃ t, exec (.getFault .cab tag) s = .next t ∧
      AnswersWith .cab ⟨0x1A#8, tag, []⟩ .done
        (if s.remap.fault.held then
           [1#8, toByte s.remap.fault.key.layout, toByte s.remap.fault.key.pane] ++
             bytes16 (BitVec.ofNat 16 s.remap.fault.key.pair) ++ [toByte s.remap.fault.tile.code]
         else [0#8]) .answer
        { s with remap := { s.remap with fault := { s.remap.fault with held := false } } } t) ∧
    (∃ t, exec (.collectMark .cab tag) s = .next t ∧
      ((∀ x ∈ s.incident.marks, x.collected = true) →
        AnswersWith .cab ⟨0x13#8, tag, []⟩ .done [0#8] .answer s t) ∧
      (∀ before x after, s.incident.marks = before ++ x :: after → x.collected = false →
        (∀ y ∈ before, y.collected = true) →
        AnswersWith .cab ⟨0x13#8, tag, []⟩ .done (1#8 :: padTo 48 (markBytes x x.embedded)) .answer
          { s with
            incident := { s.incident with marks := before ++ { x with collected := true } :: after } } t)) ∧
    ∃ u t, exec (.getCountersClear .cab tag) s = .next t ∧
      AnswersWith .cab ⟨0x15#8, tag, [1#8]⟩ .done ((counterList s).map bytes16).flatten .answer u t ∧
      counterList u = List.replicate 28 0#16 ∧
      u =
        { s with
          intake := s.intake.mapIdx fun c k =>
            { k with
              dropped := (u.intake.get c).dropped, torn := (u.intake.get c).torn, mismatch := (u.intake.get c).mismatch }
          exposure := s.exposure.mapIdx fun c e => { e with gainMismatch := (u.exposure.get c).gainMismatch }
          compositor := { s.compositor with held := u.compositor.held }
          remap := { s.remap with refills := u.remap.refills, mapFaults := u.remap.mapFaults }
          tracker :=
            { s.tracker with
              discarded := u.tracker.discarded
              unknownSensors := u.tracker.unknownSensors
              overflow := u.tracker.overflow }
          arbiter := { s.arbiter with lapses := u.arbiter.lapses }
          incident := { s.incident with dropped := u.incident.dropped }
          ports := { s.ports with frameErrors := u.ports.frameErrors, wrongData := u.ports.wrongData } }

/-- R129, R166, R128, R95, R138, R169: the requests that set something, taken at once. A SET_LIVE of several
items has the effects of its items one after another, and one that is refused has none. That a payload with
both faults is answered BAD_FORMAT is the model's choice (log 41), and so is that a home layout which does not
change takes no decision (log 29). -/
def Obligations.SettingRequestsWriteTheirSettings : Prop :=
  ∀ (tag : Byte) (s : State), takenAtOnce .cab s → s.mode ≠ .starting →
    (∃ t, exec (.ackWarning .cab tag) s = .next t ∧
      (s.alert.warningLevel.code ≤ s.alert.level.code →
        ∃ u, AnswersWith .cab ⟨0x06#8, tag, []⟩ .done
            [0#8, flagByte s.alert.silence, toByte s.alert.level.code] .answer u t ∧
          u.alert = { s.alert with silence := true } ∧ ArmsFollow readsWarning s u ∧
          KeepsBut [.alert, .compositor] s u) ∧
      (s.alert.level.code < s.alert.warningLevel.code →
        AnswersWith .cab ⟨0x06#8, tag, []⟩ .done
          [1#8, flagByte s.alert.silence, toByte s.alert.level.code] .answer s t)) ∧
    (∀ enable : Half, ∃ t, exec (.setNoticeMask .cab tag enable) s = .next t ∧
      AnswersWith .cab ⟨0x12#8, tag, bytes16 enable⟩ .done [] .answer
        { s with ports := { s.ports with enable := enable } } t ∧
      (s.ports.sending ≠ none ∨ s.ports.waiting = [] → CabWaiting.notice ∉ s.ports.waiting →
        (CabWaiting.notice ∈ t.ports.waiting ↔
          ∃ k : NoticeKind, s.ports.pendingSets.cab.getLsbD k.index = true ∧ enable.getLsbD k.index = true ∧
            s.ports.enable.getLsbD k.index = false))) ∧
    (∀ payload : List Byte,
      let code (i : Nat) : Nat := byteAt payload (3 * i)
      let value (i : Nat) : Nat := u16At payload (3 * i + 1)
      let formed : Prop := payload.length % 3 = 0 ∧ 3 ≤ payload.length ∧ payload.length ≤ 48 ∧
        ∀ i, 3 * i < payload.length → 1 ≤ code i ∧ code i ≤ 5 ∨ 16 ≤ code i ∧ code i ≤ 23
      let fits (i : Nat) : Prop :=
        (code i = 1 → value i ≤ 11 ∧ findLayout s.loaded.layouts (value i) ≠ none) ∧
        (2 ≤ code i ∧ code i ≤ 4 → value i ≤ 1) ∧
        (code i = 5 → value i = 2 ∨ value i = 3) ∧
        (16 ≤ code i → 1 ≤ value i ∧ value i ≤ 255)
      let r : Request := ⟨0x14#8, tag, payload⟩
      (¬ formed → AnswersWith .cab r .badFormat [] .answer s (present .cab r s)) ∧
      (formed → (∃ i, 3 * i < payload.length ∧ ¬ fits i) →
        AnswersWith .cab r .outOfRange [] .answer s (present .cab r s)) ∧
      (formed → (∀ i, 3 * i < payload.length → fits i) →
        ∃ u, AnswersWith .cab r .done [] .answer u (present .cab r s))) ∧
    (∀ (a b : List Byte) (u v : State), (a ++ b).length ≤ 48 → takenAtOnce .cab u →
      AnswersWith .cab ⟨0x14#8, tag, a⟩ .done [] .answer u (present .cab ⟨0x14#8, tag, a⟩ s) →
      AnswersWith .cab ⟨0x14#8, tag, b⟩ .done [] .answer v (present .cab ⟨0x14#8, tag, b⟩ u) →
      AnswersWith .cab ⟨0x14#8, tag, a ++ b⟩ .done [] .answer v (present .cab ⟨0x14#8, tag, a ++ b⟩ s)) ∧
    (∀ (value : Half) (k : OverlayClass) (g : Fin 4) (x : BlinkPhase),
      exec (.setLiveHomeLayout .cab tag value) s = .next (present .cab ⟨0x14#8, tag, 1#8 :: bytes16 value⟩ s) ∧
      exec (.setLiveClassSwitch .cab tag k value) s =
        .next (present .cab
          ⟨0x14#8, tag,
            (match k with
              | .guide => 2#8
              | .zone => 3#8
              | .frame => 4#8) :: bytes16 value⟩ s) ∧
      exec (.setLiveWarningLevel .cab tag value) s = .next (present .cab ⟨0x14#8, tag, 5#8 :: bytes16 value⟩ s) ∧
      exec (.setLiveBlinkWidth .cab tag g x value) s =
        .next (present .cab
          ⟨0x14#8, tag,
            (match x with
              | .off => BitVec.ofNat 8 (16 + g.val)
              | .on => BitVec.ofNat 8 (20 + g.val)) :: bytes16 value⟩ s)) ∧
    (∀ value : Half, ∃ t, exec (.setLiveHomeLayout .cab tag value) s = .next t ∧
      (11 < value.toNat ∨ findLayout s.loaded.layouts value.toNat = none →
        AnswersWith .cab ⟨0x14#8, tag, 1#8 :: bytes16 value⟩ .outOfRange [] .answer s t) ∧
      (value.toNat ≤ 11 → findLayout s.loaded.layouts value.toNat ≠ none →
        AnswersWith .cab ⟨0x14#8, tag, 1#8 :: bytes16 value⟩ .done [] .answer
          { s with
            arbiter :=
              if value.toNat = s.arbiter.home then s.arbiter
              else if s.mode = .running then decideArbiter { s.arbiter with home := value.toNat }
              else { s.arbiter with home := value.toNat } } t)) ∧
    (∀ (cls : OverlayClass) (value : Half), ∃ t, exec (.setLiveClassSwitch .cab tag cls value) s = .next t ∧
      let code : Byte := match cls with
        | .guide => 2#8
        | .zone => 3#8
        | .frame => 4#8
      (1 < value.toNat → AnswersWith .cab ⟨0x14#8, tag, code :: bytes16 value⟩ .outOfRange [] .answer s t) ∧
      (value.toNat ≤ 1 →
        AnswersWith .cab ⟨0x14#8, tag, code :: bytes16 value⟩ .done [] .answer
          { s with
            compositor :=
              { s.compositor with
                switches := match cls with
                  | .guide => { s.compositor.switches with guide := decide (value.toNat = 1) }
                  | .zone => { s.compositor.switches with zone := decide (value.toNat = 1) }
                  | .frame => { s.compositor.switches with frame := decide (value.toNat = 1) } } } t)) ∧
    (∀ value : Half, ∃ t, exec (.setLiveWarningLevel .cab tag value) s = .next t ∧
      (value.toNat ≠ 2 ∧ value.toNat ≠ 3 →
        AnswersWith .cab ⟨0x14#8, tag, 5#8 :: bytes16 value⟩ .outOfRange [] .answer s t) ∧
      (∀ v : Level, value.toNat = 2 ∧ v = .caution ∨ value.toNat = 3 ∧ v = .danger →
        ∃ u, AnswersWith .cab ⟨0x14#8, tag, 5#8 :: bytes16 value⟩ .done [] .answer u t ∧
          u.alert =
            { s.alert with
              warningLevel := v
              silence := s.alert.silence && decide (v.code ≤ s.alert.level.code) } ∧
          ArmsFollow readsWarning s u ∧ KeepsBut [.alert, .compositor] s u)) ∧
    (∀ (g : Fin 4) (phase : BlinkPhase) (value : Half), ∃ t,
      exec (.setLiveBlinkWidth .cab tag g phase value) s = .next t ∧
      let code : Byte := match phase with
        | .off => BitVec.ofNat 8 (16 + g.val)
        | .on => BitVec.ofNat 8 (20 + g.val)
      (value.toNat = 0 ∨ 255 < value.toNat →
        AnswersWith .cab ⟨0x14#8, tag, code :: bytes16 value⟩ .outOfRange [] .answer s t) ∧
      (1 ≤ value.toNat → value.toNat ≤ 255 →
        AnswersWith .cab ⟨0x14#8, tag, code :: bytes16 value⟩ .done [] .answer
          { s with
            compositor :=
              { s.compositor with
                generators := s.compositor.generators.set g
                  (match phase with
                   | .off => { s.compositor.generators.get g with nextOff := value.toNat }
                   | .on => { s.compositor.generators.get g with nextOn := value.toNat }) } } t))

/-- R152, R153, R154: a firing enters a mark or drops it, whatever fires it, and MARK_INCIDENT, taken at once,
fires one. That the collected mark which a new one replaces leaves before the number is chosen is the model's
choice (log 38). -/
def Obligations.MarkIncidentEntersAMark : Prop :=
  (∀ (source : MarkSource) (s : State), s.incident.marks.length ≤ 8 →
    let u := fireMark source s
    KeepsBut [.incident, .ports] s u ∧ NoticesOnly s u ∧ NoticesRaised [] s u ∧
    u.incident =
      { s.incident with marks := u.incident.marks, lastNumber := u.incident.lastNumber, dropped := u.incident.dropped } ∧
    (s.incident.marks.length < 8 ∨ (∃ x ∈ s.incident.marks, x.collected = true) →
      ∃ (before : List Mark) (x : Mark),
        u.incident.marks = before ++ [x] ∧ u.incident.lastNumber = x.number ∧
        u.incident.dropped = s.incident.dropped ∧
        (s.incident.marks.length < 8 → before = s.incident.marks) ∧
        (8 ≤ s.incident.marks.length → ∀ older y newer, s.incident.marks = older ++ y :: newer →
          y.collected = true → (∀ z ∈ older, z.collected = false) → before = older ++ newer) ∧
        (∀ y ∈ before, y.number ≠ x.number) ∧
        ((∀ y ∈ before, y.number ≠ s.incident.lastNumber + 1#16) → x.number = s.incident.lastNumber + 1#16) ∧
        x.source = source ∧ x.frame = s.frame ∧ x.ms = s.ms ∧ x.level = s.alert.level ∧
        x.shown = s.arbiter.shown ∧ x.vehicle = vehicleReading s.alert.vehicle ∧ x.collected = false ∧
        x.embedded = false ∧ x.tracks.length = min 4 (heldTracks s.tracker.tracks).length ∧
        ∀ n, (u.ports.pendingSets.get n).getLsbD 12 =
          ((s.ports.pendingSets.get n).getLsbD 12 || routedTo s.loaded.ports n .incidentMarked)) ∧
    (8 ≤ s.incident.marks.length → (∀ x ∈ s.incident.marks, x.collected = false) →
      u = { s with incident := { s.incident with dropped := satAdd s.incident.dropped 1 } })) ∧
  ∀ (m : Master) (tag : Byte) (s : State), takenAtOnce m s → s.mode ≠ .starting →
    let u := fireMark (.master m) s
    ∃ t, exec (.markIncident m tag) s = .next t ∧
      (s.incident.marks.length < 8 ∨ (∃ x ∈ s.incident.marks, x.collected = true) →
        AnswersWith m ⟨0x05#8, tag, []⟩ .done (0#8 :: bytes16 u.incident.lastNumber) .answer u t) ∧
      (8 ≤ s.incident.marks.length → (∀ x ∈ s.incident.marks, x.collected = false) →
        AnswersWith m ⟨0x05#8, tag, []⟩ .done (1#8 :: bytes16 0#16) .answer u t)

/-- R150, R151: when a record matches a trigger condition, how each condition moves at a record and at an output
frame start, and which of them fire, T0 to T3 in order. `before` are the states as the output frame start
begins: a condition that enters DELAYING or HOLDING at it is not counted. -/
def Obligations.TriggerConditionsMoveByTheirTable : Prop :=
  (∀ (t : Trigger) (r : EventRecord),
    let passes (i n : Nat) : Prop := t.tests.getD i 254 = 254 ∨ t.tests.getD i 254 = n
    recordMatches t r = true ↔ t.enabled = true ∧
      match r with
      | .alert new old best mask =>
        t.kind = .alert ∧ passes 0 new.code ∧ passes 1 old.code ∧
          (passes 2 (match best with
            | none => 255
            | some z => z.val)) ∧
          (t.tests.getD 3 254 = 254 ∨
            ((t.tests.getD 3 254).testBit 0 = true → mask.range = true) ∧
              ((t.tests.getD 3 254).testBit 1 = true → mask.motion = true))
      | .view layout winner => t.kind = .view ∧ passes 0 (layoutCode layout) ∧ passes 1 winner.code
      | .vehicle v =>
        t.kind = .vehicle ∧ passes 0 (gearCode v.gear) ∧ passes 1 (indicatorCode v.indicator) ∧
          passes 2 (liftCode v.lift) ∧
          match t.speed with
          | .any => True
          | .atLeast n => ∃ x, v.speed = some x ∧ n ≤ x
          | .unknown => v.speed = none
      | .condition c link cond =>
        t.kind = .condition ∧ passes 0 c.val ∧ passes 1 link.code ∧ passes 2 cond.code) ∧
  (∀ (r : EventRecord) (s : State),
    (s.mode = .starting → offerRecord r s = s) ∧
    (s.mode ≠ .starting →
      let config (t : Fin 4) : Trigger := s.loaded.triggers.get t
      let taken (t : Fin 4) : Prop := s.incident.triggers.get t = .armed ∧ recordMatches (config t) r = true
      let u := offerRecord r s
      ∃ fired : List (Fin 4),
        fired.Pairwise (· < ·) ∧ (∀ t, t ∈ fired ↔ taken t ∧ (config t).delay = 0) ∧
        (let v := fired.foldl (fun x t => fireMark (.trigger t) x) s
         u = { v with incident := { v.incident with triggers := u.incident.triggers } }) ∧
        ∀ t,
          (¬ taken t → u.incident.triggers.get t = s.incident.triggers.get t) ∧
          (taken t → (config t).delay ≠ 0 → u.incident.triggers.get t = .delaying (config t).delay) ∧
          (t ∈ fired → u.incident.triggers.get t =
            if (config t).holdOff = 0 then .armed else .holding (config t).holdOff))) ∧
  ∀ (before : Quad TriggerState) (s : State),
    (s.mode = .starting → countTriggers before s = s) ∧
    (s.mode ≠ .starting →
      let u := countTriggers before s
      ∃ fired : List (Fin 4),
        fired.Pairwise (· < ·) ∧
        (∀ t, t ∈ fired ↔ before.get t ≠ .armed ∧ ∃ n, s.incident.triggers.get t = .delaying n ∧ n ≤ 1) ∧
        (let v := fired.foldl (fun x t => fireMark (.trigger t) x) s
         u = { v with incident := { v.incident with triggers := u.incident.triggers } }) ∧
        ∀ t,
          (before.get t = .armed → u.incident.triggers.get t = s.incident.triggers.get t) ∧
          (s.incident.triggers.get t = .armed → u.incident.triggers.get t = .armed) ∧
          (t ∈ fired → u.incident.triggers.get t =
            if (s.loaded.triggers.get t).holdOff = 0 then .armed else .holding (s.loaded.triggers.get t).holdOff) ∧
          ∀ n, before.get t ≠ .armed →
            (s.incident.triggers.get t = .delaying n → 2 ≤ n → u.incident.triggers.get t = .delaying (n - 1)) ∧
            (s.incident.triggers.get t = .holding n →
              u.incident.triggers.get t = if n ≤ 1 then .armed else .holding (n - 1)))

/-- R173, R146, R175, R176: RESTART, ENTER_SERVICE and LEAVE_SERVICE, taken at once. The restart of the
first and the last follows their DONE (`FramesSentWholeServeTheQueues`). -/
def Obligations.ServiceRequestsMoveTheOperatingState : Prop :=
  ∀ (tag : Byte) (s : State), takenAtOnce .cab s → s.mode ≠ .starting →
    (∃ t, exec (.restart .cab tag) s = .next t ∧
      (s.flash.op ≠ .idle ∨ s.flash.exitPending = true → AnswersWith .cab ⟨0x20#8, tag, []⟩ .busy [] .answer s t) ∧
      (s.flash.op = .idle → s.flash.exitPending = false →
        AnswersWith .cab ⟨0x20#8, tag, []⟩ .done [] .restart s t)) ∧
    (∃ t, exec (.leaveService .cab tag) s = .next t ∧
      (s.mode = .running → AnswersWith .cab ⟨0x22#8, tag, []⟩ .wrongState [] .answer s t) ∧
      (s.mode = .service → s.flash.op ≠ .idle ∨ s.flash.exitPending = true →
        AnswersWith .cab ⟨0x22#8, tag, []⟩ .busy [] .answer s t) ∧
      (s.mode = .service → s.flash.op = .idle → s.flash.exitPending = false →
        AnswersWith .cab ⟨0x22#8, tag, []⟩ .done [] .restart s t)) ∧
    ∃ t, exec (.enterService .cab tag) s = .next t ∧
      (s.mode = .service ∨ s.alert.vehicle.speed.value ≠ some 0 ∨ s.alert.vehicle.gear.value = some .reverse ∨
          s.alert.level ≠ .none →
        AnswersWith .cab ⟨0x21#8, tag, []⟩ .wrongState [] .answer s t) ∧
      (s.mode = .running → s.alert.vehicle.speed.value = some 0 → s.alert.vehicle.gear.value ≠ some .reverse →
        s.alert.level = .none →
        ∃ u, AnswersWith .cab ⟨0x21#8, tag, []⟩ .done [] .answer u t ∧
          u.loader = { s.loader with mode := .service } ∧
          u.arbiter =
            { s.arbiter with
              claims := Quad.all none, state := .service, target := some ⟨.quad, .home⟩, dwell := 0 } ∧
          u.alert = { s.alert with linger := none } ∧
          NoticesOnly s u ∧ NoticesRaised [.serviceEntered] s u ∧
          KeepsBut [.loader, .arbiter, .alert, .ports] s u)

/-- R174, R175: FLASH_READ, FLASH_WRITE and FLASH_ERASE, taken at once, begin their operations, and the
completions end them, with the restart of a pending exit. That a completion without its operation in flight
changes nothing is the model's choice (log 2), and so is that flash which nothing has written reads 0xFF
(log 7). -/
def Obligations.FlashOperationsBeginAndComplete : Prop :=
  (∀ (tag : Byte) (address : BitVec 24) (s : State), takenAtOnce .cab s → s.mode ≠ .starting →
    let a := address.toNat
    let bytes : List Byte := [BitVec.ofNat 8 a, BitVec.ofNat 8 (a / 256), BitVec.ofNat 8 (a / 65536)]
    let busy := s.flash.op ≠ .idle ∨ s.flash.exitPending = true
    (∃ t, exec (.flashRead .cab tag address) s = .next t ∧
      let r : Request := ⟨0x23#8, tag, bytes⟩
      (s.mode = .running → AnswersWith .cab r .wrongState [] .answer s t) ∧
      (s.mode = .service → busy → AnswersWith .cab r .busy [] .answer s t) ∧
      (s.mode = .service → ¬ busy → a % 128 ≠ 0 ∨ 8388608 ≤ a → AnswersWith .cab r .outOfRange [] .answer s t) ∧
      (s.mode = .service → ¬ busy → a % 128 = 0 → a < 8388608 →
        (∀ data, s.flash.buffer = some (a, data) →
          AnswersWith .cab r .done (1#8 :: data) .answer { s with flash := { s.flash with buffer := none } } t) ∧
        ((∀ data, s.flash.buffer ≠ some (a, data)) →
          AnswersWith .cab r .done [0#8] .answer { s with flash := { s.flash with op := .reading a } } t))) ∧
    (∀ data : List Byte, ∃ t, exec (.flashWrite .cab tag address data) s = .next t ∧
      let r : Request := ⟨0x24#8, tag, bytes ++ data⟩
      (data.length ≠ 128 → AnswersWith .cab r .badFormat [] .answer s t) ∧
      (data.length = 128 →
        (s.mode = .running → AnswersWith .cab r .wrongState [] .answer s t) ∧
        (s.mode = .service → busy → AnswersWith .cab r .busy [] .answer s t) ∧
        (s.mode = .service → ¬ busy → a % 128 ≠ 0 ∨ 8388608 ≤ a → AnswersWith .cab r .outOfRange [] .answer s t) ∧
        (s.mode = .service → ¬ busy → a % 128 = 0 → a < 8388608 →
          AnswersWith .cab r .done [] .answer
            { s with flash := { s.flash with op := .writing a data, buffer := none } } t))) ∧
    ∃ t, exec (.flashErase .cab tag address) s = .next t ∧
      let r : Request := ⟨0x25#8, tag, bytes⟩
      (s.mode = .running → AnswersWith .cab r .wrongState [] .answer s t) ∧
      (s.mode = .service → busy → AnswersWith .cab r .busy [] .answer s t) ∧
      (s.mode = .service → ¬ busy → a % 4096 ≠ 0 ∨ 8388608 ≤ a → AnswersWith .cab r .outOfRange [] .answer s t) ∧
      (s.mode = .service → ¬ busy → a % 4096 = 0 → a < 8388608 →
        AnswersWith .cab r .done [] .answer
          { s with flash := { s.flash with op := .erasing a, buffer := none } } t)) ∧
  ∀ s : State, memoryCanonical s = true →
    (∀ a, s.flash.op = .reading a →
      ∃ u t, exec .flashReadCompletion s = .next t ∧ (t = if s.flash.exitPending then restartPart u else u) ∧
        u =
          { s with
            flash :=
              { s.flash with
                op := .idle
                buffer := some (a, (List.range 128).map fun i => sparseRead erased s.flash.cells (a + i)) } }) ∧
    (∀ a data, s.flash.op = .writing a data →
      ∃ u t, exec .flashWriteCompletion s = .next t ∧ (t = if s.flash.exitPending then restartPart u else u) ∧
        u = { s with flash := { s.flash with op := .idle, cells := u.flash.cells } } ∧
        (∀ i, i < 128 →
          sparseRead erased u.flash.cells (a + i) = sparseRead erased s.flash.cells (a + i) &&& data.getD i 0xFF#8) ∧
        ∀ b, b < a ∨ a + 128 ≤ b → sparseRead erased u.flash.cells b = sparseRead erased s.flash.cells b) ∧
    (∀ a, s.flash.op = .erasing a →
      ∃ u t, exec .flashEraseCompletion s = .next t ∧ (t = if s.flash.exitPending then restartPart u else u) ∧
        u = { s with flash := { s.flash with op := .idle, cells := u.flash.cells } } ∧
        (∀ i, i < 4096 → sparseRead erased u.flash.cells (a + i) = 0xFF#8) ∧
        ∀ b, b < a ∨ a + 4096 ≤ b → sparseRead erased u.flash.cells b = sparseRead erased s.flash.cells b) ∧
    ((∀ a, s.flash.op ≠ .reading a) → exec .flashReadCompletion s = .next s) ∧
    ((∀ a data, s.flash.op ≠ .writing a data) → exec .flashWriteCompletion s = .next s) ∧
    ((∀ a, s.flash.op ≠ .erasing a) → exec .flashEraseCompletion s = .next s)

/-! ## Port controller: the links (chapter 10) -/

/-- R159: the cab framer takes the bytes of the link one after another, completes or breaks the frame and
hands a whole one on; the CRC; and the bytes that a frame of the part puts on the link. The model's own: bytes
received in a run make one command (log 5); a broken frame or timeout in HUNT changes nothing (log 2); and a
timeout is an expiry that is due once 5 ms have passed since the last byte (log 3). -/
def Obligations.CabFramerHuntsAndBreaks : Prop :=
  (∀ s : State,
    let receives (b : Byte) (t : State) : Prop := exec (.requestArrival (.cabBytes [b])) s = .next t
    let moved (x : Framer) : State := { s with ports := { s.ports with framer := x } }
    let broken : State :=
      { s with
        ports := { s.ports with framer := .hunt, frameErrors := BitVec.ofNat 16 (min (s.ports.frameErrors.toNat + 1) 65535) } }
    (∀ t, receives 0x7E#8 t → exec .cabStartByteReceived s = .next t) ∧
    exec (.requestArrival (.cabBytes [])) s = .next s ∧
    (∀ (l rest : List Byte) (t : State), exec (.requestArrival (.cabBytes l)) s = .next t →
      exec (.requestArrival (.cabBytes (l ++ rest))) s = exec (.requestArrival (.cabBytes rest)) t) ∧
    (s.ports.framer = .hunt →
      receives 0x7E#8 (moved (.frame [] s.ms)) ∧ (∀ b, b ≠ 0x7E#8 → receives b s) ∧
        (∀ cause, exec (.cabFrameBroken cause) s = .next s) ∧ exec .cabInterbyteTimeout s = .next s) ∧
    ∀ (received : List Byte) (last : Word), s.ports.framer = .frame received last →
      (∀ b,
        let l := received ++ [b]
        let n := byteAt l 0
        let kind := l.getD 1 0#8
        let matched : Prop := (crc16 (l.take (n + 3))).toNat = 256 * byteAt l (n + 3) + byteAt l (n + 4)
        let data : Prop := kind = 0x30#8 ∨ kind = 0x31#8 ∨ kind = 0x32#8
        (200 < n → receives b broken) ∧
        (n ≤ 200 → l.length < n + 5 → receives b (moved (.frame l s.ms))) ∧
        (n ≤ 200 → l.length = n + 5 →
          (¬ matched → receives b broken) ∧
          (matched → data →
            receives b { s with ports := { s.ports with framer := .hunt, wrongData := satAdd s.ports.wrongData 1 } }) ∧
          (matched → ¬ data → receives b (present .cab ⟨kind, l.getD 2 0#8, (l.drop 3).take n⟩ (moved .hunt))))) ∧
      (∀ cause, exec (.cabFrameBroken cause) s = .next broken) ∧
      (5 ≤ (s.ms - last).toNat → exec .cabInterbyteTimeout s = .next broken) ∧
      ((s.ms - last).toNat < 5 → exec .cabInterbyteTimeout s = .next s)) ∧
  (crc16 [] = 0xFFFF#16 ∧
    ∀ (l : List Byte) (b : Byte), crc16 (l ++ [b]) =
      Nat.repeat (fun r : Half => if r.getLsbD 15 then r <<< 1 ^^^ 0x1021#16 else r <<< 1) 8
        (crc16 l ^^^ (b.setWidth 16 <<< 8))) ∧
  ∀ (f : CabFrame) (s : State), s.ports.sending = some f → f.payload.length ≤ 200 →
    ∃ high low : Byte,
      let covered := BitVec.ofNat 8 f.payload.length :: f.kind :: f.tag :: f.payload
      cabLine s = 0x7E#8 :: covered ++ [high, low] ∧ (crc16 covered).toNat = 256 * high.toNat + low.toNat

/-- R161, R162, R98, R116, R117: what is ignored, what is ignored and counted, and what a port that does
not receive, or a part that is STARTING, discards. -/
def Obligations.DataOutOfPlaceIsIgnored : Prop :=
  ∀ s : State,
    (∀ p cause, exec (.ignoredCanFrame p cause) s = .next s) ∧
    (∀ p kind, portActive p s = true →
      (p = .body → kind ≠ 0x31#8 ∧ kind ≠ 0x32#8) → (p = .chassis → kind ≠ 0x30#8) →
      exec (.wrongMasterData (portMaster p) kind) s =
        .next { s with ports := { s.ports with wrongData := satAdd s.ports.wrongData 1 } }) ∧
    (∀ kind : Byte, s.ports.framer ≠ .hunt → kind = 0x30#8 ∨ kind = 0x31#8 ∨ kind = 0x32#8 →
      exec (.wrongMasterData .cab kind) s =
        .next { s with ports := { s.ports with framer := .hunt, wrongData := satAdd s.ports.wrongData 1 } }) ∧
    (portActive .chassis s = false ∨ s.mode = .starting → ∀ data, exec (.vehicleStatus data) s = .next s) ∧
    (portActive .body s = false ∨ s.mode = .starting →
      ∀ data, exec (.bodyStatus data) s = .next s ∧ exec (.rangeReport data) s = .next s)

/-- R160, R161, R163, R176: once a frame has been sent whole, the next one follows; after a response the
master's next request is taken, and after the DONE that asked for it the restart takes place. The model's own:
a NOTICE reads its set as its sending begins (log 18), before the next request is taken (log 40), and
CAB_FRAME_SENT with
nothing being sent and CAN_FRAME_TRANSMITTED with an empty store or a port that is not ACTIVE change nothing
(log 2). -/
def Obligations.FramesSentWholeServeTheQueues : Prop :=
  (∀ (f : CabFrame) (s : State), s.ports.sending = some f →
    ∃ t, exec .cabFrameSent s = .next t ∧
      let u : State :=
        { s with
          ports := match s.ports.waiting with
            | [] => { s.ports with sending := none }
            | .frame g :: rest => { s.ports with sending := some g, waiting := rest }
            | .notice :: rest =>
              { s.ports with
                sending := some ⟨0x40#8, 0#8, bytes16 (s.ports.pendingSets.cab &&& s.ports.enable), .unasked⟩
                waiting := rest } }
      (f.role = .unasked ∨ f.role = .busy → t = u) ∧
      (f.role = .restart → t = restartPart u) ∧
      (f.role = .answer → answering .cab u = true ∨ s.ports.queues.cab = [] → t = u) ∧
      (∀ r rest, f.role = .answer → answering .cab u = false → s.ports.queues.cab = r :: rest →
        t = takeRequest .cab r
          { u with ports := { u.ports with queues := { u.ports.queues with cab := rest } } })) ∧
  (∀ s : State, s.ports.sending = none → exec .cabFrameSent s = .next s) ∧
  (∀ (p : Port) (f : CanFrame) (store : List CanFrame) (s : State),
    (s.ports.can.get p).store = f :: store → portActive p s = true →
    ∃ t, exec (.canFrameTransmitted p) s = .next t ∧
      let u : State :=
        { s with ports := { s.ports with can := s.ports.can.set p { s.ports.can.get p with store := store } } }
      (f.role = .unasked ∨ f.role = .busy → t = u) ∧
      (f.role = .answer → answering (portMaster p) u = true ∨ s.ports.queues.get (portMaster p) = [] → t = u) ∧
      (∀ r rest, f.role = .answer → answering (portMaster p) u = false →
        s.ports.queues.get (portMaster p) = r :: rest →
        t = takeRequest (portMaster p) r
          { u with ports := { u.ports with queues := u.ports.queues.set (portMaster p) rest } })) ∧
  ∀ (p : Port) (s : State), (s.ports.can.get p).store = [] ∨ portActive p s = false →
    exec (.canFrameTransmitted p) s = .next s

/-- R162, R170: bus-off empties its own port, recovery rejoins the bus with a broadcast, and a broadcast
that is due carries the state and empties the master's pending set. The error counts at bus-off are left
open (log 24). That BUS_OFF of a port that is not ACTIVE, BUS_OFF_RECOVERY of one that is not BUS_OFF and
STATUS_BROADCAST of one that is not ACTIVE change nothing is the model's choice (log 2), and so it is of a
recovery or broadcast that is not due (log 3). -/
def Obligations.CanPortsLeaveJoinAndBroadcast : Prop :=
  ∀ (p : Port) (s : State),
    let m := portMaster p
    let q := s.ports.can.get p
    let f : CanFrame := ⟨s.loaded.ports.base.get p + 2, broadcastBytes m s, .unasked⟩
    let sets := s.ports.pendingSets.set m 0#16
    (q.state = .active →
      ∃ t, exec (.busOff p) s = .next t ∧
        t.ports =
          { s.ports with
            can := s.ports.can.set p
              { q with
                state := .busOff s.ms
                store := []
                txErrors := (t.ports.can.get p).txErrors
                rxErrors := (t.ports.can.get p).rxErrors }
            queues := s.ports.queues.set m [] } ∧
        KeepsBut [.ports, .draws] s t) ∧
    (q.state ≠ .active → exec (.busOff p) s = .next s) ∧
    (∀ since, q.state = .busOff since → 1000 ≤ (s.ms - since).toNat →
      exec (.busOffRecovery p) s =
        .next { s with
          ports := { s.ports with
            can := s.ports.can.set p
              { q with
                state := .active, store := q.store ++ [f], timer := some s.ms, owed := false, txErrors := 0
                rxErrors := 0 }
            pendingSets := sets } }) ∧
    (∀ since, q.state = .busOff since → (s.ms - since).toNat < 1000 → exec (.busOffRecovery p) s = .next s) ∧
    ((∀ since, q.state ≠ .busOff since) → exec (.busOffRecovery p) s = .next s) ∧
    (∀ since, q.state = .active → q.timer = some since →
      (100 ≤ (s.ms - since).toNat ∨ q.owed = true ∧ 20 ≤ (s.ms - since).toNat) →
      exec (.statusBroadcast p) s =
        .next { s with
          ports := { s.ports with
            can := s.ports.can.set p { q with store := q.store ++ [f], timer := some s.ms, owed := false }
            pendingSets := sets } }) ∧
    (∀ since, q.state = .active → q.timer = some since → (s.ms - since).toNat < 100 →
      q.owed = false ∨ (s.ms - since).toNat < 20 → exec (.statusBroadcast p) s = .next s) ∧
    (q.state ≠ .active → exec (.statusBroadcast p) s = .next s) ∧
    f.data.length = 8 ∧ f.data.take 3 =
      [toByte (s.alert.level.code + if warningLine s then 16 else 0), toByte (layoutCode s.arbiter.shown),
        toByte (winningSource s.arbiter).code] ∧
    (f.data.drop 5).take 2 = bytes16 (s.ports.pendingSets.get m)

/-! ## Load, service and resets (chapter 11) -/

/-- R162, R168, R170, R171, R172: PORTS is taken once in a load, and both ports join. At the load
completion the part enters RUNNING: the update timer starts, the arbiter decides, and CONFIG_FALLBACK,
CAMERA_LOST and CAMERA_MISMATCH are raised as R171 and R24 say. What the sections give is that of
`LoadFallsBackBySection`. That PORTS_TAKEN is a step of its own, and that LOAD_COMPLETION takes PORTS where it
has not happened, is the model's choice (log 22); that PORTS_TAKEN again or outside STARTING, and
LOAD_COMPLETION outside STARTING, change nothing is log 2. -/
def Obligations.LoadTakesPortsAndEntersRunning : Prop :=
  (∀ s : State, s.mode = .starting → s.loader.portsTaken = false →
    ∃ t, exec .portsTaken s = .next t ∧
      t.loader.mode = .starting ∧ t.loader.portsTaken = true ∧
      t.ports.enable = t.loaded.ports.enable ∧
      t.ports.pendingSets = { s.ports.pendingSets with body := 0#16, chassis := 0#16 } ∧
      (∀ p, (t.ports.can.get p).state = .active ∧ (t.ports.can.get p).timer = some s.ms ∧
        (t.ports.can.get p).txErrors = 0 ∧ (t.ports.can.get p).rxErrors = 0 ∧
        ∃ data, (t.ports.can.get p).store =
          (s.ports.can.get p).store ++ [⟨t.loaded.ports.base.get p + 2, data, .unasked⟩]) ∧
      t.loaded =
        { s.loaded with ports := ((sectionBytes s.flash.cells 9).bind parsePorts).getD portsFallback } ∧
      t.loader.fellBack = (s.loader.fellBack || ((sectionBytes s.flash.cells 9).bind parsePorts).isNone) ∧
      KeepsBut [.loader, .loaded, .ports] s t) ∧
  (∀ s : State, s.mode ≠ .starting ∨ s.loader.portsTaken = true → exec .portsTaken s = .next s) ∧
  (∀ s : State, s.mode = .starting → s.loader.portsTaken = true →
    ∃ t, exec .loadCompletion s = .next t ∧
      t.loader.mode = .running ∧
      t.loaded = (loadSections s.flash.cells s.loaded.ports).loaded ∧
      t.motion = ⟨(loadSections s.flash.cells s.loaded.ports).cells, Quad.all none⟩ ∧
      t.tracker = { s.tracker with timer := some s.ms } ∧
      t.alert = { s.alert with warningLevel := t.loaded.warningLevel } ∧
      t.arbiter = decideArbiter { s.arbiter with home := t.loaded.home } ∧
      (∀ g, t.compositor.generators.get g =
        (let c := t.loaded.generators.get g
         ⟨c.offWidth, c.onWidth, .off, c.offWidth, c.source, armValue t c.source, false⟩)) ∧
      t.compositor = { s.compositor with generators := t.compositor.generators } ∧
      NoticesOnly s t ∧
      NoticesRaised
        ((if s.loader.fellBack ∨ (loadSections s.flash.cells s.loaded.ports).fell then [.configFallback] else []) ++
          (if ∃ c, (s.intake.get c).link ≠ .live then [.cameraLost] else []) ++
          (if ∃ c, (s.intake.get c).episode = true then [.cameraMismatch] else [])) s t ∧
      KeepsBut [.loader, .loaded, .motion, .tracker, .alert, .arbiter, .compositor, .ports] s t) ∧
  (∀ s : State, s.mode = .starting → s.loader.portsTaken = false →
    ∃ u, exec .portsTaken s = .next u ∧ exec .loadCompletion s = exec .loadCompletion u) ∧
  ∀ s : State, s.mode ≠ .starting → exec .loadCompletion s = .next s

/-- R172, with the fallbacks of R6, R46, R53, R86, R87, R94, R99, R108, R114 and R149 and the view layouts of
R115: when a section's bytes can be read, and what the load takes from a section that passes and from one that
fails. A failed header gives every section its fallback. That flash and map area which nothing has written
read 0xFF is the model's choice (log 7). -/
def Obligations.LoadFallsBackBySection : Prop :=
  (∀ (flash : List Host.Cell) (ports : PortsConfig),
    let bytes (a n : Nat) : List Byte := (List.range n).map fun i => sparseRead erased flash (a + i)
    let header := bytes 0 12
    let count := byteAt header 6
    let headerFits : Prop :=
      u32At header 0 = 0x36344353 ∧ u16At header 4 = 1 ∧ 1 ≤ count ∧ count ≤ 16 ∧
        (crc16 (bytes 0 8 ++ bytes 12 (12 * count))).toNat = u16At header 8
    let entry (n : Nat) : List Byte := bytes (12 + 12 * n) 12
    let names (code n : Nat) : Prop := n < count ∧ byteAt (entry n) 0 = code
    let r := loadSections flash ports
    let watch := (sectionBytes flash 7).bind parseWatch
    let overlays := (sectionBytes flash 6).bind parseOverlays
    let sensors := (sectionBytes flash 4).bind parseSensors
    let layouts := (sectionBytes flash 1).bind (parseLayouts r.loaded.mapLength r.loaded.mapCells)
    let zones := (sectionBytes flash 3).bind parseZones
    let map := (sectionBytes flash 2).filter fun l => decide (l.length ≤ 4194304 ∧ l.length % 32 = 0)
    (∀ code l, sectionBytes flash code = some l ↔
      headerFits ∧ ∃ n, names code n ∧ (∀ m, names code m → m = n) ∧
        u32At (entry n) 4 + u32At (entry n) 8 ≤ 8388608 ∧ (crc16 l).toNat = u16At (entry n) 2 ∧
        l = bytes (u32At (entry n) 4) (u32At (entry n) 8)) ∧
    r.loaded.ports = ports ∧
    r.loaded.palette = ((sectionBytes flash 10).bind parsePalette).getD paletteFallback ∧
    r.loaded.gate = (sensors.map SensorsSection.gate).getD 80 ∧
    r.loaded.sensors = (sensors.map SensorsSection.sensors).getD [] ∧
    r.cells = ((sectionBytes flash 5).bind parseCells).getD [] ∧
    r.loaded.watchSets = (watch.map WatchSection.sets).getD watchFallback ∧
    r.loaded.targets = (watch.map WatchSection.targets).getD (Quad.all 110) ∧
    r.loaded.triggers = ((sectionBytes flash 8).bind parseTriggers).getD triggersFallback ∧
    r.loaded.overlays = (overlays.map OverlaysSection.objects).getD [] ∧
    r.loaded.generators = (overlays.map OverlaysSection.generators).getD generatorsFallback ∧
    r.loaded.mapLength = (map.map List.length).getD 0 ∧
    (map = none → r.loaded.mapCells = []) ∧
    (∀ l, map = some l → ∀ a, sparseRead erased r.loaded.mapCells a = l.getD a 0xFF#8) ∧
    (map = none ∨ layouts = none → r.loaded.home = 0 ∧ r.loaded.layouts = [plainQuad]) ∧
    (map ≠ none → ∀ x, layouts = some x → r.loaded.home = x.home ∧ r.loaded.layouts = x.layouts) ∧
    (let z := zones.getD ⟨500, .caution, 3, [⟨0, true, 0, 1000, 0, 300, .always, .caution, 1500, some r.loaded.home⟩]⟩
     r.loaded.staleLimit = z.stale ∧ r.loaded.warningLevel = z.warningLevel ∧
       r.loaded.warningGenerator = z.generator ∧
       r.loaded.zones = z.zones.map fun k =>
         { k with view := k.view.filter fun n => (findLayout r.loaded.layouts n).isSome }) ∧
    (r.fell = true ↔
      (sectionBytes flash 10).bind parsePalette = none ∨ sensors = none ∨ (sectionBytes flash 5).bind parseCells = none ∨
        watch = none ∨ (sectionBytes flash 8).bind parseTriggers = none ∨ overlays = none ∨ map = none ∨
        layouts = none ∨ zones = none) ∧
    (¬ headerFits → r.fell = true ∧ r.cells = [] ∧
      r.loaded =
        { layouts := [plainQuad]
          home := 0
          mapLength := 0
          mapCells := []
          zones := [⟨0, true, 0, 1000, 0, 300, .always, .caution, 1500, some 0⟩]
          staleLimit := 500
          warningLevel := .caution
          warningGenerator := 3
          sensors := []
          gate := 80
          overlays := []
          generators := generatorsFallback
          watchSets := watchFallback
          targets := Quad.all 110
          triggers := triggersFallback
          ports := ports
          palette := paletteFallback })) ∧
  generatorsFallback = ⟨⟨8, 8, .levelDanger⟩, ⟨15, 15, .cameraFault⟩, ⟨20, 10, .levelCaution⟩, ⟨9, 6, .warning⟩⟩ ∧
  watchFallback =
    ⟨⟨true, .sharp, .below, 6, 4, 45, .obscured⟩, ⟨true, .highClip, .above, 40, 10, 10, .glare⟩,
      ⟨true, .limit, .above, 60, 20, 30, .lowLight⟩, ⟨false, .sharp, .below, 0, 0, 1, .obscured⟩⟩ ∧
  triggersFallback.c0 = ⟨true, .alert, [3, 254, 254, 254], .any, 15, 255⟩ ∧
  triggersFallback.c1.enabled = false ∧ triggersFallback.c2.enabled = false ∧ triggersFallback.c3.enabled = false ∧
  plainQuad =
    ⟨0, false,
      (List.range 4).map fun i =>
        ⟨640 * (i % 2), 384 * (i / 2), 640, 384, .camera, .b, 0, 0, 0, 0, false, 0#8, 1#4 <<< i⟩,
      true, 0xF#4⟩

/-- R6, R13, R46, R54, R56, R86, R87, R94, R99, R108, R114, R132, R149 and the section layouts of 11.2: when a
section passes the loader's check, and the values that one which passes gives, by the offsets of its bytes.
Which fields a check reads where 11.2 names the kinds that use them, and that a source mask test above 3 fails,
is the model's reading (log 23). -/
def Obligations.SectionsPassTheirChecks : Prop :=
  ∀ l : List Byte,
    let b : Nat → Nat := byteAt l
    let h : Nat → Nat := u16At l
    let z : Nat → Int := s16At l
    let inside (x y : Int) : Prop := -1000 ≤ x ∧ x ≤ 3000 ∧ -500 ≤ y ∧ y ≤ 1500
    -- PORTS
    ((parsePorts l).isSome = true ↔
      l.length = 31 ∧ (∀ i, i < 3 → 1 ≤ b i ∧ b i ≤ 5) ∧ b 4 ≤ 90 ∧ h 5 ≤ 0x7FC ∧ (h 7 = 250 ∨ h 7 = 500) ∧
        h 9 ≤ 0x7FC ∧ (h 11 = 250 ∨ h 11 = 500)) ∧
    (∀ x, parsePorts l = some x →
      x =
        { maxLevel := ⟨b 0, b 1, b 2⟩
          mayClaim := ⟨bitAt l 3 0, bitAt l 3 1, bitAt l 3 2⟩
          dwell := b 4
          base := ⟨h 5, h 9⟩
          bitRate := ⟨h 7, h 11⟩
          routing := x.routing
          enable := BitVec.ofNat 16 (h 29) } ∧
      ∀ (m : Master) (k : Fin 16), (x.routing.get m).getLsbD k.val = bitAt l (13 + k.val) (masterSlot m).val) ∧
    -- PALETTE
    parsePalette l =
      (if l.length = 48 then
         some ((List.range 16).map fun n => ⟨l.getD (3 * n) 0#8, l.getD (3 * n + 1) 0#8, l.getD (3 * n + 2) 0#8⟩)
       else none) ∧
    -- SENSORS
    ((parseSensors l).isSome = true ↔
      l.length = 2 + 12 * b 1 ∧ (b 0 = 0 ∨ 20 ≤ b 0 ∧ b 0 ≤ 200) ∧
        ∀ i, i < b 1 →
          let p := 2 + 12 * i
          b p ≤ 7 ∧ (∀ j, j < i → b (2 + 12 * j) ≠ b p) ∧ inside (z (p + 2)) (z (p + 4)) ∧
            -4096 ≤ z (p + 6) ∧ z (p + 6) ≤ 4096 ∧ -4096 ≤ z (p + 8) ∧ z (p + 8) ≤ 4096 ∧
            15728640 ≤ z (p + 6) * z (p + 6) + z (p + 8) * z (p + 8) ∧
            z (p + 6) * z (p + 6) + z (p + 8) * z (p + 8) ≤ 17825792 ∧
            (h (p + 10) = 0 ∨ 100 ≤ h (p + 10) ∧ h (p + 10) ≤ 1000)) ∧
    (∀ x, parseSensors l = some x →
      x =
        ⟨if b 0 = 0 then 80 else b 0,
          (List.range (b 1)).map fun i =>
            let p := 2 + 12 * i
            ⟨b p, bitAt l (p + 1) 0, z (p + 2), z (p + 4), z (p + 6), z (p + 8),
              if h (p + 10) = 0 then 500 else h (p + 10)⟩⟩) ∧
    -- CELLS
    ((parseCells l).isSome = true ↔
      l.length = 2 + 12 * b 0 ∧ b 0 ≤ 192 ∧
        ∀ i, i < b 0 →
          let p := 2 + 12 * i
          b p ≤ 3 ∧ h (p + 2) ≤ 1264 ∧ h (p + 4) ≤ 784 ∧ inside (z (p + 6)) (z (p + 8)) ∧ 1 ≤ h (p + 10) ∧
            h (p + 10) ≤ 4080) ∧
    (∀ x, parseCells l = some x →
      x = (List.range (b 0)).map fun i =>
        let p := 2 + 12 * i
        ⟨Fin.ofNat 4 (b p), h (p + 2), h (p + 4), z (p + 6), z (p + 8), h (p + 10), none, 0, 0, false⟩) ∧
    -- WATCH
    ((parseWatch l).isSome = true ↔
      l.length = 44 ∧ (∀ c, c < 4 → 40 ≤ b (40 + c) ∧ b (40 + c) ≤ 200) ∧ (∀ n, n < 4 → ∃ i, i < 4 ∧ b (10 * i) = n) ∧
        ∀ i, i < 4 →
          let p := 10 * i
          b (p + 2) ≤ 3 ∧ b (p + 3) ≤ 1 ∧ b (p + 8) ≤ 2 ∧ 1 ≤ b (p + 7) ∧ b (p + 7) ≤ 60 ∧
            if b (p + 2) = 3 then -127 ≤ z (p + 4) ∧ z (p + 4) ≤ 127
            else 0 ≤ z (p + 4) ∧ z (p + 4) ≤ if b (p + 2) = 2 then 256 else 255) ∧
    (∀ x, parseWatch l = some x →
      x.targets = ⟨b 40, b 41, b 42, b 43⟩ ∧
        ∀ (n : Fin 4) (i : Nat), i < 4 → b (10 * i) = n.val →
          let p := 10 * i
          let w := x.sets.get n
          w = ⟨bitAt l (p + 1) 0, w.quantity, w.direction, z (p + 4), b (p + 6), b (p + 7), w.action⟩ ∧
            [Quantity.mean, .sharp, .highClip, .limit][b (p + 2)]? = some w.quantity ∧
            [Direction.above, .below][b (p + 3)]? = some w.direction ∧
            [Condition.obscured, .glare, .lowLight][b (p + 8)]? = some w.action) ∧
    -- TRIGGERS
    ((parseTriggers l).isSome = true ↔
      l.length = 48 ∧ (∀ n, n < 4 → ∃ i, i < 4 ∧ b (12 * i) = n) ∧
        ∀ i, i < 4 →
          let p := 12 * i
          let upTo (k n : Nat) : Prop := b (p + k) = 254 ∨ b (p + k) ≤ n
          b (p + 2) = 0 ∧ upTo 5 3 ∧ upTo 6 3 ∧ (upTo 7 7 ∨ b (p + 7) = 255) ∧ upTo 8 3 ∨
            b (p + 2) = 1 ∧ (upTo 5 11 ∨ b (p + 5) = 128) ∧ upTo 6 4 ∨
            b (p + 2) = 2 ∧ upTo 5 3 ∧ (upTo 6 1 ∨ b (p + 6) = 3) ∧ (upTo 7 1 ∨ b (p + 7) = 3) ∧ b (p + 9) ≤ 2 ∧
              (b (p + 9) = 1 → h (p + 10) ≤ 4000) ∨
            b (p + 2) = 3 ∧ upTo 5 3 ∧ upTo 6 3 ∧ upTo 7 3) ∧
    (∀ x, parseTriggers l = some x →
      ∀ (n : Fin 4) (i : Nat), i < 4 → b (12 * i) = n.val →
        let p := 12 * i
        let t := x.get n
        t = ⟨bitAt l (p + 1) 0, t.kind, [b (p + 5), b (p + 6), b (p + 7), b (p + 8)], t.speed, b (p + 3), b (p + 4)⟩ ∧
          [RecordKind.alert, .view, .vehicle, .condition][b (p + 2)]? = some t.kind ∧
          t.speed =
            if b (p + 2) = 2 then
              if b (p + 9) = 0 then .any else if b (p + 9) = 1 then .atLeast (h (p + 10)) else .unknown
            else .any) ∧
    -- OVERLAYS
    (let g (i : Nat) : Nat := 2 + 28 * b 0 + 4 * i
     let onScreen (c r : Int) : Prop := 0 ≤ c ∧ c ≤ 1279 ∧ 0 ≤ r ∧ r ≤ 767
     ((parseOverlays l).isSome = true ↔
       l.length = 2 + 28 * b 0 + 4 * b 1 ∧ b 0 ≤ 32 ∧
         (∀ i, i < b 0 →
           let p := 2 + 28 * i
           b p ≤ 3 ∧ b (p + 3) ≤ 3 ∧ b (p + 4) ≤ 7 ∧ b (p + 6) ≤ 16 ∧ 1 ≤ b (p + 7) ∧ b (p + 7) ≤ 4 ∧
             b (p + 8) ≤ 4 ∧ b (p + 9) ≤ 3 ∧ b (p + 10) ≤ 2 ∧ b (p + 11) ≤ 15 ∧
             (-4000 ≤ z (p + 20) ∧ z (p + 20) ≤ 4000) ∧ (-4000 ≤ z (p + 22) ∧ z (p + 22) ≤ 4000) ∧
             (b p = 0 → inside (z (p + 12)) (z (p + 14)) ∧ inside (z (p + 16)) (z (p + 18))) ∧
             (2 ≤ b p → onScreen (z (p + 12)) (z (p + 14)) ∧ onScreen (z (p + 16)) (z (p + 18))) ∧
             (b p = 3 → z (p + 12) ≤ z (p + 16) ∧ z (p + 14) ≤ z (p + 18))) ∧
         ∀ i, i < b 1 →
           b (g i) ≤ 3 ∧ (∀ j, j < i → b (g j) ≠ b (g i)) ∧ 1 ≤ b (g i + 1) ∧ 1 ≤ b (g i + 2) ∧ b (g i + 3) ≤ 5) ∧
     ∀ x, parseOverlays l = some x →
       x.objects.length = b 0 ∧
         (∀ (i : Nat) (o : Overlay), x.objects[i]? = some o →
           let p := 2 + 28 * i
           o =
             ⟨o.kind, BitVec.ofNat 16 (h (p + 1)), b (p + 3), b (p + 4), z (p + 12), z (p + 14), z (p + 16),
               z (p + 18), b (p + 11), z (p + 20), z (p + 22), b (p + 5) % 16, b (p + 6), b (p + 7), o.generator,
               o.visibility, o.cls⟩ ∧
             [OverlayKind.groundLine, .zoneTint, .screenLine, .screenBox][b p]? = some o.kind ∧
             [none, some 0, some 1, some 2, some 3][b (p + 8)]? = some o.generator ∧
             [Level.none, .notice, .caution, .danger][b (p + 9)]? = some o.visibility ∧
             [OverlayClass.guide, .zone, .frame][b (p + 10)]? = some o.cls) ∧
         ∀ n : Fin 4,
           (∀ i, i < b 1 → b (g i) = n.val →
             x.generators.get n = ⟨b (g i + 1), b (g i + 2), (x.generators.get n).source⟩ ∧
               [ArmSource.always, .levelNotice, .levelCaution, .levelDanger, .cameraFault, .warning][b (g i + 3)]? =
                 some (x.generators.get n).source) ∧
           ((∀ i, i < b 1 → b (g i) ≠ n.val) → x.generators.get n = generatorsFallback.get n)) ∧
    -- ZONES
    ((parseZones l).isSome = true ↔
      l.length = 5 + 18 * b 4 ∧ b 4 ≤ 8 ∧ (h 0 = 0 ∨ 200 ≤ h 0 ∧ h 0 ≤ 2000) ∧ (b 2 = 2 ∨ b 2 = 3) ∧ b 3 ≤ 3 ∧
        ∀ i, i < b 4 →
          let p := 5 + 18 * i
          b p ≤ 7 ∧ (∀ j, j < i → b (5 + 18 * j) ≠ b p) ∧ b (p + 2) ≤ 5 ∧ (b (p + 2) = 1 → h (p + 12) ≤ 4000) ∧
            1 ≤ b (p + 3) ∧ b (p + 3) ≤ 3 ∧ z (p + 4) ≤ z (p + 6) ∧ z (p + 8) ≤ z (p + 10) ∧
            inside (z (p + 4)) (z (p + 8)) ∧ inside (z (p + 6)) (z (p + 10)) ∧
            (h (p + 14) = 0 ∨ 100 ≤ h (p + 14) ∧ h (p + 14) ≤ 5000) ∧ (b (p + 16) ≤ 11 ∨ b (p + 16) = 255)) ∧
    (∀ x, parseZones l = some x →
      x.stale = (if h 0 = 0 then 500 else h 0) ∧ x.warningLevel = (if b 2 = 2 then .caution else .danger) ∧
        x.generator.val = b 3 ∧ x.zones.length = b 4 ∧
        ∀ (i : Nat) (k : Zone), x.zones[i]? = some k →
          let p := 5 + 18 * i
          k =
            ⟨Fin.ofNat 8 (b p), bitAt l (p + 1) 0, z (p + 4), z (p + 6), z (p + 8), z (p + 10), k.condition, k.level,
              h (p + 14), if b (p + 16) = 255 then none else some (b (p + 16))⟩ ∧
            [ZoneCondition.always, .speedAtMost (h (p + 12)), .moving, .indicatorOn, .reverse, .liftActive][b (p + 2)]? =
              some k.condition ∧
            [Level.none, .notice, .caution, .danger][b (p + 3)]? = some k.level) ∧
    -- LAYOUTS
    ∀ (mapLength : Nat) (cells : List Host.Cell),
      ((parseLayouts mapLength cells l).isSome = true ↔
        ∃ (home count : Byte) (rs : List (List Byte)), l = home :: count :: rs.flatten ∧ count.toNat = rs.length ∧
          (rs.map fun r => byteAt r 0).Nodup ∧ (∃ r ∈ rs, byteAt r 0 = home.toNat) ∧
          ∀ r ∈ rs, r.length = 4 + 24 * byteAt r 2 ∧ byteAt r 0 ≤ 11 ∧ 1 ≤ byteAt r 2 ∧ byteAt r 2 ≤ 4 ∧
            ∀ i, i < byteAt r 2 →
              let at' (n k : Nat) : Nat := u16At r (4 + 24 * n + k)
              let p := 4 + 24 * i
              let tile : Nat := 32 * 2 ^ byteAt r (p + 9)
              byteAt r (p + 8) ≤ 1 ∧ byteAt r (p + 9) ≤ 2 ∧ at' i 4 ≠ 0 ∧ at' i 6 ≠ 0 ∧
                at' i 0 % (2 * tile) = 0 ∧ at' i 4 % (2 * tile) = 0 ∧ at' i 2 % tile = 0 ∧ at' i 6 % tile = 0 ∧
                at' i 0 + at' i 4 ≤ 1280 ∧ at' i 2 + at' i 6 ≤ 768 ∧
                (∀ j, j < i → ∀ x y : Nat,
                  ¬ (at' i 0 ≤ x ∧ x < at' i 0 + at' i 4 ∧ at' i 2 ≤ y ∧ y < at' i 2 + at' i 6 ∧
                    at' j 0 ≤ x ∧ x < at' j 0 + at' j 4 ∧ at' j 2 ≤ y ∧ y < at' j 2 + at' j 6)) ∧
                (byteAt r (p + 8) = 0 → inside (s16At r (p + 16)) (s16At r (p + 18)) ∧ 32 ≤ at' i 20 ∧ at' i 20 ≤ 1024) ∧
                u32At r (p + 12) % 64 = 0 ∧
                u32At r (p + 12) + 64 * (at' i 4 / (2 * tile) * (at' i 6 / tile)) ≤ mapLength) ∧
      ∀ x, parseLayouts mapLength cells l = some x →
        ∃ (home count : Byte) (rs : List (List Byte)), l = home :: count :: rs.flatten ∧ x.home = home.toNat ∧
          x.layouts.length = rs.length ∧
          ∀ (n : Nat) (r : List Byte) (k : Layout), rs[n]? = some r → x.layouts[n]? = some k →
            r.length = 4 + 24 * byteAt r 2 ∧ k.number = byteAt r 0 ∧ k.critical = bitAt r 1 0 ∧ k.builtIn = false ∧
            k.panes.length = byteAt r 2 ∧
            (∀ c : Camera, k.cameras.getLsbD c.val = true ↔ ∃ q ∈ k.panes, q.cameras.getLsbD c.val = true) ∧
            ∀ (i : Nat) (q : Pane), k.panes[i]? = some q →
              let p := 4 + 24 * i
              let top : Prop := q.kind = .topview
              q.left = u16At r p ∧ q.top = u16At r (p + 2) ∧ q.width = u16At r (p + 4) ∧ q.height = u16At r (p + 6) ∧
                [PaneKind.topview, .camera][byteAt r (p + 8)]? = some q.kind ∧
                [SizeClass.a, .b, .c][byteAt r (p + 9)]? = some q.cls ∧ q.mapBase = u32At r (p + 12) ∧
                (top → q.x0 = s16At r (p + 16) ∧ q.y0 = s16At r (p + 18) ∧ q.scale = u16At r (p + 20) ∧
                  q.mirror = bitAt r (p + 10) 0) ∧
                (¬ top → q.zoneMask.toNat = byteAt r (p + 11)) ∧
                ∀ c : Camera, q.cameras.getLsbD c.val = true ↔
                  ∃ m, m < 2 * q.pairs ∧
                    let kind := (sparseRead erased cells (q.mapBase + 32 * m)).toNat
                    kind ≤ 1 ∧ (sparseRead erased cells (q.mapBase + 32 * m + 1)).toNat = c.val ∨
                      kind = 1 ∧ (sparseRead erased cells (q.mapBase + 32 * m + 2)).toNat = c.val
/-- R176, R33, R34, R61, R76, R131, R158: a restart returns every block to its start state and keeps the
two counters, the incident list, the statistics counters, lock and the flash. A power-on reset also clears
the counters and the list, and may cut a flash operation anywhere. The model's own: the receiver's lock stands
in both (log 6), and picture memory and what was last sent keep their contents (log 8, log 9); a restart keeps
"in use", and a power-on reset clears it (log 35); what the configuration reads before the load (log 10), and
that the pending arms are clear until then (log 31). -/
def Obligations.ResetsReturnToTheStartState : Prop :=
  (∀ s : State, ∃ t, exec .partRestart s = .next t ∧
    t.loader = ⟨.starting, false, false⟩ ∧ t.loaded = loadedStart ∧ t.motion = motionStart ∧ t.alert = alertStart ∧
    (∀ c, t.intake.get c =
      { s.intake.get c with
        link := if (s.intake.get c).lock then .search else .down
        slots := (t.intake.get c).slots
        header := none
        stall := none
        lost := .expired
        episode := false
        sendBuffer := none }) ∧
    (∀ (c : Camera) (i : Fin 3), (t.intake.get c).slots.get i =
      { (s.intake.get c).slots.get i with state := .free, gain := 0, doneMs := 0#32 }) ∧
    (∀ c, t.exposure.get c = { exposureStart with gainMismatch := (s.exposure.get c).gainMismatch }) ∧
    t.tracker =
      { trackerStart with
        discarded := s.tracker.discarded, unknownSensors := s.tracker.unknownSensors, overflow := s.tracker.overflow } ∧
    t.arbiter = { arbiterStart with lapses := s.arbiter.lapses } ∧
    t.remap = { remapStart with refills := s.remap.refills, mapFaults := s.remap.mapFaults } ∧
    t.compositor =
      { compositorStart with
        held := s.compositor.held
        store := s.compositor.store
        sent := s.compositor.sent
        line1 := s.compositor.line1
        line2 := s.compositor.line2 } ∧
    t.incident = { s.incident with triggers := Quad.all .armed } ∧
    t.ports = { portsStart with frameErrors := s.ports.frameErrors, wrongData := s.ports.wrongData } ∧
    t.flash = ⟨s.flash.cells, .idle, none, false⟩ ∧
    KeepsBut [.loader, .loaded, .intake, .exposure, .motion, .tracker, .alert, .arbiter, .remap, .compositor, .incident,
      .ports, .flash] s t) ∧
  ∀ s : State, memoryCanonical s = true → ∃ t, exec .powerOnReset s = .next t ∧
    t.ms = 0#32 ∧ t.frame = 0#32 ∧ t.pending = s.pending ∧
    t.loader = ⟨.starting, false, false⟩ ∧ t.loaded = loadedStart ∧ t.motion = motionStart ∧ t.alert = alertStart ∧
    t.tracker = trackerStart ∧ t.arbiter = arbiterStart ∧ t.remap = remapStart ∧ t.incident = incidentStart ∧
    t.ports = portsStart ∧ (∀ c, t.exposure.get c = exposureStart) ∧
    (∀ c, t.intake.get c =
      { s.intake.get c with
        link := if (s.intake.get c).lock then .search else .down
        slots := (t.intake.get c).slots
        header := none
        stall := none
        lost := .expired
        episode := false
        sendBuffer := none
        inUse := false
        dropped := 0#16
        torn := 0#16
        mismatch := 0#16 }) ∧
    (∀ (c : Camera) (i : Fin 3), (t.intake.get c).slots.get i =
      { (s.intake.get c).slots.get i with state := .free, gain := 0, doneMs := 0#32 }) ∧
    t.compositor =
      { compositorStart with
        store := s.compositor.store
        sent := s.compositor.sent
        line1 := s.compositor.line1
        line2 := s.compositor.line2 } ∧
    counterList t = List.replicate 28 0#16 ∧
    t.flash.op = .idle ∧ t.flash.buffer = none ∧ t.flash.exitPending = false ∧
    (∀ b, sparseRead erased t.flash.cells b = sparseRead erased s.flash.cells b ∨
      (∃ a data i, s.flash.op = .writing a data ∧ i < 128 ∧ b = a + i ∧
        sparseRead erased t.flash.cells b = sparseRead erased s.flash.cells b &&& data.getD i 0xFF#8) ∨
      ∃ a i, s.flash.op = .erasing a ∧ i < 4096 ∧ b = a + i ∧ sparseRead erased t.flash.cells b = 0xFF#8)

/-! ## The machine -/

/-- A step runs the command at the front of the queue on the state with the rest of the queue. On an empty
queue one millisecond passes (log 1). -/
def Obligations.StepRunsTheFrontCommand : Prop :=
  (∀ (i : Instr) (rest : List Instr) (s : State), s.pending = i :: rest → step s = exec i { s with pending := rest }) ∧
  ∀ s : State, s.pending = [] → step s = .next { s with ms := s.ms + 1#32 }

/-- Every command answers a next state from every state, REFILL_COMPLETION apart, whose only other answer is
the fault for a pair outside the map area (log 25). No command touches the queue; only POWER_ON_RESET sets
the millisecond counter, and only it and OUTPUT_FRAME_START move the output frame counter. -/
def Obligations.EveryCommandAnswers : Prop :=
  ∀ (i : Instr) (s : State),
    ((∃ t, exec i s = .next t) ∨
      ∃ slot f, i = .refillCompletion slot ∧ s.remap.slot slot = some f ∧ fetchPair s.loaded f.key = none ∧
        exec i s = .fault (.outsideMapArea f.key)) ∧
    ∀ t, exec i s = .next t →
      t.pending = s.pending ∧ (t.ms = s.ms ∨ i = .powerOnReset) ∧
        (t.frame = s.frame ∨ i = .powerOnReset ∨ ∃ written, i = .outputFrameStart written)

/-- R5, R46, R58, R149, R168, R174: the loaded configuration changes only within the load and at a reset,
and the flash only at the completion of a write or an erase and at a power-on reset. -/
def Obligations.ConfigurationStaysAsLoaded : Prop :=
  ∀ (i : Instr) (s t : State), exec i s = .next t →
    (t.loaded = s.loaded ∨ t.mode = .starting ∨ i = .loadCompletion) ∧
    (t.flash.cells = s.flash.cells ∨ i = .flashWriteCompletion ∨ i = .flashEraseCompletion ∨ i = .powerOnReset)

/-- R171: the moves of the operating state, over all commands. -/
def Obligations.OperatingStateMovesAsStated : Prop :=
  ∀ (i : Instr) (s t : State), exec i s = .next t →
    (t.mode = .running → s.mode = .running ∨ s.mode = .starting ∧ i = .loadCompletion) ∧
    (t.mode = .service → s.mode = .service ∨ s.mode = .running) ∧
    (s.mode = .running → t.mode = .service →
      t.alert.level = .none ∧ s.alert.vehicle.speed.value = some 0 ∧ t.arbiter.claims = Quad.all none)

/-- R123: S changes only at the end of an update and at a restart or power-on reset, which set it to NONE. -/
def Obligations.AlertLevelChangesOnlyAtUpdates : Prop :=
  ∀ (i : Instr) (s t : State), exec i s = .next t → t.alert.level ≠ s.alert.level →
    i = .trackerUpdateCompletion ∨ t.mode = .starting ∧ t.alert.level = .none

/-! ## Invariants -/

/-- Every memory keeps its canonical form. -/
def Obligations.MemoryStaysCanonical : Prop :=
  ∀ s t : State, memoryCanonical s = true → step s = .next t → memoryCanonical t = true

/-- R104, R105, R154, R160, R163, R67, R124: the lists of the state keep their lengths. -/
def Obligations.ListsStayBounded : Prop :=
  ∀ s t : State, listsBounded s = true → step s = .next t → listsBounded t = true

/-- R61: the pinned count, the replacement pointer and the keys of the cache stay as R61 says. -/
def Obligations.RemapUnitStaysSound : Prop :=
  ∀ s t : State, remapSound s = true → step s = .next t → remapSound t = true

/-- R105, R106: track numbers lie in 1 to 255 and none is carried twice. -/
def Obligations.TrackNumbersStayDistinct : Prop :=
  ∀ s t : State, tracksSound s = true → step s = .next t → tracksSound t = true

/-- R131, R132, R141, R146: no claim's level exceeds its slot's maximum, and outside RUNNING no claim is
held. -/
def Obligations.ClaimsStayWithinTheirMaximum : Prop :=
  ∀ s t : State, claimsSound s = true → step s = .next t → claimsSound t = true

/-- R152, R154: at most eight marks, and no number carried twice. -/
def Obligations.MarkNumbersStayDistinct : Prop :=
  ∀ s t : State, marksSound s = true → step s = .next t → marksSound t = true

/-- R22, R23, R26, R30: the stall timer runs and the lost timer is STOPPED just while a link is LIVE, and a
camera has at most one FILLING and one READING slot. -/
def Obligations.LinksAndSlotsStaySound : Prop :=
  ∀ s t : State, linksSound s = true → slotsSound s = true → step s = .next t →
    linksSound t = true ∧ slotsSound t = true

/-- R163, R160: each master's requests are taken one at a time, and none waits without a response on its
way. -/
def Obligations.RequestsStayServed : Prop :=
  ∀ s t : State, requestsServed s = true → step s = .next t → requestsServed t = true

/-- The state after a power-on reset satisfies every invariant above. -/
def Obligations.ResetSatisfiesTheInvariants : Prop :=
  memoryCanonical State.reset = true ∧ listsBounded State.reset = true ∧ remapSound State.reset = true ∧
    tracksSound State.reset = true ∧ claimsSound State.reset = true ∧ marksSound State.reset = true ∧ linksSound State.reset = true ∧
    slotsSound State.reset = true ∧ requestsServed State.reset = true

end Statements
end

