-- ==== Sys2Proof/Laws/Collections.lean ====
section
/-! SUPPORT. Reading after writing, for the small fixed collections. -/

namespace Sys2Proof.Machine

variable {α β : Type}

@[simp] theorem Quad.get_set_same (q : Quad α) (i : Fin 4) (x : α) : (q.set i x).get i = x := by
  match i with
  | 0 => rfl
  | 1 => rfl
  | 2 => rfl
  | 3 => rfl

theorem Quad.get_set_other (q : Quad α) {i j : Fin 4} (x : α) (h : j ≠ i) : (q.set i x).get j = q.get j := by
  match i, j with
  | 0, 0 => exact absurd rfl h
  | 0, 1 => rfl
  | 0, 2 => rfl
  | 0, 3 => rfl
  | 1, 0 => rfl
  | 1, 1 => exact absurd rfl h
  | 1, 2 => rfl
  | 1, 3 => rfl
  | 2, 0 => rfl
  | 2, 1 => rfl
  | 2, 2 => exact absurd rfl h
  | 2, 3 => rfl
  | 3, 0 => rfl
  | 3, 1 => rfl
  | 3, 2 => rfl
  | 3, 3 => exact absurd rfl h

theorem Quad.get_set (q : Quad α) (i j : Fin 4) (x : α) : (q.set i x).get j = if j = i then x else q.get j := by
  by_cases h : j = i
  · subst h; simp
  · rw [Quad.get_set_other q x h, if_neg h]

@[simp] theorem Quad.get_map (f : α → β) (q : Quad α) (i : Fin 4) : (q.map f).get i = f (q.get i) := by
  match i with
  | 0 => rfl
  | 1 => rfl
  | 2 => rfl
  | 3 => rfl

@[simp] theorem Quad.get_mapIdx (f : Fin 4 → α → β) (q : Quad α) (i : Fin 4) : (q.mapIdx f).get i = f i (q.get i) := by
  match i with
  | 0 => rfl
  | 1 => rfl
  | 2 => rfl
  | 3 => rfl

@[simp] theorem Quad.get_all (x : α) (i : Fin 4) : (Quad.all x).get i = x := by
  match i with
  | 0 => rfl
  | 1 => rfl
  | 2 => rfl
  | 3 => rfl

@[simp] theorem Quad.set_get (q : Quad α) (i : Fin 4) : q.set i (q.get i) = q := by
  match i with
  | 0 => rfl
  | 1 => rfl
  | 2 => rfl
  | 3 => rfl

@[simp] theorem Quad.set_set (q : Quad α) (i : Fin 4) (x y : α) : (q.set i x).set i y = q.set i y := by
  match i with
  | 0 => rfl
  | 1 => rfl
  | 2 => rfl
  | 3 => rfl

theorem Quad.ext_get {p q : Quad α} (h : ∀ i, p.get i = q.get i) : p = q := by
  cases p; cases q
  simpa [Quad.get] using And.intro (h 0) (And.intro (h 1) (And.intro (h 2) (h 3)))

/-- A property of every member of the list is one of every number. -/
theorem Quad.all_toList (q : Quad α) (p : α → Bool) : q.toList.all p = true ↔ ∀ i, p (q.get i) = true := by
  constructor
  · intro h i
    simp [Quad.toList] at h
    match i with
    | 0 => exact h.1
    | 1 => exact h.2.1
    | 2 => exact h.2.2.1
    | 3 => exact h.2.2.2
  · intro h
    simp [Quad.toList]
    exact ⟨h 0, h 1, h 2, h 3⟩

@[simp] theorem Trio.get_set_same (q : Trio α) (i : Fin 3) (x : α) : (q.set i x).get i = x := by
  match i with
  | 0 => rfl
  | 1 => rfl
  | 2 => rfl

theorem Trio.get_set_other (q : Trio α) {i j : Fin 3} (x : α) (h : j ≠ i) : (q.set i x).get j = q.get j := by
  match i, j with
  | 0, 0 => exact absurd rfl h
  | 0, 1 => rfl
  | 0, 2 => rfl
  | 1, 0 => rfl
  | 1, 1 => exact absurd rfl h
  | 1, 2 => rfl
  | 2, 0 => rfl
  | 2, 1 => rfl
  | 2, 2 => exact absurd rfl h

@[simp] theorem Trio.get_map (f : α → β) (q : Trio α) (i : Fin 3) : (q.map f).get i = f (q.get i) := by
  match i with
  | 0 => rfl
  | 1 => rfl
  | 2 => rfl

/-- A property of every member of the list is one of every number. -/
theorem Trio.all_toList (q : Trio α) (p : α → Bool) : q.toList.all p = true ↔ ∀ i, p (q.get i) = true := by
  constructor
  · intro h i
    simp [Trio.toList] at h
    match i with
    | 0 => exact h.1
    | 1 => exact h.2.1
    | 2 => exact h.2.2
  · intro h
    simp [Trio.toList]
    exact ⟨h 0, h 1, h 2⟩

@[simp] theorem PerMaster.get_set_same (q : PerMaster α) (m : Master) (x : α) : (q.set m x).get m = x := by
  cases m <;> rfl

theorem PerMaster.get_set_other (q : PerMaster α) {m n : Master} (x : α) (h : n ≠ m) : (q.set m x).get n = q.get n := by
  cases m <;> cases n <;> first | rfl | exact absurd rfl h

@[simp] theorem PerMaster.set_get (q : PerMaster α) (m : Master) : q.set m (q.get m) = q := by
  cases m <;> rfl

@[simp] theorem PerMaster.set_set (q : PerMaster α) (m : Master) (x y : α) : (q.set m x).set m y = q.set m y := by
  cases m <;> rfl

@[simp] theorem PerMaster.get_map (f : α → β) (q : PerMaster α) (m : Master) : (q.map f).get m = f (q.get m) := by
  cases m <;> rfl

@[simp] theorem PerPort.get_set_same (q : PerPort α) (p : Port) (x : α) : (q.set p x).get p = x := by
  cases p <;> rfl

theorem PerPort.get_set_other (q : PerPort α) {p r : Port} (x : α) (h : r ≠ p) : (q.set p x).get r = q.get r := by
  cases p <;> cases r <;> first | rfl | exact absurd rfl h

@[simp] theorem PerPort.set_get (q : PerPort α) (p : Port) : q.set p (q.get p) = q := by
  cases p <;> rfl

@[simp] theorem PerPort.set_set (q : PerPort α) (p : Port) (x y : α) : (q.set p x).set p y = q.set p y := by
  cases p <;> rfl

end Sys2Proof.Machine
end

