-- ==== Sys2Proof/Laws/State.lean ====
section
/-! SUPPORT. What each field of the state is after each update of a block: one lemma per field per update. -/

namespace Sys2Proof.Machine

/-! ## mapArbiter -/

@[simp] theorem State.mapArbiter_pending (s : State) (f : Arbiter → Arbiter) : (s.mapArbiter f).pending = s.pending := rfl

@[simp] theorem State.mapArbiter_ms (s : State) (f : Arbiter → Arbiter) : (s.mapArbiter f).ms = s.ms := rfl

@[simp] theorem State.mapArbiter_frame (s : State) (f : Arbiter → Arbiter) : (s.mapArbiter f).frame = s.frame := rfl

@[simp] theorem State.mapArbiter_loader (s : State) (f : Arbiter → Arbiter) : (s.mapArbiter f).loader = s.loader := rfl

@[simp] theorem State.mapArbiter_loaded (s : State) (f : Arbiter → Arbiter) : (s.mapArbiter f).loaded = s.loaded := rfl

@[simp] theorem State.mapArbiter_intake (s : State) (f : Arbiter → Arbiter) : (s.mapArbiter f).intake = s.intake := rfl

@[simp] theorem State.mapArbiter_exposure (s : State) (f : Arbiter → Arbiter) : (s.mapArbiter f).exposure = s.exposure := rfl

@[simp] theorem State.mapArbiter_motion (s : State) (f : Arbiter → Arbiter) : (s.mapArbiter f).motion = s.motion := rfl

@[simp] theorem State.mapArbiter_tracker (s : State) (f : Arbiter → Arbiter) : (s.mapArbiter f).tracker = s.tracker := rfl

@[simp] theorem State.mapArbiter_alert (s : State) (f : Arbiter → Arbiter) : (s.mapArbiter f).alert = s.alert := rfl

@[simp] theorem State.mapArbiter_arbiter (s : State) (f : Arbiter → Arbiter) : (s.mapArbiter f).arbiter = f s.arbiter := rfl

@[simp] theorem State.mapArbiter_remap (s : State) (f : Arbiter → Arbiter) : (s.mapArbiter f).remap = s.remap := rfl

@[simp] theorem State.mapArbiter_compositor (s : State) (f : Arbiter → Arbiter) : (s.mapArbiter f).compositor = s.compositor := rfl

@[simp] theorem State.mapArbiter_incident (s : State) (f : Arbiter → Arbiter) : (s.mapArbiter f).incident = s.incident := rfl

@[simp] theorem State.mapArbiter_ports (s : State) (f : Arbiter → Arbiter) : (s.mapArbiter f).ports = s.ports := rfl

@[simp] theorem State.mapArbiter_flash (s : State) (f : Arbiter → Arbiter) : (s.mapArbiter f).flash = s.flash := rfl

@[simp] theorem State.mapArbiter_draws (s : State) (f : Arbiter → Arbiter) : (s.mapArbiter f).draws = s.draws := rfl

/-! ## mapAlert -/

@[simp] theorem State.mapAlert_pending (s : State) (f : Alert → Alert) : (s.mapAlert f).pending = s.pending := rfl

@[simp] theorem State.mapAlert_ms (s : State) (f : Alert → Alert) : (s.mapAlert f).ms = s.ms := rfl

@[simp] theorem State.mapAlert_frame (s : State) (f : Alert → Alert) : (s.mapAlert f).frame = s.frame := rfl

@[simp] theorem State.mapAlert_loader (s : State) (f : Alert → Alert) : (s.mapAlert f).loader = s.loader := rfl

@[simp] theorem State.mapAlert_loaded (s : State) (f : Alert → Alert) : (s.mapAlert f).loaded = s.loaded := rfl

@[simp] theorem State.mapAlert_intake (s : State) (f : Alert → Alert) : (s.mapAlert f).intake = s.intake := rfl

@[simp] theorem State.mapAlert_exposure (s : State) (f : Alert → Alert) : (s.mapAlert f).exposure = s.exposure := rfl

@[simp] theorem State.mapAlert_motion (s : State) (f : Alert → Alert) : (s.mapAlert f).motion = s.motion := rfl

@[simp] theorem State.mapAlert_tracker (s : State) (f : Alert → Alert) : (s.mapAlert f).tracker = s.tracker := rfl

@[simp] theorem State.mapAlert_alert (s : State) (f : Alert → Alert) : (s.mapAlert f).alert = f s.alert := rfl

@[simp] theorem State.mapAlert_arbiter (s : State) (f : Alert → Alert) : (s.mapAlert f).arbiter = s.arbiter := rfl

@[simp] theorem State.mapAlert_remap (s : State) (f : Alert → Alert) : (s.mapAlert f).remap = s.remap := rfl

@[simp] theorem State.mapAlert_compositor (s : State) (f : Alert → Alert) : (s.mapAlert f).compositor = s.compositor := rfl

@[simp] theorem State.mapAlert_incident (s : State) (f : Alert → Alert) : (s.mapAlert f).incident = s.incident := rfl

@[simp] theorem State.mapAlert_ports (s : State) (f : Alert → Alert) : (s.mapAlert f).ports = s.ports := rfl

@[simp] theorem State.mapAlert_flash (s : State) (f : Alert → Alert) : (s.mapAlert f).flash = s.flash := rfl

@[simp] theorem State.mapAlert_draws (s : State) (f : Alert → Alert) : (s.mapAlert f).draws = s.draws := rfl

/-! ## mapTracker -/

@[simp] theorem State.mapTracker_pending (s : State) (f : Tracker → Tracker) : (s.mapTracker f).pending = s.pending := rfl

@[simp] theorem State.mapTracker_ms (s : State) (f : Tracker → Tracker) : (s.mapTracker f).ms = s.ms := rfl

@[simp] theorem State.mapTracker_frame (s : State) (f : Tracker → Tracker) : (s.mapTracker f).frame = s.frame := rfl

@[simp] theorem State.mapTracker_loader (s : State) (f : Tracker → Tracker) : (s.mapTracker f).loader = s.loader := rfl

@[simp] theorem State.mapTracker_loaded (s : State) (f : Tracker → Tracker) : (s.mapTracker f).loaded = s.loaded := rfl

@[simp] theorem State.mapTracker_intake (s : State) (f : Tracker → Tracker) : (s.mapTracker f).intake = s.intake := rfl

@[simp] theorem State.mapTracker_exposure (s : State) (f : Tracker → Tracker) : (s.mapTracker f).exposure = s.exposure := rfl

@[simp] theorem State.mapTracker_motion (s : State) (f : Tracker → Tracker) : (s.mapTracker f).motion = s.motion := rfl

@[simp] theorem State.mapTracker_tracker (s : State) (f : Tracker → Tracker) : (s.mapTracker f).tracker = f s.tracker := rfl

@[simp] theorem State.mapTracker_alert (s : State) (f : Tracker → Tracker) : (s.mapTracker f).alert = s.alert := rfl

@[simp] theorem State.mapTracker_arbiter (s : State) (f : Tracker → Tracker) : (s.mapTracker f).arbiter = s.arbiter := rfl

@[simp] theorem State.mapTracker_remap (s : State) (f : Tracker → Tracker) : (s.mapTracker f).remap = s.remap := rfl

@[simp] theorem State.mapTracker_compositor (s : State) (f : Tracker → Tracker) : (s.mapTracker f).compositor = s.compositor := rfl

@[simp] theorem State.mapTracker_incident (s : State) (f : Tracker → Tracker) : (s.mapTracker f).incident = s.incident := rfl

@[simp] theorem State.mapTracker_ports (s : State) (f : Tracker → Tracker) : (s.mapTracker f).ports = s.ports := rfl

@[simp] theorem State.mapTracker_flash (s : State) (f : Tracker → Tracker) : (s.mapTracker f).flash = s.flash := rfl

@[simp] theorem State.mapTracker_draws (s : State) (f : Tracker → Tracker) : (s.mapTracker f).draws = s.draws := rfl

/-! ## mapRemap -/

@[simp] theorem State.mapRemap_pending (s : State) (f : Remap → Remap) : (s.mapRemap f).pending = s.pending := rfl

@[simp] theorem State.mapRemap_ms (s : State) (f : Remap → Remap) : (s.mapRemap f).ms = s.ms := rfl

@[simp] theorem State.mapRemap_frame (s : State) (f : Remap → Remap) : (s.mapRemap f).frame = s.frame := rfl

@[simp] theorem State.mapRemap_loader (s : State) (f : Remap → Remap) : (s.mapRemap f).loader = s.loader := rfl

@[simp] theorem State.mapRemap_loaded (s : State) (f : Remap → Remap) : (s.mapRemap f).loaded = s.loaded := rfl

@[simp] theorem State.mapRemap_intake (s : State) (f : Remap → Remap) : (s.mapRemap f).intake = s.intake := rfl

@[simp] theorem State.mapRemap_exposure (s : State) (f : Remap → Remap) : (s.mapRemap f).exposure = s.exposure := rfl

@[simp] theorem State.mapRemap_motion (s : State) (f : Remap → Remap) : (s.mapRemap f).motion = s.motion := rfl

@[simp] theorem State.mapRemap_tracker (s : State) (f : Remap → Remap) : (s.mapRemap f).tracker = s.tracker := rfl

@[simp] theorem State.mapRemap_alert (s : State) (f : Remap → Remap) : (s.mapRemap f).alert = s.alert := rfl

@[simp] theorem State.mapRemap_arbiter (s : State) (f : Remap → Remap) : (s.mapRemap f).arbiter = s.arbiter := rfl

@[simp] theorem State.mapRemap_remap (s : State) (f : Remap → Remap) : (s.mapRemap f).remap = f s.remap := rfl

@[simp] theorem State.mapRemap_compositor (s : State) (f : Remap → Remap) : (s.mapRemap f).compositor = s.compositor := rfl

@[simp] theorem State.mapRemap_incident (s : State) (f : Remap → Remap) : (s.mapRemap f).incident = s.incident := rfl

@[simp] theorem State.mapRemap_ports (s : State) (f : Remap → Remap) : (s.mapRemap f).ports = s.ports := rfl

@[simp] theorem State.mapRemap_flash (s : State) (f : Remap → Remap) : (s.mapRemap f).flash = s.flash := rfl

@[simp] theorem State.mapRemap_draws (s : State) (f : Remap → Remap) : (s.mapRemap f).draws = s.draws := rfl

/-! ## mapCompositor -/

@[simp] theorem State.mapCompositor_pending (s : State) (f : Compositor → Compositor) : (s.mapCompositor f).pending = s.pending := rfl

@[simp] theorem State.mapCompositor_ms (s : State) (f : Compositor → Compositor) : (s.mapCompositor f).ms = s.ms := rfl

@[simp] theorem State.mapCompositor_frame (s : State) (f : Compositor → Compositor) : (s.mapCompositor f).frame = s.frame := rfl

@[simp] theorem State.mapCompositor_loader (s : State) (f : Compositor → Compositor) : (s.mapCompositor f).loader = s.loader := rfl

@[simp] theorem State.mapCompositor_loaded (s : State) (f : Compositor → Compositor) : (s.mapCompositor f).loaded = s.loaded := rfl

@[simp] theorem State.mapCompositor_intake (s : State) (f : Compositor → Compositor) : (s.mapCompositor f).intake = s.intake := rfl

@[simp] theorem State.mapCompositor_exposure (s : State) (f : Compositor → Compositor) : (s.mapCompositor f).exposure = s.exposure := rfl

@[simp] theorem State.mapCompositor_motion (s : State) (f : Compositor → Compositor) : (s.mapCompositor f).motion = s.motion := rfl

@[simp] theorem State.mapCompositor_tracker (s : State) (f : Compositor → Compositor) : (s.mapCompositor f).tracker = s.tracker := rfl

@[simp] theorem State.mapCompositor_alert (s : State) (f : Compositor → Compositor) : (s.mapCompositor f).alert = s.alert := rfl

@[simp] theorem State.mapCompositor_arbiter (s : State) (f : Compositor → Compositor) : (s.mapCompositor f).arbiter = s.arbiter := rfl

@[simp] theorem State.mapCompositor_remap (s : State) (f : Compositor → Compositor) : (s.mapCompositor f).remap = s.remap := rfl

@[simp] theorem State.mapCompositor_compositor (s : State) (f : Compositor → Compositor) : (s.mapCompositor f).compositor = f s.compositor := rfl

@[simp] theorem State.mapCompositor_incident (s : State) (f : Compositor → Compositor) : (s.mapCompositor f).incident = s.incident := rfl

@[simp] theorem State.mapCompositor_ports (s : State) (f : Compositor → Compositor) : (s.mapCompositor f).ports = s.ports := rfl

@[simp] theorem State.mapCompositor_flash (s : State) (f : Compositor → Compositor) : (s.mapCompositor f).flash = s.flash := rfl

@[simp] theorem State.mapCompositor_draws (s : State) (f : Compositor → Compositor) : (s.mapCompositor f).draws = s.draws := rfl

/-! ## mapIncident -/

@[simp] theorem State.mapIncident_pending (s : State) (f : Incident → Incident) : (s.mapIncident f).pending = s.pending := rfl

@[simp] theorem State.mapIncident_ms (s : State) (f : Incident → Incident) : (s.mapIncident f).ms = s.ms := rfl

@[simp] theorem State.mapIncident_frame (s : State) (f : Incident → Incident) : (s.mapIncident f).frame = s.frame := rfl

@[simp] theorem State.mapIncident_loader (s : State) (f : Incident → Incident) : (s.mapIncident f).loader = s.loader := rfl

@[simp] theorem State.mapIncident_loaded (s : State) (f : Incident → Incident) : (s.mapIncident f).loaded = s.loaded := rfl

@[simp] theorem State.mapIncident_intake (s : State) (f : Incident → Incident) : (s.mapIncident f).intake = s.intake := rfl

@[simp] theorem State.mapIncident_exposure (s : State) (f : Incident → Incident) : (s.mapIncident f).exposure = s.exposure := rfl

@[simp] theorem State.mapIncident_motion (s : State) (f : Incident → Incident) : (s.mapIncident f).motion = s.motion := rfl

@[simp] theorem State.mapIncident_tracker (s : State) (f : Incident → Incident) : (s.mapIncident f).tracker = s.tracker := rfl

@[simp] theorem State.mapIncident_alert (s : State) (f : Incident → Incident) : (s.mapIncident f).alert = s.alert := rfl

@[simp] theorem State.mapIncident_arbiter (s : State) (f : Incident → Incident) : (s.mapIncident f).arbiter = s.arbiter := rfl

@[simp] theorem State.mapIncident_remap (s : State) (f : Incident → Incident) : (s.mapIncident f).remap = s.remap := rfl

@[simp] theorem State.mapIncident_compositor (s : State) (f : Incident → Incident) : (s.mapIncident f).compositor = s.compositor := rfl

@[simp] theorem State.mapIncident_incident (s : State) (f : Incident → Incident) : (s.mapIncident f).incident = f s.incident := rfl

@[simp] theorem State.mapIncident_ports (s : State) (f : Incident → Incident) : (s.mapIncident f).ports = s.ports := rfl

@[simp] theorem State.mapIncident_flash (s : State) (f : Incident → Incident) : (s.mapIncident f).flash = s.flash := rfl

@[simp] theorem State.mapIncident_draws (s : State) (f : Incident → Incident) : (s.mapIncident f).draws = s.draws := rfl

/-! ## mapPorts -/

@[simp] theorem State.mapPorts_pending (s : State) (f : Ports → Ports) : (s.mapPorts f).pending = s.pending := rfl

@[simp] theorem State.mapPorts_ms (s : State) (f : Ports → Ports) : (s.mapPorts f).ms = s.ms := rfl

@[simp] theorem State.mapPorts_frame (s : State) (f : Ports → Ports) : (s.mapPorts f).frame = s.frame := rfl

@[simp] theorem State.mapPorts_loader (s : State) (f : Ports → Ports) : (s.mapPorts f).loader = s.loader := rfl

@[simp] theorem State.mapPorts_loaded (s : State) (f : Ports → Ports) : (s.mapPorts f).loaded = s.loaded := rfl

@[simp] theorem State.mapPorts_intake (s : State) (f : Ports → Ports) : (s.mapPorts f).intake = s.intake := rfl

@[simp] theorem State.mapPorts_exposure (s : State) (f : Ports → Ports) : (s.mapPorts f).exposure = s.exposure := rfl

@[simp] theorem State.mapPorts_motion (s : State) (f : Ports → Ports) : (s.mapPorts f).motion = s.motion := rfl

@[simp] theorem State.mapPorts_tracker (s : State) (f : Ports → Ports) : (s.mapPorts f).tracker = s.tracker := rfl

@[simp] theorem State.mapPorts_alert (s : State) (f : Ports → Ports) : (s.mapPorts f).alert = s.alert := rfl

@[simp] theorem State.mapPorts_arbiter (s : State) (f : Ports → Ports) : (s.mapPorts f).arbiter = s.arbiter := rfl

@[simp] theorem State.mapPorts_remap (s : State) (f : Ports → Ports) : (s.mapPorts f).remap = s.remap := rfl

@[simp] theorem State.mapPorts_compositor (s : State) (f : Ports → Ports) : (s.mapPorts f).compositor = s.compositor := rfl

@[simp] theorem State.mapPorts_incident (s : State) (f : Ports → Ports) : (s.mapPorts f).incident = s.incident := rfl

@[simp] theorem State.mapPorts_ports (s : State) (f : Ports → Ports) : (s.mapPorts f).ports = f s.ports := rfl

@[simp] theorem State.mapPorts_flash (s : State) (f : Ports → Ports) : (s.mapPorts f).flash = s.flash := rfl

@[simp] theorem State.mapPorts_draws (s : State) (f : Ports → Ports) : (s.mapPorts f).draws = s.draws := rfl

/-! ## mapFlash -/

@[simp] theorem State.mapFlash_pending (s : State) (f : Flash → Flash) : (s.mapFlash f).pending = s.pending := rfl

@[simp] theorem State.mapFlash_ms (s : State) (f : Flash → Flash) : (s.mapFlash f).ms = s.ms := rfl

@[simp] theorem State.mapFlash_frame (s : State) (f : Flash → Flash) : (s.mapFlash f).frame = s.frame := rfl

@[simp] theorem State.mapFlash_loader (s : State) (f : Flash → Flash) : (s.mapFlash f).loader = s.loader := rfl

@[simp] theorem State.mapFlash_loaded (s : State) (f : Flash → Flash) : (s.mapFlash f).loaded = s.loaded := rfl

@[simp] theorem State.mapFlash_intake (s : State) (f : Flash → Flash) : (s.mapFlash f).intake = s.intake := rfl

@[simp] theorem State.mapFlash_exposure (s : State) (f : Flash → Flash) : (s.mapFlash f).exposure = s.exposure := rfl

@[simp] theorem State.mapFlash_motion (s : State) (f : Flash → Flash) : (s.mapFlash f).motion = s.motion := rfl

@[simp] theorem State.mapFlash_tracker (s : State) (f : Flash → Flash) : (s.mapFlash f).tracker = s.tracker := rfl

@[simp] theorem State.mapFlash_alert (s : State) (f : Flash → Flash) : (s.mapFlash f).alert = s.alert := rfl

@[simp] theorem State.mapFlash_arbiter (s : State) (f : Flash → Flash) : (s.mapFlash f).arbiter = s.arbiter := rfl

@[simp] theorem State.mapFlash_remap (s : State) (f : Flash → Flash) : (s.mapFlash f).remap = s.remap := rfl

@[simp] theorem State.mapFlash_compositor (s : State) (f : Flash → Flash) : (s.mapFlash f).compositor = s.compositor := rfl

@[simp] theorem State.mapFlash_incident (s : State) (f : Flash → Flash) : (s.mapFlash f).incident = s.incident := rfl

@[simp] theorem State.mapFlash_ports (s : State) (f : Flash → Flash) : (s.mapFlash f).ports = s.ports := rfl

@[simp] theorem State.mapFlash_flash (s : State) (f : Flash → Flash) : (s.mapFlash f).flash = f s.flash := rfl

@[simp] theorem State.mapFlash_draws (s : State) (f : Flash → Flash) : (s.mapFlash f).draws = s.draws := rfl

/-! ## mapIntake -/

@[simp] theorem State.mapIntake_pending (s : State) (c : Camera) (f : CameraIntake → CameraIntake) :
    (s.mapIntake c f).pending = s.pending := rfl

@[simp] theorem State.mapIntake_ms (s : State) (c : Camera) (f : CameraIntake → CameraIntake) :
    (s.mapIntake c f).ms = s.ms := rfl

@[simp] theorem State.mapIntake_frame (s : State) (c : Camera) (f : CameraIntake → CameraIntake) :
    (s.mapIntake c f).frame = s.frame := rfl

@[simp] theorem State.mapIntake_loader (s : State) (c : Camera) (f : CameraIntake → CameraIntake) :
    (s.mapIntake c f).loader = s.loader := rfl

@[simp] theorem State.mapIntake_loaded (s : State) (c : Camera) (f : CameraIntake → CameraIntake) :
    (s.mapIntake c f).loaded = s.loaded := rfl

@[simp] theorem State.mapIntake_intake (s : State) (c : Camera) (f : CameraIntake → CameraIntake) :
    (s.mapIntake c f).intake = s.intake.set c (f (s.intake.get c)) := rfl

@[simp] theorem State.mapIntake_exposure (s : State) (c : Camera) (f : CameraIntake → CameraIntake) :
    (s.mapIntake c f).exposure = s.exposure := rfl

@[simp] theorem State.mapIntake_motion (s : State) (c : Camera) (f : CameraIntake → CameraIntake) :
    (s.mapIntake c f).motion = s.motion := rfl

@[simp] theorem State.mapIntake_tracker (s : State) (c : Camera) (f : CameraIntake → CameraIntake) :
    (s.mapIntake c f).tracker = s.tracker := rfl

@[simp] theorem State.mapIntake_alert (s : State) (c : Camera) (f : CameraIntake → CameraIntake) :
    (s.mapIntake c f).alert = s.alert := rfl

@[simp] theorem State.mapIntake_arbiter (s : State) (c : Camera) (f : CameraIntake → CameraIntake) :
    (s.mapIntake c f).arbiter = s.arbiter := rfl

@[simp] theorem State.mapIntake_remap (s : State) (c : Camera) (f : CameraIntake → CameraIntake) :
    (s.mapIntake c f).remap = s.remap := rfl

@[simp] theorem State.mapIntake_compositor (s : State) (c : Camera) (f : CameraIntake → CameraIntake) :
    (s.mapIntake c f).compositor = s.compositor := rfl

@[simp] theorem State.mapIntake_incident (s : State) (c : Camera) (f : CameraIntake → CameraIntake) :
    (s.mapIntake c f).incident = s.incident := rfl

@[simp] theorem State.mapIntake_ports (s : State) (c : Camera) (f : CameraIntake → CameraIntake) :
    (s.mapIntake c f).ports = s.ports := rfl

@[simp] theorem State.mapIntake_flash (s : State) (c : Camera) (f : CameraIntake → CameraIntake) :
    (s.mapIntake c f).flash = s.flash := rfl

@[simp] theorem State.mapIntake_draws (s : State) (c : Camera) (f : CameraIntake → CameraIntake) :
    (s.mapIntake c f).draws = s.draws := rfl

/-! ## mapExposure -/

@[simp] theorem State.mapExposure_pending (s : State) (c : Camera) (f : Exposure → Exposure) :
    (s.mapExposure c f).pending = s.pending := rfl

@[simp] theorem State.mapExposure_ms (s : State) (c : Camera) (f : Exposure → Exposure) :
    (s.mapExposure c f).ms = s.ms := rfl

@[simp] theorem State.mapExposure_frame (s : State) (c : Camera) (f : Exposure → Exposure) :
    (s.mapExposure c f).frame = s.frame := rfl

@[simp] theorem State.mapExposure_loader (s : State) (c : Camera) (f : Exposure → Exposure) :
    (s.mapExposure c f).loader = s.loader := rfl

@[simp] theorem State.mapExposure_loaded (s : State) (c : Camera) (f : Exposure → Exposure) :
    (s.mapExposure c f).loaded = s.loaded := rfl

@[simp] theorem State.mapExposure_intake (s : State) (c : Camera) (f : Exposure → Exposure) :
    (s.mapExposure c f).intake = s.intake := rfl

@[simp] theorem State.mapExposure_exposure (s : State) (c : Camera) (f : Exposure → Exposure) :
    (s.mapExposure c f).exposure = s.exposure.set c (f (s.exposure.get c)) := rfl

@[simp] theorem State.mapExposure_motion (s : State) (c : Camera) (f : Exposure → Exposure) :
    (s.mapExposure c f).motion = s.motion := rfl

@[simp] theorem State.mapExposure_tracker (s : State) (c : Camera) (f : Exposure → Exposure) :
    (s.mapExposure c f).tracker = s.tracker := rfl

@[simp] theorem State.mapExposure_alert (s : State) (c : Camera) (f : Exposure → Exposure) :
    (s.mapExposure c f).alert = s.alert := rfl

@[simp] theorem State.mapExposure_arbiter (s : State) (c : Camera) (f : Exposure → Exposure) :
    (s.mapExposure c f).arbiter = s.arbiter := rfl

@[simp] theorem State.mapExposure_remap (s : State) (c : Camera) (f : Exposure → Exposure) :
    (s.mapExposure c f).remap = s.remap := rfl

@[simp] theorem State.mapExposure_compositor (s : State) (c : Camera) (f : Exposure → Exposure) :
    (s.mapExposure c f).compositor = s.compositor := rfl

@[simp] theorem State.mapExposure_incident (s : State) (c : Camera) (f : Exposure → Exposure) :
    (s.mapExposure c f).incident = s.incident := rfl

@[simp] theorem State.mapExposure_ports (s : State) (c : Camera) (f : Exposure → Exposure) :
    (s.mapExposure c f).ports = s.ports := rfl

@[simp] theorem State.mapExposure_flash (s : State) (c : Camera) (f : Exposure → Exposure) :
    (s.mapExposure c f).flash = s.flash := rfl

@[simp] theorem State.mapExposure_draws (s : State) (c : Camera) (f : Exposure → Exposure) :
    (s.mapExposure c f).draws = s.draws := rfl

/-! ## tick -/

@[simp] theorem tick_pending (s : State) : (tick s).pending = s.pending := rfl

@[simp] theorem tick_ms (s : State) : (tick s).ms = s.ms + 1#32 := rfl

@[simp] theorem tick_frame (s : State) : (tick s).frame = s.frame := rfl

@[simp] theorem tick_loader (s : State) : (tick s).loader = s.loader := rfl

@[simp] theorem tick_loaded (s : State) : (tick s).loaded = s.loaded := rfl

@[simp] theorem tick_intake (s : State) : (tick s).intake = s.intake := rfl

@[simp] theorem tick_exposure (s : State) : (tick s).exposure = s.exposure := rfl

@[simp] theorem tick_motion (s : State) : (tick s).motion = s.motion := rfl

@[simp] theorem tick_tracker (s : State) : (tick s).tracker = s.tracker := rfl

@[simp] theorem tick_alert (s : State) : (tick s).alert = s.alert := rfl

@[simp] theorem tick_arbiter (s : State) : (tick s).arbiter = s.arbiter := rfl

@[simp] theorem tick_remap (s : State) : (tick s).remap = s.remap := rfl

@[simp] theorem tick_compositor (s : State) : (tick s).compositor = s.compositor := rfl

@[simp] theorem tick_incident (s : State) : (tick s).incident = s.incident := rfl

@[simp] theorem tick_ports (s : State) : (tick s).ports = s.ports := rfl

@[simp] theorem tick_flash (s : State) : (tick s).flash = s.flash := rfl

@[simp] theorem tick_draws (s : State) : (tick s).draws = s.draws := rfl

/-! ## mapPort -/

@[simp] theorem mapPort_pending (s : State) (p : Port) (f : CanPort → CanPort) :
    (mapPort p f s).pending = s.pending := rfl

@[simp] theorem mapPort_ms (s : State) (p : Port) (f : CanPort → CanPort) :
    (mapPort p f s).ms = s.ms := rfl

@[simp] theorem mapPort_frame (s : State) (p : Port) (f : CanPort → CanPort) :
    (mapPort p f s).frame = s.frame := rfl

@[simp] theorem mapPort_loader (s : State) (p : Port) (f : CanPort → CanPort) :
    (mapPort p f s).loader = s.loader := rfl

@[simp] theorem mapPort_loaded (s : State) (p : Port) (f : CanPort → CanPort) :
    (mapPort p f s).loaded = s.loaded := rfl

@[simp] theorem mapPort_intake (s : State) (p : Port) (f : CanPort → CanPort) :
    (mapPort p f s).intake = s.intake := rfl

@[simp] theorem mapPort_exposure (s : State) (p : Port) (f : CanPort → CanPort) :
    (mapPort p f s).exposure = s.exposure := rfl

@[simp] theorem mapPort_motion (s : State) (p : Port) (f : CanPort → CanPort) :
    (mapPort p f s).motion = s.motion := rfl

@[simp] theorem mapPort_tracker (s : State) (p : Port) (f : CanPort → CanPort) :
    (mapPort p f s).tracker = s.tracker := rfl

@[simp] theorem mapPort_alert (s : State) (p : Port) (f : CanPort → CanPort) :
    (mapPort p f s).alert = s.alert := rfl

@[simp] theorem mapPort_arbiter (s : State) (p : Port) (f : CanPort → CanPort) :
    (mapPort p f s).arbiter = s.arbiter := rfl

@[simp] theorem mapPort_remap (s : State) (p : Port) (f : CanPort → CanPort) :
    (mapPort p f s).remap = s.remap := rfl

@[simp] theorem mapPort_compositor (s : State) (p : Port) (f : CanPort → CanPort) :
    (mapPort p f s).compositor = s.compositor := rfl

@[simp] theorem mapPort_incident (s : State) (p : Port) (f : CanPort → CanPort) :
    (mapPort p f s).incident = s.incident := rfl

@[simp] theorem mapPort_ports (s : State) (p : Port) (f : CanPort → CanPort) :
    (mapPort p f s).ports = { s.ports with can := s.ports.can.set p (f (s.ports.can.get p)) } := rfl

@[simp] theorem mapPort_flash (s : State) (p : Port) (f : CanPort → CanPort) :
    (mapPort p f s).flash = s.flash := rfl

@[simp] theorem mapPort_draws (s : State) (p : Port) (f : CanPort → CanPort) :
    (mapPort p f s).draws = s.draws := rfl

end Sys2Proof.Machine
end

