-- ==== Sys2Proof/Laws/Keeps.lean ====
section
/-! SUPPORT. What the shared operations leave alone: one lemma per field for the smallest, one `KeepsBut` for each of the others. -/

namespace Sys2Proof.Machine

/-! ## raiseNotice -/

@[simp] theorem raiseNotice_pending (k : NoticeKind) (s : State) :
    (raiseNotice k s).pending = s.pending := rfl

@[simp] theorem raiseNotice_ms (k : NoticeKind) (s : State) :
    (raiseNotice k s).ms = s.ms := rfl

@[simp] theorem raiseNotice_frame (k : NoticeKind) (s : State) :
    (raiseNotice k s).frame = s.frame := rfl

@[simp] theorem raiseNotice_loader (k : NoticeKind) (s : State) :
    (raiseNotice k s).loader = s.loader := rfl

@[simp] theorem raiseNotice_loaded (k : NoticeKind) (s : State) :
    (raiseNotice k s).loaded = s.loaded := rfl

@[simp] theorem raiseNotice_intake (k : NoticeKind) (s : State) :
    (raiseNotice k s).intake = s.intake := rfl

@[simp] theorem raiseNotice_exposure (k : NoticeKind) (s : State) :
    (raiseNotice k s).exposure = s.exposure := rfl

@[simp] theorem raiseNotice_motion (k : NoticeKind) (s : State) :
    (raiseNotice k s).motion = s.motion := rfl

@[simp] theorem raiseNotice_tracker (k : NoticeKind) (s : State) :
    (raiseNotice k s).tracker = s.tracker := rfl

@[simp] theorem raiseNotice_alert (k : NoticeKind) (s : State) :
    (raiseNotice k s).alert = s.alert := rfl

@[simp] theorem raiseNotice_arbiter (k : NoticeKind) (s : State) :
    (raiseNotice k s).arbiter = s.arbiter := rfl

@[simp] theorem raiseNotice_remap (k : NoticeKind) (s : State) :
    (raiseNotice k s).remap = s.remap := rfl

@[simp] theorem raiseNotice_compositor (k : NoticeKind) (s : State) :
    (raiseNotice k s).compositor = s.compositor := rfl

@[simp] theorem raiseNotice_incident (k : NoticeKind) (s : State) :
    (raiseNotice k s).incident = s.incident := rfl

@[simp] theorem raiseNotice_flash (k : NoticeKind) (s : State) :
    (raiseNotice k s).flash = s.flash := rfl

@[simp] theorem raiseNotice_draws (k : NoticeKind) (s : State) :
    (raiseNotice k s).draws = s.draws := rfl

theorem raiseNotice_keeps (k : NoticeKind) (s : State) : KeepsBut [.ports] s (raiseNotice k s) := by
  intro b hb
  cases b <;> first | exact absurd (by decide) hb | simp [Block.same]

/-! ## rearm -/

@[simp] theorem rearm_pending (r : ArmSource → Bool) (s : State) :
    (rearm r s).pending = s.pending := by unfold rearm; split <;> rfl

@[simp] theorem rearm_ms (r : ArmSource → Bool) (s : State) :
    (rearm r s).ms = s.ms := by unfold rearm; split <;> rfl

@[simp] theorem rearm_frame (r : ArmSource → Bool) (s : State) :
    (rearm r s).frame = s.frame := by unfold rearm; split <;> rfl

@[simp] theorem rearm_loader (r : ArmSource → Bool) (s : State) :
    (rearm r s).loader = s.loader := by unfold rearm; split <;> rfl

@[simp] theorem rearm_loaded (r : ArmSource → Bool) (s : State) :
    (rearm r s).loaded = s.loaded := by unfold rearm; split <;> rfl

@[simp] theorem rearm_intake (r : ArmSource → Bool) (s : State) :
    (rearm r s).intake = s.intake := by unfold rearm; split <;> rfl

@[simp] theorem rearm_exposure (r : ArmSource → Bool) (s : State) :
    (rearm r s).exposure = s.exposure := by unfold rearm; split <;> rfl

@[simp] theorem rearm_motion (r : ArmSource → Bool) (s : State) :
    (rearm r s).motion = s.motion := by unfold rearm; split <;> rfl

@[simp] theorem rearm_tracker (r : ArmSource → Bool) (s : State) :
    (rearm r s).tracker = s.tracker := by unfold rearm; split <;> rfl

@[simp] theorem rearm_alert (r : ArmSource → Bool) (s : State) :
    (rearm r s).alert = s.alert := by unfold rearm; split <;> rfl

@[simp] theorem rearm_arbiter (r : ArmSource → Bool) (s : State) :
    (rearm r s).arbiter = s.arbiter := by unfold rearm; split <;> rfl

@[simp] theorem rearm_remap (r : ArmSource → Bool) (s : State) :
    (rearm r s).remap = s.remap := by unfold rearm; split <;> rfl

@[simp] theorem rearm_incident (r : ArmSource → Bool) (s : State) :
    (rearm r s).incident = s.incident := by unfold rearm; split <;> rfl

@[simp] theorem rearm_ports (r : ArmSource → Bool) (s : State) :
    (rearm r s).ports = s.ports := by unfold rearm; split <;> rfl

@[simp] theorem rearm_flash (r : ArmSource → Bool) (s : State) :
    (rearm r s).flash = s.flash := by unfold rearm; split <;> rfl

@[simp] theorem rearm_draws (r : ArmSource → Bool) (s : State) :
    (rearm r s).draws = s.draws := by unfold rearm; split <;> rfl

theorem rearm_keeps (r : ArmSource → Bool) (s : State) : KeepsBut [.compositor] s (rearm r s) := by
  intro b hb
  cases b <;> first | exact absurd (by decide) hb | simp [Block.same]

/-! ## decisionEvent -/

@[simp] theorem decisionEvent_pending (s : State) :
    (decisionEvent s).pending = s.pending := by unfold decisionEvent; split <;> rfl

@[simp] theorem decisionEvent_ms (s : State) :
    (decisionEvent s).ms = s.ms := by unfold decisionEvent; split <;> rfl

@[simp] theorem decisionEvent_frame (s : State) :
    (decisionEvent s).frame = s.frame := by unfold decisionEvent; split <;> rfl

@[simp] theorem decisionEvent_loader (s : State) :
    (decisionEvent s).loader = s.loader := by unfold decisionEvent; split <;> rfl

@[simp] theorem decisionEvent_loaded (s : State) :
    (decisionEvent s).loaded = s.loaded := by unfold decisionEvent; split <;> rfl

@[simp] theorem decisionEvent_intake (s : State) :
    (decisionEvent s).intake = s.intake := by unfold decisionEvent; split <;> rfl

@[simp] theorem decisionEvent_exposure (s : State) :
    (decisionEvent s).exposure = s.exposure := by unfold decisionEvent; split <;> rfl

@[simp] theorem decisionEvent_motion (s : State) :
    (decisionEvent s).motion = s.motion := by unfold decisionEvent; split <;> rfl

@[simp] theorem decisionEvent_tracker (s : State) :
    (decisionEvent s).tracker = s.tracker := by unfold decisionEvent; split <;> rfl

@[simp] theorem decisionEvent_alert (s : State) :
    (decisionEvent s).alert = s.alert := by unfold decisionEvent; split <;> rfl

@[simp] theorem decisionEvent_remap (s : State) :
    (decisionEvent s).remap = s.remap := by unfold decisionEvent; split <;> rfl

@[simp] theorem decisionEvent_compositor (s : State) :
    (decisionEvent s).compositor = s.compositor := by unfold decisionEvent; split <;> rfl

@[simp] theorem decisionEvent_incident (s : State) :
    (decisionEvent s).incident = s.incident := by unfold decisionEvent; split <;> rfl

@[simp] theorem decisionEvent_ports (s : State) :
    (decisionEvent s).ports = s.ports := by unfold decisionEvent; split <;> rfl

@[simp] theorem decisionEvent_flash (s : State) :
    (decisionEvent s).flash = s.flash := by unfold decisionEvent; split <;> rfl

@[simp] theorem decisionEvent_draws (s : State) :
    (decisionEvent s).draws = s.draws := by unfold decisionEvent; split <;> rfl

theorem decisionEvent_keeps (s : State) : KeepsBut [.arbiter] s (decisionEvent s) := by
  intro b hb
  cases b <;> first | exact absurd (by decide) hb | simp [Block.same]

/-! ## setClaim -/

@[simp] theorem setClaim_pending (i : Fin 4) (c : Option Claim) (s : State) :
    (setClaim i c s).pending = s.pending := rfl

@[simp] theorem setClaim_ms (i : Fin 4) (c : Option Claim) (s : State) :
    (setClaim i c s).ms = s.ms := rfl

@[simp] theorem setClaim_frame (i : Fin 4) (c : Option Claim) (s : State) :
    (setClaim i c s).frame = s.frame := rfl

@[simp] theorem setClaim_loader (i : Fin 4) (c : Option Claim) (s : State) :
    (setClaim i c s).loader = s.loader := rfl

@[simp] theorem setClaim_loaded (i : Fin 4) (c : Option Claim) (s : State) :
    (setClaim i c s).loaded = s.loaded := rfl

@[simp] theorem setClaim_intake (i : Fin 4) (c : Option Claim) (s : State) :
    (setClaim i c s).intake = s.intake := rfl

@[simp] theorem setClaim_exposure (i : Fin 4) (c : Option Claim) (s : State) :
    (setClaim i c s).exposure = s.exposure := rfl

@[simp] theorem setClaim_motion (i : Fin 4) (c : Option Claim) (s : State) :
    (setClaim i c s).motion = s.motion := rfl

@[simp] theorem setClaim_tracker (i : Fin 4) (c : Option Claim) (s : State) :
    (setClaim i c s).tracker = s.tracker := rfl

@[simp] theorem setClaim_alert (i : Fin 4) (c : Option Claim) (s : State) :
    (setClaim i c s).alert = s.alert := rfl

@[simp] theorem setClaim_remap (i : Fin 4) (c : Option Claim) (s : State) :
    (setClaim i c s).remap = s.remap := rfl

@[simp] theorem setClaim_compositor (i : Fin 4) (c : Option Claim) (s : State) :
    (setClaim i c s).compositor = s.compositor := rfl

@[simp] theorem setClaim_incident (i : Fin 4) (c : Option Claim) (s : State) :
    (setClaim i c s).incident = s.incident := rfl

@[simp] theorem setClaim_ports (i : Fin 4) (c : Option Claim) (s : State) :
    (setClaim i c s).ports = s.ports := rfl

@[simp] theorem setClaim_flash (i : Fin 4) (c : Option Claim) (s : State) :
    (setClaim i c s).flash = s.flash := rfl

@[simp] theorem setClaim_draws (i : Fin 4) (c : Option Claim) (s : State) :
    (setClaim i c s).draws = s.draws := rfl

theorem setClaim_keeps (i : Fin 4) (c : Option Claim) (s : State) : KeepsBut [.arbiter] s (setClaim i c s) := by
  intro b hb
  cases b <;> first | exact absurd (by decide) hb | simp [Block.same]

/-! ## changeClaim -/

@[simp] theorem changeClaim_pending (i : Fin 4) (c : Option Claim) (s : State) :
    (changeClaim i c s).pending = s.pending := by unfold changeClaim; simp

@[simp] theorem changeClaim_ms (i : Fin 4) (c : Option Claim) (s : State) :
    (changeClaim i c s).ms = s.ms := by unfold changeClaim; simp

@[simp] theorem changeClaim_frame (i : Fin 4) (c : Option Claim) (s : State) :
    (changeClaim i c s).frame = s.frame := by unfold changeClaim; simp

@[simp] theorem changeClaim_loader (i : Fin 4) (c : Option Claim) (s : State) :
    (changeClaim i c s).loader = s.loader := by unfold changeClaim; simp

@[simp] theorem changeClaim_loaded (i : Fin 4) (c : Option Claim) (s : State) :
    (changeClaim i c s).loaded = s.loaded := by unfold changeClaim; simp

@[simp] theorem changeClaim_intake (i : Fin 4) (c : Option Claim) (s : State) :
    (changeClaim i c s).intake = s.intake := by unfold changeClaim; simp

@[simp] theorem changeClaim_exposure (i : Fin 4) (c : Option Claim) (s : State) :
    (changeClaim i c s).exposure = s.exposure := by unfold changeClaim; simp

@[simp] theorem changeClaim_motion (i : Fin 4) (c : Option Claim) (s : State) :
    (changeClaim i c s).motion = s.motion := by unfold changeClaim; simp

@[simp] theorem changeClaim_tracker (i : Fin 4) (c : Option Claim) (s : State) :
    (changeClaim i c s).tracker = s.tracker := by unfold changeClaim; simp

@[simp] theorem changeClaim_alert (i : Fin 4) (c : Option Claim) (s : State) :
    (changeClaim i c s).alert = s.alert := by unfold changeClaim; simp

@[simp] theorem changeClaim_remap (i : Fin 4) (c : Option Claim) (s : State) :
    (changeClaim i c s).remap = s.remap := by unfold changeClaim; simp

@[simp] theorem changeClaim_compositor (i : Fin 4) (c : Option Claim) (s : State) :
    (changeClaim i c s).compositor = s.compositor := by unfold changeClaim; simp

@[simp] theorem changeClaim_incident (i : Fin 4) (c : Option Claim) (s : State) :
    (changeClaim i c s).incident = s.incident := by unfold changeClaim; simp

@[simp] theorem changeClaim_ports (i : Fin 4) (c : Option Claim) (s : State) :
    (changeClaim i c s).ports = s.ports := by unfold changeClaim; simp

@[simp] theorem changeClaim_flash (i : Fin 4) (c : Option Claim) (s : State) :
    (changeClaim i c s).flash = s.flash := by unfold changeClaim; simp

@[simp] theorem changeClaim_draws (i : Fin 4) (c : Option Claim) (s : State) :
    (changeClaim i c s).draws = s.draws := by unfold changeClaim; simp

theorem changeClaim_keeps (i : Fin 4) (c : Option Claim) (s : State) : KeepsBut [.arbiter] s (changeClaim i c s) := by
  intro b hb
  cases b <;> first | exact absurd (by decide) hb | simp [Block.same]

/-! ## oweBroadcasts -/

@[simp] theorem oweBroadcasts_pending (s : State) :
    (oweBroadcasts s).pending = s.pending := rfl

@[simp] theorem oweBroadcasts_ms (s : State) :
    (oweBroadcasts s).ms = s.ms := rfl

@[simp] theorem oweBroadcasts_frame (s : State) :
    (oweBroadcasts s).frame = s.frame := rfl

@[simp] theorem oweBroadcasts_loader (s : State) :
    (oweBroadcasts s).loader = s.loader := rfl

@[simp] theorem oweBroadcasts_loaded (s : State) :
    (oweBroadcasts s).loaded = s.loaded := rfl

@[simp] theorem oweBroadcasts_intake (s : State) :
    (oweBroadcasts s).intake = s.intake := rfl

@[simp] theorem oweBroadcasts_exposure (s : State) :
    (oweBroadcasts s).exposure = s.exposure := rfl

@[simp] theorem oweBroadcasts_motion (s : State) :
    (oweBroadcasts s).motion = s.motion := rfl

@[simp] theorem oweBroadcasts_tracker (s : State) :
    (oweBroadcasts s).tracker = s.tracker := rfl

@[simp] theorem oweBroadcasts_alert (s : State) :
    (oweBroadcasts s).alert = s.alert := rfl

@[simp] theorem oweBroadcasts_arbiter (s : State) :
    (oweBroadcasts s).arbiter = s.arbiter := rfl

@[simp] theorem oweBroadcasts_remap (s : State) :
    (oweBroadcasts s).remap = s.remap := rfl

@[simp] theorem oweBroadcasts_compositor (s : State) :
    (oweBroadcasts s).compositor = s.compositor := rfl

@[simp] theorem oweBroadcasts_incident (s : State) :
    (oweBroadcasts s).incident = s.incident := rfl

@[simp] theorem oweBroadcasts_flash (s : State) :
    (oweBroadcasts s).flash = s.flash := rfl

@[simp] theorem oweBroadcasts_draws (s : State) :
    (oweBroadcasts s).draws = s.draws := rfl

theorem oweBroadcasts_keeps (s : State) : KeepsBut [.ports] s (oweBroadcasts s) := by
  intro b hb
  cases b <;> first | exact absurd (by decide) hb | simp [Block.same]

/-! ## setTrigger -/

@[simp] theorem setTrigger_pending (i : Fin 4) (x : TriggerState) (s : State) :
    (setTrigger i x s).pending = s.pending := rfl

@[simp] theorem setTrigger_ms (i : Fin 4) (x : TriggerState) (s : State) :
    (setTrigger i x s).ms = s.ms := rfl

@[simp] theorem setTrigger_frame (i : Fin 4) (x : TriggerState) (s : State) :
    (setTrigger i x s).frame = s.frame := rfl

@[simp] theorem setTrigger_loader (i : Fin 4) (x : TriggerState) (s : State) :
    (setTrigger i x s).loader = s.loader := rfl

@[simp] theorem setTrigger_loaded (i : Fin 4) (x : TriggerState) (s : State) :
    (setTrigger i x s).loaded = s.loaded := rfl

@[simp] theorem setTrigger_intake (i : Fin 4) (x : TriggerState) (s : State) :
    (setTrigger i x s).intake = s.intake := rfl

@[simp] theorem setTrigger_exposure (i : Fin 4) (x : TriggerState) (s : State) :
    (setTrigger i x s).exposure = s.exposure := rfl

@[simp] theorem setTrigger_motion (i : Fin 4) (x : TriggerState) (s : State) :
    (setTrigger i x s).motion = s.motion := rfl

@[simp] theorem setTrigger_tracker (i : Fin 4) (x : TriggerState) (s : State) :
    (setTrigger i x s).tracker = s.tracker := rfl

@[simp] theorem setTrigger_alert (i : Fin 4) (x : TriggerState) (s : State) :
    (setTrigger i x s).alert = s.alert := rfl

@[simp] theorem setTrigger_arbiter (i : Fin 4) (x : TriggerState) (s : State) :
    (setTrigger i x s).arbiter = s.arbiter := rfl

@[simp] theorem setTrigger_remap (i : Fin 4) (x : TriggerState) (s : State) :
    (setTrigger i x s).remap = s.remap := rfl

@[simp] theorem setTrigger_compositor (i : Fin 4) (x : TriggerState) (s : State) :
    (setTrigger i x s).compositor = s.compositor := rfl

@[simp] theorem setTrigger_ports (i : Fin 4) (x : TriggerState) (s : State) :
    (setTrigger i x s).ports = s.ports := rfl

@[simp] theorem setTrigger_flash (i : Fin 4) (x : TriggerState) (s : State) :
    (setTrigger i x s).flash = s.flash := rfl

@[simp] theorem setTrigger_draws (i : Fin 4) (x : TriggerState) (s : State) :
    (setTrigger i x s).draws = s.draws := rfl

theorem setTrigger_keeps (i : Fin 4) (x : TriggerState) (s : State) : KeepsBut [.incident] s (setTrigger i x s) := by
  intro b hb
  cases b <;> first | exact absurd (by decide) hb | simp [Block.same]

/-! ## fireMark -/

@[simp] theorem fireMark_pending (m : MarkSource) (s : State) :
    (fireMark m s).pending = s.pending := by unfold fireMark joinMark dropMark; split <;> rfl

@[simp] theorem fireMark_ms (m : MarkSource) (s : State) :
    (fireMark m s).ms = s.ms := by unfold fireMark joinMark dropMark; split <;> rfl

@[simp] theorem fireMark_frame (m : MarkSource) (s : State) :
    (fireMark m s).frame = s.frame := by unfold fireMark joinMark dropMark; split <;> rfl

@[simp] theorem fireMark_loader (m : MarkSource) (s : State) :
    (fireMark m s).loader = s.loader := by unfold fireMark joinMark dropMark; split <;> rfl

@[simp] theorem fireMark_loaded (m : MarkSource) (s : State) :
    (fireMark m s).loaded = s.loaded := by unfold fireMark joinMark dropMark; split <;> rfl

@[simp] theorem fireMark_intake (m : MarkSource) (s : State) :
    (fireMark m s).intake = s.intake := by unfold fireMark joinMark dropMark; split <;> rfl

@[simp] theorem fireMark_exposure (m : MarkSource) (s : State) :
    (fireMark m s).exposure = s.exposure := by unfold fireMark joinMark dropMark; split <;> rfl

@[simp] theorem fireMark_motion (m : MarkSource) (s : State) :
    (fireMark m s).motion = s.motion := by unfold fireMark joinMark dropMark; split <;> rfl

@[simp] theorem fireMark_tracker (m : MarkSource) (s : State) :
    (fireMark m s).tracker = s.tracker := by unfold fireMark joinMark dropMark; split <;> rfl

@[simp] theorem fireMark_alert (m : MarkSource) (s : State) :
    (fireMark m s).alert = s.alert := by unfold fireMark joinMark dropMark; split <;> rfl

@[simp] theorem fireMark_arbiter (m : MarkSource) (s : State) :
    (fireMark m s).arbiter = s.arbiter := by unfold fireMark joinMark dropMark; split <;> rfl

@[simp] theorem fireMark_remap (m : MarkSource) (s : State) :
    (fireMark m s).remap = s.remap := by unfold fireMark joinMark dropMark; split <;> rfl

@[simp] theorem fireMark_compositor (m : MarkSource) (s : State) :
    (fireMark m s).compositor = s.compositor := by unfold fireMark joinMark dropMark; split <;> rfl

@[simp] theorem fireMark_flash (m : MarkSource) (s : State) :
    (fireMark m s).flash = s.flash := by unfold fireMark joinMark dropMark; split <;> rfl

@[simp] theorem fireMark_draws (m : MarkSource) (s : State) :
    (fireMark m s).draws = s.draws := by unfold fireMark joinMark dropMark; split <;> rfl

theorem fireMark_keeps (m : MarkSource) (s : State) : KeepsBut [.incident, .ports] s (fireMark m s) := by
  intro b hb
  cases b <;> first | exact absurd (by decide) hb | simp [Block.same]

/-! ## offerTo -/

@[simp] theorem offerTo_pending (r : EventRecord) (i : Fin 4) (s : State) :
    (offerTo r i s).pending = s.pending := by
  unfold offerTo fireTrigger
  dsimp only
  split
  · split
    · split <;> simp
    · rfl
  · rfl
  · rfl

@[simp] theorem offerTo_ms (r : EventRecord) (i : Fin 4) (s : State) :
    (offerTo r i s).ms = s.ms := by
  unfold offerTo fireTrigger
  dsimp only
  split
  · split
    · split <;> simp
    · rfl
  · rfl
  · rfl

@[simp] theorem offerTo_frame (r : EventRecord) (i : Fin 4) (s : State) :
    (offerTo r i s).frame = s.frame := by
  unfold offerTo fireTrigger
  dsimp only
  split
  · split
    · split <;> simp
    · rfl
  · rfl
  · rfl

@[simp] theorem offerTo_loader (r : EventRecord) (i : Fin 4) (s : State) :
    (offerTo r i s).loader = s.loader := by
  unfold offerTo fireTrigger
  dsimp only
  split
  · split
    · split <;> simp
    · rfl
  · rfl
  · rfl

@[simp] theorem offerTo_loaded (r : EventRecord) (i : Fin 4) (s : State) :
    (offerTo r i s).loaded = s.loaded := by
  unfold offerTo fireTrigger
  dsimp only
  split
  · split
    · split <;> simp
    · rfl
  · rfl
  · rfl

@[simp] theorem offerTo_intake (r : EventRecord) (i : Fin 4) (s : State) :
    (offerTo r i s).intake = s.intake := by
  unfold offerTo fireTrigger
  dsimp only
  split
  · split
    · split <;> simp
    · rfl
  · rfl
  · rfl

@[simp] theorem offerTo_exposure (r : EventRecord) (i : Fin 4) (s : State) :
    (offerTo r i s).exposure = s.exposure := by
  unfold offerTo fireTrigger
  dsimp only
  split
  · split
    · split <;> simp
    · rfl
  · rfl
  · rfl

@[simp] theorem offerTo_motion (r : EventRecord) (i : Fin 4) (s : State) :
    (offerTo r i s).motion = s.motion := by
  unfold offerTo fireTrigger
  dsimp only
  split
  · split
    · split <;> simp
    · rfl
  · rfl
  · rfl

@[simp] theorem offerTo_tracker (r : EventRecord) (i : Fin 4) (s : State) :
    (offerTo r i s).tracker = s.tracker := by
  unfold offerTo fireTrigger
  dsimp only
  split
  · split
    · split <;> simp
    · rfl
  · rfl
  · rfl

@[simp] theorem offerTo_alert (r : EventRecord) (i : Fin 4) (s : State) :
    (offerTo r i s).alert = s.alert := by
  unfold offerTo fireTrigger
  dsimp only
  split
  · split
    · split <;> simp
    · rfl
  · rfl
  · rfl

@[simp] theorem offerTo_arbiter (r : EventRecord) (i : Fin 4) (s : State) :
    (offerTo r i s).arbiter = s.arbiter := by
  unfold offerTo fireTrigger
  dsimp only
  split
  · split
    · split <;> simp
    · rfl
  · rfl
  · rfl

@[simp] theorem offerTo_remap (r : EventRecord) (i : Fin 4) (s : State) :
    (offerTo r i s).remap = s.remap := by
  unfold offerTo fireTrigger
  dsimp only
  split
  · split
    · split <;> simp
    · rfl
  · rfl
  · rfl

@[simp] theorem offerTo_compositor (r : EventRecord) (i : Fin 4) (s : State) :
    (offerTo r i s).compositor = s.compositor := by
  unfold offerTo fireTrigger
  dsimp only
  split
  · split
    · split <;> simp
    · rfl
  · rfl
  · rfl

@[simp] theorem offerTo_flash (r : EventRecord) (i : Fin 4) (s : State) :
    (offerTo r i s).flash = s.flash := by
  unfold offerTo fireTrigger
  dsimp only
  split
  · split
    · split <;> simp
    · rfl
  · rfl
  · rfl

@[simp] theorem offerTo_draws (r : EventRecord) (i : Fin 4) (s : State) :
    (offerTo r i s).draws = s.draws := by
  unfold offerTo fireTrigger
  dsimp only
  split
  · split
    · split <;> simp
    · rfl
  · rfl
  · rfl

theorem offerTo_keeps (r : EventRecord) (i : Fin 4) (s : State) : KeepsBut [.incident, .ports] s (offerTo r i s) := by
  intro b hb
  cases b <;> first | exact absurd (by decide) hb | simp [Block.same]

/-! ## offerRecord -/

@[simp] theorem offerRecord_pending (r : EventRecord) (s : State) :
    (offerRecord r s).pending = s.pending := by unfold offerRecord; split <;> simp

@[simp] theorem offerRecord_ms (r : EventRecord) (s : State) :
    (offerRecord r s).ms = s.ms := by unfold offerRecord; split <;> simp

@[simp] theorem offerRecord_frame (r : EventRecord) (s : State) :
    (offerRecord r s).frame = s.frame := by unfold offerRecord; split <;> simp

@[simp] theorem offerRecord_loader (r : EventRecord) (s : State) :
    (offerRecord r s).loader = s.loader := by unfold offerRecord; split <;> simp

@[simp] theorem offerRecord_loaded (r : EventRecord) (s : State) :
    (offerRecord r s).loaded = s.loaded := by unfold offerRecord; split <;> simp

@[simp] theorem offerRecord_intake (r : EventRecord) (s : State) :
    (offerRecord r s).intake = s.intake := by unfold offerRecord; split <;> simp

@[simp] theorem offerRecord_exposure (r : EventRecord) (s : State) :
    (offerRecord r s).exposure = s.exposure := by unfold offerRecord; split <;> simp

@[simp] theorem offerRecord_motion (r : EventRecord) (s : State) :
    (offerRecord r s).motion = s.motion := by unfold offerRecord; split <;> simp

@[simp] theorem offerRecord_tracker (r : EventRecord) (s : State) :
    (offerRecord r s).tracker = s.tracker := by unfold offerRecord; split <;> simp

@[simp] theorem offerRecord_alert (r : EventRecord) (s : State) :
    (offerRecord r s).alert = s.alert := by unfold offerRecord; split <;> simp

@[simp] theorem offerRecord_arbiter (r : EventRecord) (s : State) :
    (offerRecord r s).arbiter = s.arbiter := by unfold offerRecord; split <;> simp

@[simp] theorem offerRecord_remap (r : EventRecord) (s : State) :
    (offerRecord r s).remap = s.remap := by unfold offerRecord; split <;> simp

@[simp] theorem offerRecord_compositor (r : EventRecord) (s : State) :
    (offerRecord r s).compositor = s.compositor := by unfold offerRecord; split <;> simp

@[simp] theorem offerRecord_flash (r : EventRecord) (s : State) :
    (offerRecord r s).flash = s.flash := by unfold offerRecord; split <;> simp

@[simp] theorem offerRecord_draws (r : EventRecord) (s : State) :
    (offerRecord r s).draws = s.draws := by unfold offerRecord; split <;> simp

theorem offerRecord_keeps (r : EventRecord) (s : State) : KeepsBut [.incident, .ports] s (offerRecord r s) := by
  intro b hb
  cases b <;> first | exact absurd (by decide) hb | simp [Block.same]

/-! ## countTrigger -/

@[simp] theorem countTrigger_pending (i : Fin 4) (s : State) :
    (countTrigger i s).pending = s.pending := by unfold countTrigger fireTrigger; split <;> (try split) <;> simp

@[simp] theorem countTrigger_ms (i : Fin 4) (s : State) :
    (countTrigger i s).ms = s.ms := by unfold countTrigger fireTrigger; split <;> (try split) <;> simp

@[simp] theorem countTrigger_frame (i : Fin 4) (s : State) :
    (countTrigger i s).frame = s.frame := by unfold countTrigger fireTrigger; split <;> (try split) <;> simp

@[simp] theorem countTrigger_loader (i : Fin 4) (s : State) :
    (countTrigger i s).loader = s.loader := by unfold countTrigger fireTrigger; split <;> (try split) <;> simp

@[simp] theorem countTrigger_loaded (i : Fin 4) (s : State) :
    (countTrigger i s).loaded = s.loaded := by unfold countTrigger fireTrigger; split <;> (try split) <;> simp

@[simp] theorem countTrigger_intake (i : Fin 4) (s : State) :
    (countTrigger i s).intake = s.intake := by unfold countTrigger fireTrigger; split <;> (try split) <;> simp

@[simp] theorem countTrigger_exposure (i : Fin 4) (s : State) :
    (countTrigger i s).exposure = s.exposure := by unfold countTrigger fireTrigger; split <;> (try split) <;> simp

@[simp] theorem countTrigger_motion (i : Fin 4) (s : State) :
    (countTrigger i s).motion = s.motion := by unfold countTrigger fireTrigger; split <;> (try split) <;> simp

@[simp] theorem countTrigger_tracker (i : Fin 4) (s : State) :
    (countTrigger i s).tracker = s.tracker := by unfold countTrigger fireTrigger; split <;> (try split) <;> simp

@[simp] theorem countTrigger_alert (i : Fin 4) (s : State) :
    (countTrigger i s).alert = s.alert := by unfold countTrigger fireTrigger; split <;> (try split) <;> simp

@[simp] theorem countTrigger_arbiter (i : Fin 4) (s : State) :
    (countTrigger i s).arbiter = s.arbiter := by unfold countTrigger fireTrigger; split <;> (try split) <;> simp

@[simp] theorem countTrigger_remap (i : Fin 4) (s : State) :
    (countTrigger i s).remap = s.remap := by unfold countTrigger fireTrigger; split <;> (try split) <;> simp

@[simp] theorem countTrigger_compositor (i : Fin 4) (s : State) :
    (countTrigger i s).compositor = s.compositor := by unfold countTrigger fireTrigger; split <;> (try split) <;> simp

@[simp] theorem countTrigger_flash (i : Fin 4) (s : State) :
    (countTrigger i s).flash = s.flash := by unfold countTrigger fireTrigger; split <;> (try split) <;> simp

@[simp] theorem countTrigger_draws (i : Fin 4) (s : State) :
    (countTrigger i s).draws = s.draws := by unfold countTrigger fireTrigger; split <;> (try split) <;> simp

theorem countTrigger_keeps (i : Fin 4) (s : State) : KeepsBut [.incident, .ports] s (countTrigger i s) := by
  intro b hb
  cases b <;> first | exact absurd (by decide) hb | simp [Block.same]

/-! ## countStanding -/

@[simp] theorem countStanding_pending (b : TriggerState) (i : Fin 4) (s : State) :
    (countStanding b i s).pending = s.pending := by unfold countStanding; split <;> simp

@[simp] theorem countStanding_ms (b : TriggerState) (i : Fin 4) (s : State) :
    (countStanding b i s).ms = s.ms := by unfold countStanding; split <;> simp

@[simp] theorem countStanding_frame (b : TriggerState) (i : Fin 4) (s : State) :
    (countStanding b i s).frame = s.frame := by unfold countStanding; split <;> simp

@[simp] theorem countStanding_loader (b : TriggerState) (i : Fin 4) (s : State) :
    (countStanding b i s).loader = s.loader := by unfold countStanding; split <;> simp

@[simp] theorem countStanding_loaded (b : TriggerState) (i : Fin 4) (s : State) :
    (countStanding b i s).loaded = s.loaded := by unfold countStanding; split <;> simp

@[simp] theorem countStanding_intake (b : TriggerState) (i : Fin 4) (s : State) :
    (countStanding b i s).intake = s.intake := by unfold countStanding; split <;> simp

@[simp] theorem countStanding_exposure (b : TriggerState) (i : Fin 4) (s : State) :
    (countStanding b i s).exposure = s.exposure := by unfold countStanding; split <;> simp

@[simp] theorem countStanding_motion (b : TriggerState) (i : Fin 4) (s : State) :
    (countStanding b i s).motion = s.motion := by unfold countStanding; split <;> simp

@[simp] theorem countStanding_tracker (b : TriggerState) (i : Fin 4) (s : State) :
    (countStanding b i s).tracker = s.tracker := by unfold countStanding; split <;> simp

@[simp] theorem countStanding_alert (b : TriggerState) (i : Fin 4) (s : State) :
    (countStanding b i s).alert = s.alert := by unfold countStanding; split <;> simp

@[simp] theorem countStanding_arbiter (b : TriggerState) (i : Fin 4) (s : State) :
    (countStanding b i s).arbiter = s.arbiter := by unfold countStanding; split <;> simp

@[simp] theorem countStanding_remap (b : TriggerState) (i : Fin 4) (s : State) :
    (countStanding b i s).remap = s.remap := by unfold countStanding; split <;> simp

@[simp] theorem countStanding_compositor (b : TriggerState) (i : Fin 4) (s : State) :
    (countStanding b i s).compositor = s.compositor := by unfold countStanding; split <;> simp

@[simp] theorem countStanding_flash (b : TriggerState) (i : Fin 4) (s : State) :
    (countStanding b i s).flash = s.flash := by unfold countStanding; split <;> simp

@[simp] theorem countStanding_draws (b : TriggerState) (i : Fin 4) (s : State) :
    (countStanding b i s).draws = s.draws := by unfold countStanding; split <;> simp

theorem countStanding_keeps (b : TriggerState) (i : Fin 4) (s : State) : KeepsBut [.incident, .ports] s (countStanding b i s) := by
  intro b hb
  cases b <;> first | exact absurd (by decide) hb | simp [Block.same]

/-! ## countTriggers -/

@[simp] theorem countTriggers_pending (b : Quad TriggerState) (s : State) :
    (countTriggers b s).pending = s.pending := by unfold countTriggers; split <;> simp

@[simp] theorem countTriggers_ms (b : Quad TriggerState) (s : State) :
    (countTriggers b s).ms = s.ms := by unfold countTriggers; split <;> simp

@[simp] theorem countTriggers_frame (b : Quad TriggerState) (s : State) :
    (countTriggers b s).frame = s.frame := by unfold countTriggers; split <;> simp

@[simp] theorem countTriggers_loader (b : Quad TriggerState) (s : State) :
    (countTriggers b s).loader = s.loader := by unfold countTriggers; split <;> simp

@[simp] theorem countTriggers_loaded (b : Quad TriggerState) (s : State) :
    (countTriggers b s).loaded = s.loaded := by unfold countTriggers; split <;> simp

@[simp] theorem countTriggers_intake (b : Quad TriggerState) (s : State) :
    (countTriggers b s).intake = s.intake := by unfold countTriggers; split <;> simp

@[simp] theorem countTriggers_exposure (b : Quad TriggerState) (s : State) :
    (countTriggers b s).exposure = s.exposure := by unfold countTriggers; split <;> simp

@[simp] theorem countTriggers_motion (b : Quad TriggerState) (s : State) :
    (countTriggers b s).motion = s.motion := by unfold countTriggers; split <;> simp

@[simp] theorem countTriggers_tracker (b : Quad TriggerState) (s : State) :
    (countTriggers b s).tracker = s.tracker := by unfold countTriggers; split <;> simp

@[simp] theorem countTriggers_alert (b : Quad TriggerState) (s : State) :
    (countTriggers b s).alert = s.alert := by unfold countTriggers; split <;> simp

@[simp] theorem countTriggers_arbiter (b : Quad TriggerState) (s : State) :
    (countTriggers b s).arbiter = s.arbiter := by unfold countTriggers; split <;> simp

@[simp] theorem countTriggers_remap (b : Quad TriggerState) (s : State) :
    (countTriggers b s).remap = s.remap := by unfold countTriggers; split <;> simp

@[simp] theorem countTriggers_compositor (b : Quad TriggerState) (s : State) :
    (countTriggers b s).compositor = s.compositor := by unfold countTriggers; split <;> simp

@[simp] theorem countTriggers_flash (b : Quad TriggerState) (s : State) :
    (countTriggers b s).flash = s.flash := by unfold countTriggers; split <;> simp

@[simp] theorem countTriggers_draws (b : Quad TriggerState) (s : State) :
    (countTriggers b s).draws = s.draws := by unfold countTriggers; split <;> simp

theorem countTriggers_keeps (b : Quad TriggerState) (s : State) : KeepsBut [.incident, .ports] s (countTriggers b s) := by
  intro b hb
  cases b <;> first | exact absurd (by decide) hb | simp [Block.same]

/-! ## intakeNotice -/

@[simp] theorem intakeNotice_pending (k : NoticeKind) (s : State) :
    (intakeNotice k s).pending = s.pending := by unfold intakeNotice; split <;> rfl

@[simp] theorem intakeNotice_ms (k : NoticeKind) (s : State) :
    (intakeNotice k s).ms = s.ms := by unfold intakeNotice; split <;> rfl

@[simp] theorem intakeNotice_frame (k : NoticeKind) (s : State) :
    (intakeNotice k s).frame = s.frame := by unfold intakeNotice; split <;> rfl

@[simp] theorem intakeNotice_loader (k : NoticeKind) (s : State) :
    (intakeNotice k s).loader = s.loader := by unfold intakeNotice; split <;> rfl

@[simp] theorem intakeNotice_loaded (k : NoticeKind) (s : State) :
    (intakeNotice k s).loaded = s.loaded := by unfold intakeNotice; split <;> rfl

@[simp] theorem intakeNotice_intake (k : NoticeKind) (s : State) :
    (intakeNotice k s).intake = s.intake := by unfold intakeNotice; split <;> rfl

@[simp] theorem intakeNotice_exposure (k : NoticeKind) (s : State) :
    (intakeNotice k s).exposure = s.exposure := by unfold intakeNotice; split <;> rfl

@[simp] theorem intakeNotice_motion (k : NoticeKind) (s : State) :
    (intakeNotice k s).motion = s.motion := by unfold intakeNotice; split <;> rfl

@[simp] theorem intakeNotice_tracker (k : NoticeKind) (s : State) :
    (intakeNotice k s).tracker = s.tracker := by unfold intakeNotice; split <;> rfl

@[simp] theorem intakeNotice_alert (k : NoticeKind) (s : State) :
    (intakeNotice k s).alert = s.alert := by unfold intakeNotice; split <;> rfl

@[simp] theorem intakeNotice_arbiter (k : NoticeKind) (s : State) :
    (intakeNotice k s).arbiter = s.arbiter := by unfold intakeNotice; split <;> rfl

@[simp] theorem intakeNotice_remap (k : NoticeKind) (s : State) :
    (intakeNotice k s).remap = s.remap := by unfold intakeNotice; split <;> rfl

@[simp] theorem intakeNotice_compositor (k : NoticeKind) (s : State) :
    (intakeNotice k s).compositor = s.compositor := by unfold intakeNotice; split <;> rfl

@[simp] theorem intakeNotice_incident (k : NoticeKind) (s : State) :
    (intakeNotice k s).incident = s.incident := by unfold intakeNotice; split <;> rfl

@[simp] theorem intakeNotice_flash (k : NoticeKind) (s : State) :
    (intakeNotice k s).flash = s.flash := by unfold intakeNotice; split <;> rfl

@[simp] theorem intakeNotice_draws (k : NoticeKind) (s : State) :
    (intakeNotice k s).draws = s.draws := by unfold intakeNotice; split <;> rfl

theorem intakeNotice_keeps (k : NoticeKind) (s : State) : KeepsBut [.ports] s (intakeNotice k s) := by
  intro b hb
  cases b <;> first | exact absurd (by decide) hb | simp [Block.same]

/-! ## moveLink -/

@[simp] theorem moveLink_pending (c : Camera) (l : LinkState) (s : State) :
    (moveLink c l s).pending = s.pending := by unfold moveLink; split <;> simp

@[simp] theorem moveLink_ms (c : Camera) (l : LinkState) (s : State) :
    (moveLink c l s).ms = s.ms := by unfold moveLink; split <;> simp

@[simp] theorem moveLink_frame (c : Camera) (l : LinkState) (s : State) :
    (moveLink c l s).frame = s.frame := by unfold moveLink; split <;> simp

@[simp] theorem moveLink_loader (c : Camera) (l : LinkState) (s : State) :
    (moveLink c l s).loader = s.loader := by unfold moveLink; split <;> simp

@[simp] theorem moveLink_loaded (c : Camera) (l : LinkState) (s : State) :
    (moveLink c l s).loaded = s.loaded := by unfold moveLink; split <;> simp

@[simp] theorem moveLink_exposure (c : Camera) (l : LinkState) (s : State) :
    (moveLink c l s).exposure = s.exposure := by unfold moveLink; split <;> simp

@[simp] theorem moveLink_motion (c : Camera) (l : LinkState) (s : State) :
    (moveLink c l s).motion = s.motion := by unfold moveLink; split <;> simp

@[simp] theorem moveLink_tracker (c : Camera) (l : LinkState) (s : State) :
    (moveLink c l s).tracker = s.tracker := by unfold moveLink; split <;> simp

@[simp] theorem moveLink_alert (c : Camera) (l : LinkState) (s : State) :
    (moveLink c l s).alert = s.alert := by unfold moveLink; split <;> simp

@[simp] theorem moveLink_arbiter (c : Camera) (l : LinkState) (s : State) :
    (moveLink c l s).arbiter = s.arbiter := by unfold moveLink; split <;> simp

@[simp] theorem moveLink_remap (c : Camera) (l : LinkState) (s : State) :
    (moveLink c l s).remap = s.remap := by unfold moveLink; split <;> simp

@[simp] theorem moveLink_flash (c : Camera) (l : LinkState) (s : State) :
    (moveLink c l s).flash = s.flash := by unfold moveLink; split <;> simp

@[simp] theorem moveLink_draws (c : Camera) (l : LinkState) (s : State) :
    (moveLink c l s).draws = s.draws := by unfold moveLink; split <;> simp

theorem moveLink_keeps (c : Camera) (l : LinkState) (s : State) : KeepsBut [.intake, .compositor, .incident, .ports] s (moveLink c l s) := by
  intro b hb
  cases b <;> first | exact absurd (by decide) hb | simp [Block.same]

/-! ## respond -/

@[simp] theorem respond_pending (m : Master) (r : Request) (code : ResponseCode) (l : List Byte) (x : FrameRole) (s : State) :
    (respond m r code l x s).pending = s.pending := by cases m <;> rfl

@[simp] theorem respond_ms (m : Master) (r : Request) (code : ResponseCode) (l : List Byte) (x : FrameRole) (s : State) :
    (respond m r code l x s).ms = s.ms := by cases m <;> rfl

@[simp] theorem respond_frame (m : Master) (r : Request) (code : ResponseCode) (l : List Byte) (x : FrameRole) (s : State) :
    (respond m r code l x s).frame = s.frame := by cases m <;> rfl

@[simp] theorem respond_loader (m : Master) (r : Request) (code : ResponseCode) (l : List Byte) (x : FrameRole) (s : State) :
    (respond m r code l x s).loader = s.loader := by cases m <;> rfl

@[simp] theorem respond_loaded (m : Master) (r : Request) (code : ResponseCode) (l : List Byte) (x : FrameRole) (s : State) :
    (respond m r code l x s).loaded = s.loaded := by cases m <;> rfl

@[simp] theorem respond_intake (m : Master) (r : Request) (code : ResponseCode) (l : List Byte) (x : FrameRole) (s : State) :
    (respond m r code l x s).intake = s.intake := by cases m <;> rfl

@[simp] theorem respond_exposure (m : Master) (r : Request) (code : ResponseCode) (l : List Byte) (x : FrameRole) (s : State) :
    (respond m r code l x s).exposure = s.exposure := by cases m <;> rfl

@[simp] theorem respond_motion (m : Master) (r : Request) (code : ResponseCode) (l : List Byte) (x : FrameRole) (s : State) :
    (respond m r code l x s).motion = s.motion := by cases m <;> rfl

@[simp] theorem respond_tracker (m : Master) (r : Request) (code : ResponseCode) (l : List Byte) (x : FrameRole) (s : State) :
    (respond m r code l x s).tracker = s.tracker := by cases m <;> rfl

@[simp] theorem respond_alert (m : Master) (r : Request) (code : ResponseCode) (l : List Byte) (x : FrameRole) (s : State) :
    (respond m r code l x s).alert = s.alert := by cases m <;> rfl

@[simp] theorem respond_arbiter (m : Master) (r : Request) (code : ResponseCode) (l : List Byte) (x : FrameRole) (s : State) :
    (respond m r code l x s).arbiter = s.arbiter := by cases m <;> rfl

@[simp] theorem respond_remap (m : Master) (r : Request) (code : ResponseCode) (l : List Byte) (x : FrameRole) (s : State) :
    (respond m r code l x s).remap = s.remap := by cases m <;> rfl

@[simp] theorem respond_compositor (m : Master) (r : Request) (code : ResponseCode) (l : List Byte) (x : FrameRole) (s : State) :
    (respond m r code l x s).compositor = s.compositor := by cases m <;> rfl

@[simp] theorem respond_incident (m : Master) (r : Request) (code : ResponseCode) (l : List Byte) (x : FrameRole) (s : State) :
    (respond m r code l x s).incident = s.incident := by cases m <;> rfl

@[simp] theorem respond_flash (m : Master) (r : Request) (code : ResponseCode) (l : List Byte) (x : FrameRole) (s : State) :
    (respond m r code l x s).flash = s.flash := by cases m <;> rfl

@[simp] theorem respond_draws (m : Master) (r : Request) (code : ResponseCode) (l : List Byte) (x : FrameRole) (s : State) :
    (respond m r code l x s).draws = s.draws := by cases m <;> rfl

theorem respond_keeps (m : Master) (r : Request) (code : ResponseCode) (l : List Byte) (x : FrameRole) (s : State) : KeepsBut [.ports] s (respond m r code l x s) := by
  intro b hb
  cases b <;> first | exact absurd (by decide) hb | simp [Block.same]

/-! ## setQueue -/

@[simp] theorem setQueue_pending (m : Master) (q : List Request) (s : State) :
    (setQueue m q s).pending = s.pending := rfl

@[simp] theorem setQueue_ms (m : Master) (q : List Request) (s : State) :
    (setQueue m q s).ms = s.ms := rfl

@[simp] theorem setQueue_frame (m : Master) (q : List Request) (s : State) :
    (setQueue m q s).frame = s.frame := rfl

@[simp] theorem setQueue_loader (m : Master) (q : List Request) (s : State) :
    (setQueue m q s).loader = s.loader := rfl

@[simp] theorem setQueue_loaded (m : Master) (q : List Request) (s : State) :
    (setQueue m q s).loaded = s.loaded := rfl

@[simp] theorem setQueue_intake (m : Master) (q : List Request) (s : State) :
    (setQueue m q s).intake = s.intake := rfl

@[simp] theorem setQueue_exposure (m : Master) (q : List Request) (s : State) :
    (setQueue m q s).exposure = s.exposure := rfl

@[simp] theorem setQueue_motion (m : Master) (q : List Request) (s : State) :
    (setQueue m q s).motion = s.motion := rfl

@[simp] theorem setQueue_tracker (m : Master) (q : List Request) (s : State) :
    (setQueue m q s).tracker = s.tracker := rfl

@[simp] theorem setQueue_alert (m : Master) (q : List Request) (s : State) :
    (setQueue m q s).alert = s.alert := rfl

@[simp] theorem setQueue_arbiter (m : Master) (q : List Request) (s : State) :
    (setQueue m q s).arbiter = s.arbiter := rfl

@[simp] theorem setQueue_remap (m : Master) (q : List Request) (s : State) :
    (setQueue m q s).remap = s.remap := rfl

@[simp] theorem setQueue_compositor (m : Master) (q : List Request) (s : State) :
    (setQueue m q s).compositor = s.compositor := rfl

@[simp] theorem setQueue_incident (m : Master) (q : List Request) (s : State) :
    (setQueue m q s).incident = s.incident := rfl

@[simp] theorem setQueue_flash (m : Master) (q : List Request) (s : State) :
    (setQueue m q s).flash = s.flash := rfl

@[simp] theorem setQueue_draws (m : Master) (q : List Request) (s : State) :
    (setQueue m q s).draws = s.draws := rfl

theorem setQueue_keeps (m : Master) (q : List Request) (s : State) : KeepsBut [.ports] s (setQueue m q s) := by
  intro b hb
  cases b <;> first | exact absurd (by decide) hb | simp [Block.same]

/-! ## noticeIf -/

@[simp] theorem noticeIf_pending (b : Bool) (s : State) :
    (noticeIf b s).pending = s.pending := by cases b <;> rfl

@[simp] theorem noticeIf_ms (b : Bool) (s : State) :
    (noticeIf b s).ms = s.ms := by cases b <;> rfl

@[simp] theorem noticeIf_frame (b : Bool) (s : State) :
    (noticeIf b s).frame = s.frame := by cases b <;> rfl

@[simp] theorem noticeIf_loader (b : Bool) (s : State) :
    (noticeIf b s).loader = s.loader := by cases b <;> rfl

@[simp] theorem noticeIf_loaded (b : Bool) (s : State) :
    (noticeIf b s).loaded = s.loaded := by cases b <;> rfl

@[simp] theorem noticeIf_intake (b : Bool) (s : State) :
    (noticeIf b s).intake = s.intake := by cases b <;> rfl

@[simp] theorem noticeIf_exposure (b : Bool) (s : State) :
    (noticeIf b s).exposure = s.exposure := by cases b <;> rfl

@[simp] theorem noticeIf_motion (b : Bool) (s : State) :
    (noticeIf b s).motion = s.motion := by cases b <;> rfl

@[simp] theorem noticeIf_tracker (b : Bool) (s : State) :
    (noticeIf b s).tracker = s.tracker := by cases b <;> rfl

@[simp] theorem noticeIf_alert (b : Bool) (s : State) :
    (noticeIf b s).alert = s.alert := by cases b <;> rfl

@[simp] theorem noticeIf_arbiter (b : Bool) (s : State) :
    (noticeIf b s).arbiter = s.arbiter := by cases b <;> rfl

@[simp] theorem noticeIf_remap (b : Bool) (s : State) :
    (noticeIf b s).remap = s.remap := by cases b <;> rfl

@[simp] theorem noticeIf_compositor (b : Bool) (s : State) :
    (noticeIf b s).compositor = s.compositor := by cases b <;> rfl

@[simp] theorem noticeIf_incident (b : Bool) (s : State) :
    (noticeIf b s).incident = s.incident := by cases b <;> rfl

@[simp] theorem noticeIf_flash (b : Bool) (s : State) :
    (noticeIf b s).flash = s.flash := by cases b <;> rfl

@[simp] theorem noticeIf_draws (b : Bool) (s : State) :
    (noticeIf b s).draws = s.draws := by cases b <;> rfl

theorem noticeIf_keeps (b : Bool) (s : State) : KeepsBut [.ports] s (noticeIf b s) := by
  intro b hb
  cases b <;> first | exact absurd (by decide) hb | simp [Block.same]

/-! ## setWork -/

@[simp] theorem setWork_pending (w : Work) (s : State) :
    (setWork w s).pending = s.pending := rfl

@[simp] theorem setWork_ms (w : Work) (s : State) :
    (setWork w s).ms = s.ms := rfl

@[simp] theorem setWork_frame (w : Work) (s : State) :
    (setWork w s).frame = s.frame := rfl

@[simp] theorem setWork_loader (w : Work) (s : State) :
    (setWork w s).loader = s.loader := rfl

@[simp] theorem setWork_loaded (w : Work) (s : State) :
    (setWork w s).loaded = s.loaded := rfl

@[simp] theorem setWork_intake (w : Work) (s : State) :
    (setWork w s).intake = s.intake := rfl

@[simp] theorem setWork_exposure (w : Work) (s : State) :
    (setWork w s).exposure = s.exposure := rfl

@[simp] theorem setWork_motion (w : Work) (s : State) :
    (setWork w s).motion = s.motion := rfl

@[simp] theorem setWork_tracker (w : Work) (s : State) :
    (setWork w s).tracker = s.tracker := rfl

@[simp] theorem setWork_alert (w : Work) (s : State) :
    (setWork w s).alert = s.alert := rfl

@[simp] theorem setWork_arbiter (w : Work) (s : State) :
    (setWork w s).arbiter = s.arbiter := rfl

@[simp] theorem setWork_remap (w : Work) (s : State) :
    (setWork w s).remap = s.remap := rfl

@[simp] theorem setWork_incident (w : Work) (s : State) :
    (setWork w s).incident = s.incident := rfl

@[simp] theorem setWork_ports (w : Work) (s : State) :
    (setWork w s).ports = s.ports := rfl

@[simp] theorem setWork_flash (w : Work) (s : State) :
    (setWork w s).flash = s.flash := rfl

@[simp] theorem setWork_draws (w : Work) (s : State) :
    (setWork w s).draws = s.draws := rfl

theorem setWork_keeps (w : Work) (s : State) : KeepsBut [.compositor] s (setWork w s) := by
  intro b hb
  cases b <;> first | exact absurd (by decide) hb | simp [Block.same]

end Sys2Proof.Machine
end

