-- ==== Sys2Proof/Laws/Memory.lean ====
section
/-! SUPPORT. The laws of memory: what a read gives after a write, and that every write keeps the canonical form. -/

namespace Sys2Proof.Machine

variable {α : Type} [DecidableEq α] {d : α}

theorem sparseWfFrom_mono {lo lo' : Nat} {m : List (Nat × α)} (h : sparseWfFrom d lo m = true) (hl : lo' ≤ lo) :
    sparseWfFrom d lo' m = true := by
  cases m with
  | nil => rfl
  | cons p m =>
    obtain ⟨k, v⟩ := p
    simp only [sparseWfFrom, Bool.and_eq_true, decide_eq_true_eq] at h ⊢
    exact ⟨⟨by omega, h.1.2⟩, h.2⟩

/-- An address below the form's bound reads as unlisted. -/
theorem sparseRead_below {lo a : Nat} {m : List (Nat × α)} (h : sparseWfFrom d lo m = true) (ha : a < lo) :
    sparseRead d m a = d := by
  induction m generalizing lo with
  | nil => rfl
  | cons p m ih =>
    obtain ⟨k, v⟩ := p
    simp only [sparseWfFrom, Bool.and_eq_true, decide_eq_true_eq] at h
    have hk : k ≠ a := by omega
    simp only [sparseRead, if_neg hk]
    exact ih h.2 (by omega)

theorem sparseWrite_wfFrom {lo a : Nat} {v : α} {m : List (Nat × α)} (h : sparseWfFrom d lo m = true) (ha : lo ≤ a) :
    sparseWfFrom d lo (sparseWrite d m a v) = true := by
  induction m generalizing lo with
  | nil =>
    by_cases hv : v = d
    · simp [sparseWrite, hv, sparseWfFrom]
    · simp [sparseWrite, hv, sparseWfFrom, ha]
  | cons p m ih =>
    obtain ⟨k, w⟩ := p
    simp only [sparseWfFrom, Bool.and_eq_true, decide_eq_true_eq] at h
    obtain ⟨⟨hk, hw⟩, hm⟩ := h
    unfold sparseWrite
    by_cases h1 : a < k
    · by_cases hv : v = d
      · simp [h1, hv, sparseWfFrom, hk, hw, hm]
      · simp [h1, hv, sparseWfFrom, ha, hw, hm] <;> omega
    · by_cases h2 : a = k
      · subst h2
        by_cases hv : v = d
        · simp [hv, sparseWfFrom_mono hm (by omega : lo ≤ a + 1)]
        · simp [hv, sparseWfFrom, hk, hm]
      · simp [h1, h2, sparseWfFrom, hk, hw, ih hm (by omega)]

/-- A write keeps the canonical form. -/
theorem sparseWrite_wf {a : Nat} {v : α} {m : List (Nat × α)} (h : sparseWf d m = true) :
    sparseWf d (sparseWrite d m a v) = true := sparseWrite_wfFrom h (Nat.zero_le a)

theorem sparseRead_writeFrom {lo a b : Nat} {v : α} {m : List (Nat × α)} (h : sparseWfFrom d lo m = true) :
    sparseRead d (sparseWrite d m a v) b = if b = a then v else sparseRead d m b := by
  induction m generalizing lo with
  | nil =>
    by_cases hv : v = d
    · simp [sparseWrite, hv, sparseRead]
    · by_cases hb : b = a
      · simp [sparseWrite, hv, sparseRead, hb]
      · simp [sparseWrite, hv, sparseRead, hb, Ne.symm hb]
  | cons p m ih =>
    obtain ⟨k, w⟩ := p
    simp only [sparseWfFrom, Bool.and_eq_true, decide_eq_true_eq] at h
    obtain ⟨⟨hk, hw⟩, hm⟩ := h
    unfold sparseWrite
    by_cases h1 : a < k
    · by_cases hv : v = d
      · simp only [h1, hv, if_true]
        by_cases hb : b = a
        · subst hb
          have hkb : k ≠ b := by omega
          simp [sparseRead, hkb, sparseRead_below (a := b) hm (by omega)]
        · simp [hb]
      · simp only [h1, hv, if_true, if_false, sparseRead]
        by_cases hb : b = a
        · simp [hb]
        · simp [hb, Ne.symm hb]
    · by_cases h2 : a = k
      · subst h2
        by_cases hv : v = d
        · simp only [hv, if_true, sparseRead]
          by_cases hb : b = a
          · subst hb; simp [sparseRead_below (a := b) hm (by omega)]
          · simp [hb, Ne.symm hb]
        · simp only [hv, if_false]
          by_cases hb : b = a
          · simp [hb, sparseRead]
          · simp [hb, sparseRead, Ne.symm hb]
      · simp only [h1, h2, if_false, sparseRead, ih hm]
        by_cases hb : b = a
        · subst hb
          have hkb : k ≠ b := by omega
          simp [hkb]
        · simp [hb]

/-- A read after a write gives the value written at its address and leaves every other address alone. -/
theorem sparseRead_write {a b : Nat} {v : α} {m : List (Nat × α)} (h : sparseWf d m = true) :
    sparseRead d (sparseWrite d m a v) b = if b = a then v else sparseRead d m b := sparseRead_writeFrom h

/-- The value that a list of writes leaves at an address, if it writes there. -/
def lastWrite : List (Nat × α) → Nat → Option α
  | [], _ => none
  | (k, v) :: l, a =>
    match lastWrite l a with
    | some x => some x
    | none => if k = a then some v else none

omit [DecidableEq α] in
theorem lastWrite_below {lo a : Nat} {l : List (Nat × α)} (h : risingFrom lo l = true) (ha : a < lo) :
    lastWrite l a = none := by
  induction l generalizing lo with
  | nil => rfl
  | cons p l ih =>
    obtain ⟨k, v⟩ := p
    simp only [risingFrom, Bool.and_eq_true, decide_eq_true_eq] at h
    have hk : k ≠ a := by omega
    simp [lastWrite, ih h.2 (by omega), hk]

omit [DecidableEq α] in
theorem sparseRead_append_left {m n : List (Nat × α)} {a : Nat} (h : ∀ p ∈ m, p.1 ≠ a) :
    sparseRead d (m ++ n) a = sparseRead d n a := by
  induction m with
  | nil => rfl
  | cons p m ih =>
    obtain ⟨k, v⟩ := p
    have hk : k ≠ a := h (k, v) (by simp)
    simp only [List.cons_append, sparseRead, if_neg hk]
    exact ih fun q hq => h q (by simp [hq])

theorem sparseWfFrom_mem {lo : Nat} {m : List (Nat × α)} (h : sparseWfFrom d lo m = true) :
    ∀ p ∈ m, lo ≤ p.1 := by
  induction m generalizing lo with
  | nil => simp
  | cons p m ih =>
    obtain ⟨k, v⟩ := p
    simp only [sparseWfFrom, Bool.and_eq_true, decide_eq_true_eq] at h
    intro q hq
    rcases List.mem_cons.mp hq with rfl | hq
    · exact h.1.1
    · have := ih h.2 q hq; omega

/-- Below `a`, the head part of a memory reads as the memory. -/
theorem sparseRead_takeWhile {lo a b : Nat} {m : List (Nat × α)} (h : sparseWfFrom d lo m = true) (hb : b < a) :
    sparseRead d (m.takeWhile fun p => decide (p.1 < a)) b = sparseRead d m b := by
  induction m generalizing lo with
  | nil => rfl
  | cons p m ih =>
    obtain ⟨k, v⟩ := p
    simp only [sparseWfFrom, Bool.and_eq_true, decide_eq_true_eq] at h
    by_cases hk : k < a
    · simp only [List.takeWhile_cons, hk, decide_true, if_true, sparseRead, ih h.2]
    · have hkb : k ≠ b := by omega
      simp only [List.takeWhile_cons, hk, decide_false, Bool.false_eq_true, if_false, sparseRead, if_neg hkb]
      exact (sparseRead_below h.2 (by omega)).symm

/-- From `a` on, the tail part of a memory reads as the memory. -/
theorem sparseRead_dropWhile {lo a b : Nat} {m : List (Nat × α)} (h : sparseWfFrom d lo m = true) (hb : a < b) :
    sparseRead d (m.dropWhile fun p => decide (p.1 ≤ a)) b = sparseRead d m b := by
  induction m generalizing lo with
  | nil => rfl
  | cons p m ih =>
    obtain ⟨k, v⟩ := p
    simp only [sparseWfFrom, Bool.and_eq_true, decide_eq_true_eq] at h
    by_cases hk : k ≤ a
    · have hkb : k ≠ b := by omega
      simp only [List.dropWhile_cons, hk, decide_true, if_true, sparseRead, if_neg hkb, ih h.2]
    · simp only [List.dropWhile_cons, hk, decide_false, Bool.false_eq_true, if_false]

theorem dropWhile_wf {lo a : Nat} {m : List (Nat × α)} (h : sparseWfFrom d lo m = true) :
    sparseWfFrom d (a + 1) (m.dropWhile fun p => decide (p.1 ≤ a)) = true := by
  induction m generalizing lo with
  | nil => rfl
  | cons p m ih =>
    obtain ⟨k, v⟩ := p
    simp only [sparseWfFrom, Bool.and_eq_true, decide_eq_true_eq] at h
    by_cases hk : k ≤ a
    · simpa only [List.dropWhile_cons, hk, decide_true, if_true] using ih h.2
    · simp only [List.dropWhile_cons, hk, decide_false, Bool.false_eq_true, if_false, sparseWfFrom,
        Bool.and_eq_true, decide_eq_true_eq]
      exact ⟨⟨by omega, h.1.2⟩, h.2⟩

theorem takeWhile_append_wf {lo a : Nat} {m n : List (Nat × α)} (h : sparseWfFrom d lo m = true)
    (hn : sparseWfFrom d a n = true) (ha : lo ≤ a) :
    sparseWfFrom d lo (m.takeWhile (fun p => decide (p.1 < a)) ++ n) = true := by
  induction m generalizing lo with
  | nil => exact sparseWfFrom_mono hn ha
  | cons p m ih =>
    obtain ⟨k, v⟩ := p
    simp only [sparseWfFrom, Bool.and_eq_true, decide_eq_true_eq] at h
    by_cases hk : k < a
    · simp only [List.takeWhile_cons, hk, decide_true, if_true, List.cons_append, sparseWfFrom, Bool.and_eq_true,
        decide_eq_true_eq]
      exact ⟨h.1, ih h.2 (by omega)⟩
    · simpa only [List.takeWhile_cons, hk, decide_false, Bool.false_eq_true, if_false, List.nil_append] using
        sparseWfFrom_mono hn ha

theorem sparseMerge_wfFrom {lo : Nat} {m l : List (Nat × α)} (h : sparseWfFrom d lo m = true)
    (hl : risingFrom lo l = true) : sparseWfFrom d lo (sparseMerge d m l) = true := by
  induction l generalizing m lo with
  | nil => exact h
  | cons p l ih =>
    obtain ⟨a, v⟩ := p
    simp only [risingFrom, Bool.and_eq_true, decide_eq_true_eq] at hl
    have hrest := ih (dropWhile_wf (a := a) h) hl.2
    rw [sparseMerge, List.append_assoc]
    refine takeWhile_append_wf h ?_ hl.1
    by_cases hv : v = d
    · simpa [hv] using sparseWfFrom_mono hrest (by omega : a ≤ a + 1)
    · simp [hv, sparseWfFrom, hrest]

theorem sparseMerge_read {lo b : Nat} {m l : List (Nat × α)} (h : sparseWfFrom d lo m = true)
    (hl : risingFrom lo l = true) :
    sparseRead d (sparseMerge d m l) b = (lastWrite l b).getD (sparseRead d m b) := by
  induction l generalizing m lo with
  | nil => rfl
  | cons p l ih =>
    obtain ⟨a, v⟩ := p
    simp only [risingFrom, Bool.and_eq_true, decide_eq_true_eq] at hl
    have hd := dropWhile_wf (a := a) h
    rw [sparseMerge, List.append_assoc]
    by_cases hba : b < a
    · have hlow : lastWrite l b = none := lastWrite_below hl.2 (by omega)
      have hab : a ≠ b := by omega
      have htail : sparseWfFrom d (b + 1) ((if v = d then [] else [(a, v)]) ++
          sparseMerge d (m.dropWhile fun p => decide (p.1 ≤ a)) l) = true := by
        have hm := sparseMerge_wfFrom hd hl.2
        by_cases hv : v = d
        · simpa [hv] using sparseWfFrom_mono hm (by omega)
        · simp [hv, sparseWfFrom, hm]; omega
      have key : ∀ (x y : List (Nat × α)), sparseWfFrom d (b + 1) y = true →
          sparseRead d (x ++ y) b = sparseRead d x b := by
        intro x y hy
        induction x with
        | nil => simpa [sparseRead] using sparseRead_below hy (by omega)
        | cons q x ihx =>
          obtain ⟨k, w⟩ := q
          simp only [List.cons_append, sparseRead, ihx]
      rw [key _ _ htail, sparseRead_takeWhile h hba]
      simp [lastWrite, hlow, hab]
    · have hne : ∀ p ∈ m.takeWhile (fun p => decide (p.1 < a)), p.1 ≠ b := by
        intro p hp
        have := List.all_takeWhile (l := m) (p := fun p => decide (p.1 < a))
        have := List.all_eq_true.mp this p hp
        simp only [decide_eq_true_eq] at this
        omega
      rw [sparseRead_append_left hne]
      by_cases hb : b = a
      · subst hb
        have hlow : lastWrite l b = none := lastWrite_below hl.2 (by omega)
        have hm := sparseMerge_wfFrom hd hl.2
        by_cases hv : v = d
        · simp [hv, lastWrite, hlow, sparseRead_below (a := b) hm (by omega)]
        · simp [hv, lastWrite, hlow, sparseRead]
      · have hab : a ≠ b := Ne.symm hb
        have hrest : sparseRead d ((if v = d then [] else [(a, v)]) ++
            sparseMerge d (m.dropWhile fun p => decide (p.1 ≤ a)) l) b =
            sparseRead d (sparseMerge d (m.dropWhile fun p => decide (p.1 ≤ a)) l) b := by
          by_cases hv : v = d
          · simp [hv]
          · simp [hv, sparseRead, hab]
        rw [hrest, ih hd hl.2, sparseRead_dropWhile h (by omega)]
        simp only [lastWrite, if_neg hab]
        cases lastWrite l b <;> rfl

theorem foldl_write_wf {m l : List (Nat × α)} (h : sparseWf d m = true) :
    sparseWf d (l.foldl (fun m p => sparseWrite d m p.1 p.2) m) = true := by
  induction l generalizing m with
  | nil => exact h
  | cons p l ih => exact ih (sparseWrite_wf h)

theorem foldl_write_read {m l : List (Nat × α)} {b : Nat} (h : sparseWf d m = true) :
    sparseRead d (l.foldl (fun m p => sparseWrite d m p.1 p.2) m) b = (lastWrite l b).getD (sparseRead d m b) := by
  induction l generalizing m with
  | nil => rfl
  | cons p l ih =>
    obtain ⟨k, v⟩ := p
    rw [List.foldl_cons, ih (sparseWrite_wf h), sparseRead_write h]
    simp only [lastWrite]
    cases lastWrite l b with
    | some x => rfl
    | none =>
      by_cases hk : k = b
      · simp [hk]
      · simp [hk, Ne.symm hk]

/-- Writing a list keeps the canonical form. -/
theorem sparseWriteAll_wf {m l : List (Nat × α)} (h : sparseWf d m = true) : sparseWf d (sparseWriteAll d m l) = true := by
  unfold sparseWriteAll
  split
  · exact sparseMerge_wfFrom h (by assumption)
  · exact foldl_write_wf h

/-- A read after writing a list gives the last value it writes at the address, and elsewhere what it
gave before. -/
theorem sparseRead_writeAll {m l : List (Nat × α)} {b : Nat} (h : sparseWf d m = true) :
    sparseRead d (sparseWriteAll d m l) b = (lastWrite l b).getD (sparseRead d m b) := by
  unfold sparseWriteAll
  split
  · exact sparseMerge_read h (by assumption)
  · exact foldl_write_read h

omit [DecidableEq α] in
/-- An address that no entry of the list names is left alone. -/
theorem lastWrite_none {l : List (Nat × α)} {a : Nat} (h : ∀ p ∈ l, p.1 ≠ a) : lastWrite l a = none := by
  induction l with
  | nil => rfl
  | cons p l ih =>
    obtain ⟨k, v⟩ := p
    have hk : k ≠ a := h (k, v) (by simp)
    simp [lastWrite, ih fun q hq => h q (by simp [hq]), hk]

/-- A stretch of a canonical memory moved down by its first address is canonical. -/
theorem filterShift_wf {m : List (Nat × α)} {lo off len : Nat} (h : sparseWfFrom d lo m = true) (hlo : lo ≤ off) :
    sparseWfFrom d 0 ((m.filter fun p => decide (off ≤ p.1) && decide (p.1 < off + len)).map
      fun p => (p.1 - off, p.2)) = true := by
  have gen : ∀ (m : List (Nat × α)) (lo : Nat), sparseWfFrom d lo m = true →
      sparseWfFrom d (lo - off) ((m.filter fun p => decide (off ≤ p.1) && decide (p.1 < off + len)).map
        fun p => (p.1 - off, p.2)) = true := by
    intro m
    induction m with
    | nil => intro lo _; rfl
    | cons p m ih =>
      intro lo h
      obtain ⟨k, v⟩ := p
      simp only [sparseWfFrom, Bool.and_eq_true, decide_eq_true_eq] at h
      by_cases hk : off ≤ k ∧ k < off + len
      · simp only [List.filter_cons, hk.1, hk.2, decide_true, Bool.and_self, if_true, List.map_cons, sparseWfFrom,
          Bool.and_eq_true, decide_eq_true_eq]
        refine ⟨⟨by omega, h.1.2⟩, ?_⟩
        have := ih (k + 1) h.2
        rwa [show k + 1 - off = k - off + 1 by omega] at this
      · have : (decide (off ≤ k) && decide (k < off + len)) = false := by
          simp only [Bool.and_eq_false_iff, decide_eq_false_iff_not]
          omega
        simp only [List.filter_cons, this, Bool.false_eq_true, if_false]
        exact sparseWfFrom_mono (ih (k + 1) h.2) (by omega)
  have := gen m lo h
  rwa [show lo - off = 0 by omega] at this

end Sys2Proof.Machine
end

