-- ==== Sys2Proof/Laws/Notices.lean ====
section
/-! SUPPORT. Frames chained, and what raising a notice or offering a record does to the port controller. -/

namespace Sys2Proof.Machine

/-! ## Frames -/

theorem KeepsBut.refl (bs : List Block) (s : State) : KeepsBut bs s s := by
  intro b _
  cases b <;> rfl

theorem KeepsBut.mono {as bs : List Block} {s t : State} (h : KeepsBut as s t) (hab : ∀ b ∈ as, b ∈ bs) :
    KeepsBut bs s t := fun b hb => h b fun ha => hb (hab b ha)

theorem KeepsBut.trans {as bs : List Block} {s t u : State} (h : KeepsBut as s t) (k : KeepsBut bs t u) :
    KeepsBut (as ++ bs) s u := by
  intro b hb
  have h1 := h b fun x => hb (List.mem_append_left _ x)
  have h2 := k b fun x => hb (List.mem_append_right _ x)
  cases b <;> exact h2.trans h1

/-- Two frames chained inside a third. -/
theorem KeepsBut.chain {as bs cs : List Block} {s t u : State} (h : KeepsBut as s t) (k : KeepsBut bs t u)
    (ha : ∀ b ∈ as, b ∈ cs := by decide) (hb : ∀ b ∈ bs, b ∈ cs := by decide) : KeepsBut cs s u :=
  (h.trans k).mono fun b x => (List.mem_append.mp x).elim (ha b) (hb b)

theorem mapIntake_keeps (s : State) (c : Camera) (f : CameraIntake → CameraIntake) : KeepsBut [.intake] s (s.mapIntake c f) := by
  intro b hb
  cases b <;> first | exact absurd (by decide) hb | rfl

theorem mapAlert_keeps (s : State) (f : Alert → Alert) : KeepsBut [.alert] s (s.mapAlert f) := by
  intro b hb
  cases b <;> first | exact absurd (by decide) hb | rfl

theorem mapArbiter_keeps (s : State) (f : Arbiter → Arbiter) : KeepsBut [.arbiter] s (s.mapArbiter f) := by
  intro b hb
  cases b <;> first | exact absurd (by decide) hb | rfl

theorem mapPorts_keeps (s : State) (f : Ports → Ports) : KeepsBut [.ports] s (s.mapPorts f) := by
  intro b hb
  cases b <;> first | exact absurd (by decide) hb | rfl

theorem mapRemap_keeps (s : State) (f : Remap → Remap) : KeepsBut [.remap] s (s.mapRemap f) := by
  intro b hb
  cases b <;> first | exact absurd (by decide) hb | rfl

theorem mapCompositor_keeps (s : State) (f : Compositor → Compositor) : KeepsBut [.compositor] s (s.mapCompositor f) := by
  intro b hb
  cases b <;> first | exact absurd (by decide) hb | rfl

theorem mapTracker_keeps (s : State) (f : Tracker → Tracker) : KeepsBut [.tracker] s (s.mapTracker f) := by
  intro b hb
  cases b <;> first | exact absurd (by decide) hb | rfl

theorem mapFlash_keeps (s : State) (f : Flash → Flash) : KeepsBut [.flash] s (s.mapFlash f) := by
  intro b hb
  cases b <;> first | exact absurd (by decide) hb | rfl

/-! ## What producing cab frames leaves alone -/

theorem beginSending_only (p : Ports) :
    beginSending p = { p with sending := (beginSending p).sending, waiting := (beginSending p).waiting } := by
  unfold beginSending
  split <;> rfl

theorem produceCab_only (w : CabWaiting) (p : Ports) :
    produceCab w p = { p with sending := (produceCab w p).sending, waiting := (produceCab w p).waiting } := by
  unfold produceCab
  split
  · rfl
  · exact beginSending_only _

@[simp] theorem produceCab_pendingSets (w : CabWaiting) (p : Ports) : (produceCab w p).pendingSets = p.pendingSets := by
  rw [produceCab_only]

@[simp] theorem produceCab_can (w : CabWaiting) (p : Ports) : (produceCab w p).can = p.can := by rw [produceCab_only]

@[simp] theorem produceCab_queues (w : CabWaiting) (p : Ports) : (produceCab w p).queues = p.queues := by
  rw [produceCab_only]

@[simp] theorem produceCab_framer (w : CabWaiting) (p : Ports) : (produceCab w p).framer = p.framer := by
  rw [produceCab_only]

@[simp] theorem produceCab_enable (w : CabWaiting) (p : Ports) : (produceCab w p).enable = p.enable := by
  rw [produceCab_only]

@[simp] theorem produceCab_frameErrors (w : CabWaiting) (p : Ports) : (produceCab w p).frameErrors = p.frameErrors := by
  rw [produceCab_only]

@[simp] theorem produceCab_wrongData (w : CabWaiting) (p : Ports) : (produceCab w p).wrongData = p.wrongData := by
  rw [produceCab_only]

/-! ## Raising a notice -/

theorem NoticesOnly.refl (s : State) : NoticesOnly s s := rfl

theorem NoticesOnly.trans {s t u : State} (h : NoticesOnly s t) (k : NoticesOnly t u) : NoticesOnly s u := by
  unfold NoticesOnly at *
  rw [k, h]

theorem NoticesOnly.of_ports {s t : State} (h : t.ports = s.ports) : NoticesOnly s t := by
  unfold NoticesOnly
  rw [h]

theorem raiseNotice_noticesOnly (k : NoticeKind) (s : State) : NoticesOnly s (raiseNotice k s) := by
  unfold NoticesOnly raiseNotice
  dsimp only
  split
  · rw [produceCab_only]
  · rfl

@[simp] theorem raiseNotice_pendingSets (k : NoticeKind) (s : State) (m : Master) :
    (raiseNotice k s).ports.pendingSets.get m = pendingWith s m k := by
  unfold raiseNotice
  dsimp only
  split <;> cases m <;> simp [PerMaster.get]

theorem noticeBit_getLsbD (j k : NoticeKind) : (noticeBit j).getLsbD k.index = decide (k = j) := by
  cases j <;> cases k <;> decide

/-- A raised kind is in the pending set of each master the routing table names, and nothing else
changes there. -/
theorem pendingWith_getLsbD (s : State) (m : Master) (j k : NoticeKind) :
    (pendingWith s m j).getLsbD k.index =
      ((s.ports.pendingSets.get m).getLsbD k.index || (routedTo s.loaded.ports m k && decide (k = j))) := by
  unfold pendingWith
  by_cases h : routedTo s.loaded.ports m j = true
  · rw [if_pos h, BitVec.getLsbD_or, noticeBit_getLsbD]
    by_cases hk : k = j
    · subst hk; simp [h]
    · simp [hk]
  · rw [if_neg h]
    by_cases hk : k = j
    · subst hk; simp [Bool.not_eq_true _ ▸ h]
    · simp [hk]

theorem NoticesRaised.refl (s : State) : NoticesRaised [] s s := by
  intro m k _
  simp

theorem NoticesRaised.of_ports {s t : State} (h : t.ports = s.ports) : NoticesRaised [] s t := by
  intro m k _
  simp [h]

theorem NoticesRaised.trans {as bs : List NoticeKind} {s t u : State} (h : NoticesRaised as s t)
    (k : NoticesRaised bs t u) (hl : t.loaded.ports = s.loaded.ports) : NoticesRaised (as ++ bs) s u := by
  intro m x hx
  rw [k m x hx, h m x hx, hl]
  cases routedTo s.loaded.ports m x <;> simp [Bool.or_assoc]

theorem raiseNotice_raised (k : NoticeKind) (s : State) : NoticesRaised [k] s (raiseNotice k s) := by
  intro m j _
  rw [raiseNotice_pendingSets, pendingWith_getLsbD]
  simp

/-- A firing raises INCIDENT_MARKED alone. -/
theorem fireMark_ports (m : MarkSource) (s : State) : NoticesOnly s (fireMark m s) ∧ NoticesRaised [] s (fireMark m s) := by
  unfold fireMark
  split
  · constructor
    · exact (NoticesOnly.of_ports rfl).trans (raiseNotice_noticesOnly _ _)
    · intro n k hk
      unfold joinMark
      rw [raiseNotice_pendingSets, pendingWith_getLsbD]
      simp [hk]
  · exact ⟨NoticesOnly.of_ports rfl, NoticesRaised.of_ports rfl⟩

theorem offerTo_ports (r : EventRecord) (i : Fin 4) (s : State) :
    NoticesOnly s (offerTo r i s) ∧ NoticesRaised [] s (offerTo r i s) := by
  have id : NoticesOnly s s ∧ NoticesRaised [] s s := ⟨NoticesOnly.refl s, NoticesRaised.refl s⟩
  unfold offerTo
  dsimp only
  split
  · split
    · split
      · exact fireMark_ports _ s
      · exact id
    · exact id
  · exact id
  · exact id

theorem ports_chain {s t u : State} (h : NoticesOnly s t ∧ NoticesRaised [] s t) (k : NoticesOnly t u ∧ NoticesRaised [] t u)
    (hl : t.loaded = s.loaded) : NoticesOnly s u ∧ NoticesRaised [] s u :=
  ⟨h.1.trans k.1, h.2.trans k.2 (by rw [hl])⟩

/-- An offered record raises INCIDENT_MARKED alone. -/
theorem offerRecord_ports (r : EventRecord) (s : State) :
    NoticesOnly s (offerRecord r s) ∧ NoticesRaised [] s (offerRecord r s) := by
  unfold offerRecord
  split
  · exact ⟨NoticesOnly.refl s, NoticesRaised.refl s⟩
  · refine ports_chain (ports_chain (ports_chain (offerTo_ports r 0 s) (offerTo_ports r 1 _) ?_) (offerTo_ports r 2 _) ?_)
      (offerTo_ports r 3 _) ?_ <;> simp

end Sys2Proof.Machine
end

