-- ==== Sys2Proof/Laws/Links.lean ====
section
/-! SUPPORT. What the camera link operations do: offered records, recomputed arms, link moves and slots. -/

namespace Sys2Proof.Machine

/-! ## An offered record reads only what a mark carries -/

theorem offerTo_incident_congr {r : EventRecord} {i : Fin 4} {s t : State} (hl : t.loaded.triggers = s.loaded.triggers)
    (hi : t.incident = s.incident) (hf : t.frame = s.frame) (hm : t.ms = s.ms) (ha : t.alert = s.alert)
    (hs : t.arbiter.shown = s.arbiter.shown) (ht : t.tracker.tracks = s.tracker.tracks) :
    (offerTo r i t).incident = (offerTo r i s).incident := by
  unfold offerTo fireTrigger fireMark joinMark dropMark buildMark setTrigger raiseNotice
  simp only [hl, hi]
  split
  · split
    · split
      · split <;> simp_all
      · simp [hi]
    · exact hi
  · exact hi
  · exact hi

/-- Two states that agree on the triggers, the incident unit and what a mark is built from give an
offered record the same effect on the incident unit. -/
theorem offerRecord_incident_congr {r : EventRecord} {s t : State} (hmode : t.loader.mode = s.loader.mode)
    (hl : t.loaded.triggers = s.loaded.triggers) (hi : t.incident = s.incident) (hf : t.frame = s.frame)
    (hm : t.ms = s.ms) (ha : t.alert = s.alert) (hs : t.arbiter.shown = s.arbiter.shown)
    (ht : t.tracker.tracks = s.tracker.tracks) : (offerRecord r t).incident = (offerRecord r s).incident := by
  unfold offerRecord State.mode
  rw [hmode]
  split
  · exact hi
  · have h0 := offerTo_incident_congr (r := r) (i := 0) hl hi hf hm ha hs ht
    have h1 := offerTo_incident_congr (r := r) (i := 1) (s := offerTo r 0 s) (t := offerTo r 0 t)
      (by simpa using hl) h0 (by simpa using hf) (by simpa using hm) (by simpa using ha) (by simpa using hs) (by simpa using ht)
    have h2 := offerTo_incident_congr (r := r) (i := 2) (s := offerTo r 1 (offerTo r 0 s)) (t := offerTo r 1 (offerTo r 0 t))
      (by simpa using hl) h1 (by simpa using hf) (by simpa using hm) (by simpa using ha) (by simpa using hs) (by simpa using ht)
    exact offerTo_incident_congr (r := r) (i := 3) (s := offerTo r 2 (offerTo r 1 (offerTo r 0 s)))
      (t := offerTo r 2 (offerTo r 1 (offerTo r 0 t)))
      (by simpa using hl) h2 (by simpa using hf) (by simpa using hm) (by simpa using ha) (by simpa using hs) (by simpa using ht)

/-! ## Arms -/

theorem armValue_congr {s t : State} {x : ArmSource} (hi : t.intake.map CameraIntake.link = s.intake.map CameraIntake.link)
    (he : t.exposure = s.exposure) (ha : t.alert = s.alert) : armValue t x = armValue s x := by
  have h0 : (t.intake.get 0).link = (s.intake.get 0).link := by
    have := congrArg (fun q => q.get 0) hi; simpa using this
  have h1 : (t.intake.get 1).link = (s.intake.get 1).link := by
    have := congrArg (fun q => q.get 1) hi; simpa using this
  have h2 : (t.intake.get 2).link = (s.intake.get 2).link := by
    have := congrArg (fun q => q.get 2) hi; simpa using this
  have h3 : (t.intake.get 3).link = (s.intake.get 3).link := by
    have := congrArg (fun q => q.get 3) hi; simpa using this
  cases x <;> simp [armValue, cameraFaulty, h0, h1, h2, h3, he, ha]

/-- Recomputing the arms of some sources. -/
theorem rearm_armsFollow (r : ArmSource → Bool) (s : State) : ArmsFollow r s (rearm r s) := by
  unfold rearm
  by_cases h : s.mode = .starting
  · rw [if_pos h]
    refine ⟨rfl, fun g => ?_⟩
    simp [h]
  · rw [if_neg h]
    refine ⟨rfl, fun g => ?_⟩
    have hv : ∀ x, armValue (s.mapCompositor fun k =>
        { k with generators := k.generators.map fun g => if r g.source = true then rearmOne s g else g }) x = armValue s x :=
      fun x => armValue_congr (by simp) (by simp) (by simp)
    by_cases hr : r (s.compositor.generators.get g).source = true
    · have := hv (s.compositor.generators.get g).source
      simp only [State.mapCompositor_compositor, Quad.get_map, hr, if_true, rearmOne, h, ne_eq, not_false_eq_true,
        and_self]
      rw [← this]
      rfl
    · simp [h, hr]

/-- Arms that follow from `s` to `t` also do so between states that agree with `s` before and with `t` after. -/
theorem ArmsFollow.congr {r : ArmSource → Bool} {s s' t t' : State} (h : ArmsFollow r s t)
    (hs : s'.compositor = s.compositor) (hm : s'.loader = s.loader) (ht : t'.compositor = t.compositor)
    (hi : t'.intake.map CameraIntake.link = t.intake.map CameraIntake.link) (he : t'.exposure = t.exposure)
    (ha : t'.alert = t.alert) : ArmsFollow r s' t' := by
  obtain ⟨h1, h2⟩ := h
  refine ⟨by rw [hs, ht]; exact h1, fun g => ?_⟩
  rw [hs, ht, h2 g, armValue_congr hi he ha]
  unfold State.mode
  rw [hm]

/-! ## A link's move -/

theorem moveLink_same {c : Camera} {l : LinkState} {s : State} (h : (s.intake.get c).link = l) : moveLink c l s = s := by
  simp [moveLink, h]

@[simp] theorem moveLink_intake (c : Camera) (l : LinkState) (s : State) :
    (moveLink c l s).intake = s.intake.set c { s.intake.get c with link := l } := by
  unfold moveLink
  split
  · next h => subst h; exact (Quad.set_get _ _).symm
  · simp

theorem moveLink_ports (c : Camera) (l : LinkState) (s : State) :
    NoticesOnly s (moveLink c l s) ∧ NoticesRaised [] s (moveLink c l s) := by
  unfold moveLink
  split
  · exact ⟨NoticesOnly.refl s, NoticesRaised.refl s⟩
  · exact ports_chain ⟨NoticesOnly.of_ports (by simp), NoticesRaised.of_ports (by simp)⟩ (offerRecord_ports _ _) (by simp)

/-- A link that changes offers a CONDITION record. -/
theorem moveLink_incident {c : Camera} {l : LinkState} {s : State} (h : (s.intake.get c).link ≠ l) :
    (moveLink c l s).incident = (offerRecord (.condition c l (s.exposure.get c).condition) s).incident := by
  rw [moveLink, if_neg h]
  exact offerRecord_incident_congr (by simp) (by simp) (by simp) (by simp) (by simp) (by simp) (by simp) (by simp)

/-- A link that changes recomputes the arms that read the cameras. -/
theorem moveLink_arms {c : Camera} {l : LinkState} {s : State} (h : (s.intake.get c).link ≠ l) :
    ArmsFollow readsCamera s (moveLink c l s) := by
  rw [moveLink, if_neg h]
  exact (rearm_armsFollow readsCamera (s.mapIntake c fun k => { k with link := l })).congr (by simp) (by simp) (by simp)
    (by simp) (by simp) (by simp)

theorem intakeNotice_ports (k : NoticeKind) (s : State) :
    NoticesOnly s (intakeNotice k s) ∧ NoticesRaised (if s.mode ≠ .starting then [k] else []) s (intakeNotice k s) := by
  unfold intakeNotice
  by_cases h : s.mode = .starting
  · simp only [h, ne_eq, not_true_eq_false, if_true, if_false]
    exact ⟨NoticesOnly.refl s, NoticesRaised.refl s⟩
  · simp only [h, ne_eq, not_false_eq_true, if_true, if_false]
    exact ⟨raiseNotice_noticesOnly k s, raiseNotice_raised k s⟩

theorem moveNotice_ports {c : Camera} {l : LinkState} {k : NoticeKind} {s u : State} (hp : u.ports = s.ports)
    (hl : u.loaded = s.loaded) (hm : u.mode = s.mode) :
    NoticesOnly s (intakeNotice k (moveLink c l u)) ∧
      NoticesRaised (if s.mode ≠ .starting then [k] else []) s (intakeNotice k (moveLink c l u)) := by
  have h1 := moveLink_ports c l u
  have h2 := intakeNotice_ports k (moveLink c l u)
  have hm2 : (moveLink c l u).mode = s.mode := by rw [← hm]; simp [State.mode]
  rw [hm2] at h2
  refine ⟨((NoticesOnly.of_ports hp).trans h1.1).trans h2.1, ?_⟩
  exact ((NoticesRaised.of_ports hp).trans h1.2 (by rw [hl])).trans h2.2 (by simp [hl])

/-! ## Leaving and entering LIVE -/

@[simp] theorem leaveLive_intake (c : Camera) (l : LinkState) (s : State) :
    (leaveLive c l s).intake = s.intake.set c { s.intake.get c with link := l, stall := none, lost := .running s.ms } := by
  unfold leaveLive
  simp

theorem leaveLive_keeps (c : Camera) (l : LinkState) (s : State) :
    KeepsBut [.intake, .motion, .compositor, .incident, .ports] s (leaveLive c l s) := by
  intro b hb
  unfold leaveLive
  cases b <;> first | exact absurd (by decide) hb | simp [Block.same]

@[simp] theorem leaveLive_motion (c : Camera) (l : LinkState) (s : State) :
    (leaveLive c l s).motion = resetCells c s.motion := by
  unfold leaveLive
  simp

theorem leaveLive_incident {c : Camera} {l : LinkState} {s : State} (h : (s.intake.get c).link ≠ l) :
    (leaveLive c l s).incident = (offerRecord (.condition c l (s.exposure.get c).condition) s).incident := by
  unfold leaveLive
  rw [intakeNotice_incident, moveLink_incident (by simpa using h)]
  exact offerRecord_incident_congr (by simp) (by simp) (by simp) (by simp) (by simp) (by simp) (by simp) (by simp)

theorem leaveLive_arms {c : Camera} {l : LinkState} {s : State} (h : (s.intake.get c).link ≠ l) :
    ArmsFollow readsCamera s (leaveLive c l s) := by
  unfold leaveLive
  refine (moveLink_arms (c := c) (l := l) (s := { (s.mapIntake c fun k => { k with stall := none, lost := .running s.ms }) with
    motion := resetCells c s.motion }) (by simp; exact h)).congr ?_ ?_ ?_ ?_ ?_ ?_ <;> simp

theorem leaveLive_ports (c : Camera) (l : LinkState) (s : State) :
    NoticesOnly s (leaveLive c l s) ∧
      NoticesRaised (if s.mode ≠ .starting then [.cameraLost] else []) s (leaveLive c l s) := by
  exact moveNotice_ports rfl rfl rfl

@[simp] theorem enterLive_intake (c : Camera) (s : State) :
    (enterLive c s).intake = s.intake.set c { s.intake.get c with link := .live, stall := some s.ms, lost := .stopped } := by
  unfold enterLive
  simp

theorem enterLive_keeps (c : Camera) (s : State) :
    KeepsBut [.intake, .compositor, .incident, .ports] s (enterLive c s) := by
  intro b hb
  unfold enterLive
  cases b <;> first | exact absurd (by decide) hb | simp [Block.same]

theorem enterLive_incident {c : Camera} {s : State} (h : (s.intake.get c).link ≠ .live) :
    (enterLive c s).incident = (offerRecord (.condition c .live (s.exposure.get c).condition) s).incident := by
  unfold enterLive
  rw [intakeNotice_incident, moveLink_incident (by simpa using h)]
  exact offerRecord_incident_congr (by simp) (by simp) (by simp) (by simp) (by simp) (by simp) (by simp) (by simp)

theorem enterLive_arms {c : Camera} {s : State} (h : (s.intake.get c).link ≠ .live) :
    ArmsFollow readsCamera s (enterLive c s) := by
  unfold enterLive
  refine (moveLink_arms (c := c) (l := .live) (s := s.mapIntake c fun k => { k with stall := some s.ms, lost := .stopped })
    (by simpa using h)).congr ?_ ?_ ?_ ?_ ?_ ?_ <;> simp

theorem enterLive_ports (c : Camera) (s : State) :
    NoticesOnly s (enterLive c s) ∧
      NoticesRaised (if s.mode ≠ .starting then [.cameraBack] else []) s (enterLive c s) := by
  exact moveNotice_ports rfl rfl rfl

/-! ## Slots -/

theorem Trio.get_set (q : Trio α) (i j : Fin 3) (x : α) : (q.set i x).get j = if j = i then x else q.get j := by
  by_cases h : j = i
  · subst h; simp
  · rw [Trio.get_set_other q x h, if_neg h]

@[simp] theorem tearFrame_torn (k : CameraIntake) :
    (tearFrame k).torn = if (fillingSlot k.slots).isSome then satAdd k.torn 1 else k.torn := by
  unfold tearFrame freeFilling
  split <;> simp_all

theorem freeFilling_only (k : CameraIntake) : freeFilling k = { k with slots := (freeFilling k).slots } := by
  unfold freeFilling
  split <;> rfl

/-- Freeing the FILLING slot touches that slot alone. -/
theorem freeFilling_slots (k : CameraIntake) (i : Fin 3) :
    (freeFilling k).slots.get i =
      if fillingSlot k.slots = some i then { k.slots.get i with state := .free } else k.slots.get i := by
  unfold freeFilling
  split
  · next h => simp [h]
  · next j h =>
    rw [h]
    dsimp only
    rw [Trio.get_set]
    by_cases hij : i = j
    · subst hij; simp
    · simp [hij, Ne.symm hij]

theorem tearFrame_slots (k : CameraIntake) : (tearFrame k).slots = (freeFilling k).slots := by
  unfold tearFrame
  split
  · next h => simp [freeFilling, h]
  · rfl

theorem tearFrame_only (k : CameraIntake) :
    tearFrame k = { k with slots := (tearFrame k).slots, torn := (tearFrame k).torn } := by
  unfold tearFrame
  split
  · rfl
  · rw [freeFilling_only]

/-! ## Memory and frames of one camera -/

theorem OtherCameras.of_set {c : Camera} {s t : State} {k : CameraIntake} (h : t.intake = s.intake.set c k) :
    OtherCameras c s t := fun d hd => by rw [h, Quad.get_set_other _ _ hd]

theorem MemoryKept.of_camera {c : Camera} {s t : State} (hf : t.flash = s.flash) (hl : t.loaded = s.loaded)
    (hst : t.compositor.store = s.compositor.store) (ho : OtherCameras c s t)
    (hp : ∀ i, ((t.intake.get c).slots.get i).picture = ((s.intake.get c).slots.get i).picture) : MemoryKept s t := by
  refine ⟨⟨fun a => by rw [hf], fun a => by rw [hl]⟩, fun a => by rw [hst], fun d i a => ?_⟩
  by_cases h : d = c
  · subst h; rw [hp]
  · rw [ho d h]

theorem ArmsFollow.store {r : ArmSource → Bool} {s t : State} (h : ArmsFollow r s t) :
    t.compositor.store = s.compositor.store := by rw [h.1]

theorem ArmsFollow.only {r : ArmSource → Bool} {s t : State} (h : ArmsFollow r s t) : ArmsOnly s t :=
  ⟨h.1, fun g => by rw [h.2 g]⟩

theorem FillingFreed.picture {q r : Trio FrameSlot} (h : FillingFreed q r) (i : Fin 3) :
    (r.get i).picture = (q.get i).picture := by
  rw [h i]
  split <;> rfl

theorem tearFrame_freed (k : CameraIntake) : FillingFreed k.slots (tearFrame k).slots := by
  intro i
  rw [tearFrame_slots, freeFilling_slots]

/-! ## Choosing a slot -/

/-- What the lowest FREE slot is (R26). -/
theorem freeSlot_spec (q : Trio FrameSlot) :
    freeSlot q = none ∧ (∀ i, (q.get i).state ≠ .free) ∨
      ∃ i, freeSlot q = some i ∧ (q.get i).state = .free ∧ ∀ j, j < i → (q.get j).state ≠ .free := by
  unfold freeSlot
  split
  · next h => exact .inr ⟨0, rfl, h, by intro j hj; omega⟩
  · next h0 =>
    split
    · next h => exact .inr ⟨1, rfl, h, fun j hj => by match j with | 0 => exact h0⟩
    · next h1 =>
      split
      · next h => exact .inr ⟨2, rfl, h, fun j hj => by match j with | 0 => exact h0 | 1 => exact h1⟩
      · next h2 => exact .inl ⟨rfl, fun i => by match i with | 0 => exact h0 | 1 => exact h1 | 2 => exact h2⟩

/-- Picking the best of a list, the first among equals: what it answers is ready and at least as good
as every ready one. -/
theorem pickBest_spec {ready : Fin 3 → Prop} [DecidablePred ready] {lt : Fin 3 → Fin 3 → Prop} [DecidableRel lt]
    {le : Fin 3 → Fin 3 → Prop} (hlt : ∀ i j, lt i j → le i j) (hge : ∀ i j, ¬ lt i j → le j i) (hrefl : ∀ i, le i i)
    (htrans : ∀ i j k, le i j → le j k → le i k) (l : List (Fin 3)) (best : Option (Fin 3))
    (hb : ∀ i, best = some i → ready i) :
    match l.foldl (fun best i =>
        if ready i then
          match best with
          | none => some i
          | some j => if lt j i then some i else some j
        else best) best with
    | none => best = none ∧ ∀ i ∈ l, ¬ ready i
    | some i => ready i ∧ (∀ j ∈ l, ready j → le j i) ∧ ∀ j, best = some j → le j i := by
  induction l generalizing best with
  | nil => cases best with
    | none => simp
    | some i => simp [hb i rfl, hrefl]
  | cons k l ih =>
    rw [List.foldl_cons]
    by_cases hk : ready k
    · rw [if_pos hk]
      cases best with
      | none =>
        have := ih (some k) (by simpa using hk)
        revert this
        generalize List.foldl _ (some k) l = r
        cases r with
        | none => simp
        | some i => simpa using fun a b c => ⟨a, ⟨fun _ => c, b⟩⟩
      | some b =>
        dsimp only
        have := ih (if lt b k then some k else some b) (by
          intro i hi
          split at hi
          · obtain rfl := Option.some.inj hi; exact hk
          · exact hb i hi)
        revert this
        generalize List.foldl _ (if lt b k then some k else some b) l = r
        cases r with
        | none => rintro ⟨h, _⟩; split at h <;> cases h
        | some i =>
          rintro ⟨h1, h2, h3⟩
          have h4 : le k i ∧ le b i := by
            split at h3
            · next hlk => exact ⟨h3 k rfl, htrans _ _ _ (hlt _ _ hlk) (h3 k rfl)⟩
            · next hlk => exact ⟨htrans _ _ _ (hge _ _ hlk) (h3 b rfl), h3 b rfl⟩
          refine ⟨h1, ?_, ?_⟩
          · intro j hj hr
            rcases List.mem_cons.mp hj with rfl | hj
            · exact h4.1
            · exact h2 j hj hr
          · intro j hj; obtain rfl := Option.some.inj hj; exact h4.2
    · rw [if_neg hk]
      have := ih best hb
      revert this
      generalize List.foldl _ best l = r
      cases r with
      | none => simp [hk]
      | some i =>
        rintro ⟨h1, h2, h3⟩
        refine ⟨h1, ?_, h3⟩
        intro j hj hr
        rcases List.mem_cons.mp hj with rfl | hj
        · exact absurd hr hk
        · exact h2 j hj hr

/-- What the oldest READY slot is (R26). -/
theorem oldestReady_spec (now : Word) (q : Trio FrameSlot) :
    match oldestReady now q with
    | none => ∀ i, (q.get i).state ≠ .ready
    | some i => (q.get i).state = .ready ∧
        ∀ j, (q.get j).state = .ready → slotAge now (q.get j) ≤ slotAge now (q.get i) := by
  have h := pickBest_spec (ready := fun i => (q.get i).state = .ready) (lt := fun i j => slotAge now (q.get i) < slotAge now (q.get j))
    (le := fun i j => slotAge now (q.get i) ≤ slotAge now (q.get j)) (fun _ _ => Nat.le_of_lt) (fun _ _ => Nat.le_of_not_lt)
    (fun _ => Nat.le_refl _) (fun _ _ _ => Nat.le_trans) [0, 1, 2] none (by simp)
  have hm : ∀ i : Fin 3, i ∈ ([0, 1, 2] : List (Fin 3)) := by decide
  unfold oldestReady
  revert h
  generalize List.foldl _ none _ = r
  cases r with
  | none => exact fun h i => h.2 i (hm i)
  | some i => exact fun h => ⟨h.1, fun j => h.2.1 j (hm j)⟩

/-- What the newest READY slot is (R30). -/
theorem newestReady_spec (now : Word) (q : Trio FrameSlot) :
    match newestReady now q with
    | none => ∀ i, (q.get i).state ≠ .ready
    | some i => (q.get i).state = .ready ∧
        ∀ j, (q.get j).state = .ready → slotAge now (q.get i) ≤ slotAge now (q.get j) := by
  have h := pickBest_spec (ready := fun i => (q.get i).state = .ready) (lt := fun i j => slotAge now (q.get j) < slotAge now (q.get i))
    (le := fun i j => slotAge now (q.get j) ≤ slotAge now (q.get i)) (fun _ _ => Nat.le_of_lt) (fun _ _ => Nat.le_of_not_lt)
    (fun _ => Nat.le_refl _) (fun _ _ _ h1 h2 => Nat.le_trans h2 h1) [0, 1, 2] none (by simp)
  have hm : ∀ i : Fin 3, i ∈ ([0, 1, 2] : List (Fin 3)) := by decide
  unfold newestReady
  revert h
  generalize List.foldl _ none _ = r
  cases r with
  | none => exact fun h i => h.2 i (hm i)
  | some i => exact fun h => ⟨h.1, fun j => h.2.1 j (hm j)⟩

end Sys2Proof.Machine
end

