-- ==== Sys2Proof/WellFormed.lean ====
section
/-! DEFINITION. Well-formed commands: operands that lie in the ranges their rows give them. The meanings hold for every command. -/

namespace Sys2Proof

open Sys2Proof.Machine

/-- A camera's picture names pixels of the 1280 × 800 frame (R82). -/
def pictureWellFormed (pixels : List (Nat × Pixel)) : Bool := pixels.all fun p => decide (p.1 < 1024000)

/-- A data message is one CAN frame: its kind byte and up to seven bytes (R161). -/
def dataWellFormed (data : List Byte) : Bool := decide (data.length ≤ 7)

/-- A request's payload fits its carrier: 200 bytes in a cab frame (R159), six in a CAN frame after
its kind and tag (R161). -/
def payloadWellFormed (m : Master) (payload : List Byte) : Bool :=
  match m with
  | .cab => decide (payload.length ≤ 200)
  | .body => decide (payload.length ≤ 6)
  | .chassis => decide (payload.length ≤ 6)

/-- An arrival fits its carrier: a cab frame has up to 206 bytes (R159), a CAN frame up to eight (R161). -/
def arrivalWellFormed : Arrival → Bool
  | .cabBytes l => decide (l.length ≤ 206)
  | .canFrame _ l => decide (l.length ≤ 8)

/-- The operands of a command lie in the ranges that its row gives them. -/
def Instr.wellFormed : Instr → Bool
  | .powerOnReset => true
  | .partRestart => true
  | .portsTaken => true
  | .loadCompletion => true
  | .lockLost _ => true
  | .lockGained _ => true
  | .cameraFrameStart _ => true
  | .headerArrival _ _ _ _ => true
  | .frameCompletion _ pixels => pictureWellFormed pixels
  | .stallTimerExpiry _ => true
  | .lostTimerExpiry _ => true
  | .rangeReport data => dataWellFormed data
  | .vehicleStatus data => dataWellFormed data
  | .bodyStatus data => dataWellFormed data
  | .stalenessTimerExpiry _ => true
  | .wrongMasterData m kind => wrongCarrier m kind
  | .ignoredCanFrame _ _ => true
  | .trackerTimerExpiry => true
  | .trackerUpdateCompletion => true
  | .lingerTimerExpiry => true
  | .outputFrameStart _ => true
  | .pairRendered => true
  | .refillCompletion _ => true
  | .claimExpiry _ => true
  | .cabFrameBroken _ => true
  | .cabInterbyteTimeout => true
  | .requestArrival a => arrivalWellFormed a
  | .cabFrameSent => true
  | .canFrameTransmitted _ => true
  | .busOff _ => true
  | .busOffRecovery _ => true
  | .statusBroadcast _ => true
  | .unknownKind m kind _ payload => unknownToMaster m kind && payloadWellFormed m payload
  | .claimView _ _ _ _ _ => true
  | .dropView _ _ => true
  | .takeLatches _ _ => true
  | .getStatus _ _ => true
  | .markIncident _ _ => true
  | .ackWarning _ _ => true
  | .getTracks _ _ _ => true
  | .getNotices _ _ => true
  | .setNoticeMask _ _ _ => true
  | .collectMark _ _ => true
  | .setLiveHomeLayout _ _ _ => true
  | .setLiveClassSwitch _ _ _ _ => true
  | .setLiveWarningLevel _ _ _ => true
  | .setLiveBlinkWidth _ _ _ _ _ => true
  | .getCounters _ _ => true
  | .getCountersClear _ _ => true
  | .probeMap _ _ _ _ _ => true
  | .readMapEntry _ _ _ => true
  | .getFault _ _ => true
  | .restart _ _ => true
  | .enterService _ _ => true
  | .leaveService _ _ => true
  | .flashRead _ _ _ => true
  | .flashWrite m _ _ data => decide (m = .cab) && decide (data.length = 128)
  | .flashErase _ _ _ => true
  | .flashReadCompletion => true
  | .flashWriteCompletion => true
  | .flashEraseCompletion => true
  | .cabStartByteReceived => true

end Sys2Proof
end

