-- ==== Sys2Proof/Tests/Slice0.lean ====
section
/-! SUPPORT. Tests: worked cases of spec/, ill-formed commands, and states and operands that meet the hypotheses of the statements. -/

set_option maxRecDepth 20000

namespace Sys2Proof.Tests

open Sys2Proof Sys2Proof.Machine

/-! ## Small states -/

/-- The state after a command; the state itself where the command stops. -/
def after (c : Instr) (s : State) : State :=
  match exec c s with
  | .next t => t
  | .fault _ => s
  | .refused _ => s

/-- Both CAN ports ACTIVE, their last broadcast at millisecond 0. -/
def activePorts : Ports :=
  let q : CanPort := { canPortStart with state := .active, timer := some 0#32 }
  { portsStart with can := ⟨q, q⟩ }

/-- A layout of one class B pair, critical if asked for. -/
def smallLayout (n : Nat) (critical : Bool) : Layout :=
  ⟨n, critical, [{ plainQuadPane 0 with width := 128, height := 64 }], false, 1#4⟩

/-- The part in RUNNING with layouts L1 and L2, L1 shown. -/
def running : State :=
  { State.reset with
    ms := 1000#32
    loader := ⟨.running, true, false⟩
    loaded := { loadedStart with layouts := [smallLayout 1 false, smallLayout 2 true] }
    arbiter := { arbiterStart with home := 1, shown := some (.stored 1) }
    compositor := { compositorStart with mode := .layout, inEffect := some (.stored 1) }
    ports := activePorts }

/-- Three slots in the given states, READY ones completed at milliseconds 10, 20 and 30. -/
def slots (a b c : SlotState) : Trio FrameSlot := ⟨⟨a, 0, 10#32, []⟩, ⟨b, 0, 20#32, []⟩, ⟨c, 0, 30#32, []⟩⟩

/-- An intake in a link state, with the timers that the state has. -/
def intakeIn (l : LinkState) (q : Trio FrameSlot) : CameraIntake :=
  { intakeStart with
    lock := decide (l ≠ .down)
    link := l
    slots := q
    stall := if l = .live then some 900#32 else none
    lost := if l = .live then .stopped else .expired
    inUse := true }

/-- `running` with camera 2 in a link state. -/
def linked (l : LinkState) (q : Trio FrameSlot) : State :=
  { running with intake := running.intake.set 2 (intakeIn l q) }

/-- `running` in SERVICE. -/
def inService (op : FlashOp) : State :=
  { running with
    loader := ⟨.service, true, false⟩
    arbiter := { arbiterStart with state := .service }
    flash := { flashStart with op := op } }

/-- A track. -/
def trackOf (n : Nat) (st : TrackState) (x y vx vy : Int) (hits misses : Nat) : Track :=
  ⟨n, st, x, y, vx, vy, hits, misses, ⟨true, false⟩, .none, .none, 0, none⟩

/-- Zones Z2 and Z3 of 7.8. -/
def zones78 : List Zone :=
  [⟨2, true, 200, 1000, 0, 200, .always, .caution, 1500, some 2⟩,
   ⟨3, true, 200, 1000, 201, 500, .speedAtMost 300, .notice, 0, none⟩]

/-- The reading of a vehicle that stands. -/
def standingStill : VehicleReading := ⟨some 0, some .forward, some .off, none⟩

/-- `running` with track 7 of 7.8 and an update that takes it to (606, 166). -/
def updating : State :=
  { running with
    loaded := { running.loaded with zones := zones78 }
    tracker :=
      { trackerStart with
        lastNumber := 7
        timer := some 900#32
        tracks := some (trackOf 7 .confirmed 609 177 (-22) (-157) 14 0) :: List.replicate 15 none
        update := some ⟨[⟨606, 166, .range⟩], some (607, 162) :: List.replicate 15 none, standingStill⟩ } }

/-! ## Worked cases -/

/-- 10.1: the CRC over "123456789". -/
theorem test_crc16_check_value :
    crc16 [0x31#8, 0x32#8, 0x33#8, 0x34#8, 0x35#8, 0x36#8, 0x37#8, 0x38#8, 0x39#8] = 0x29B1#16 := by decide

/-- 1.11, Case 1: the reading 180 of sensor 3. -/
theorem test_range_reading_placed :
    (takeReading [⟨3, true, 640, 0, -711, 4034, 500⟩] (3 * 1024 + 180) trackerStart).queue = [⟨609, 177, .range⟩] := by
  decide

/-- 2.8, events 1 to 3. -/
theorem test_first_frame_of_a_camera :
    ((after (.headerArrival 2 2 100 12) (after (.cameraFrameStart 2)
      (linked .search (slots .free .free .free)))).intake.get 2).link = .live := by decide

/-- 2.8, event 7: one frame is missing. -/
theorem test_sequence_gap_counts :
    ((after (.headerArrival 2 2 103 12) { running with
      intake := running.intake.set 2
        { intakeIn .live (slots .reading .ready .filling) with header := some ⟨2, 101, 12⟩ } }).intake.get 2).dropped =
      1#16 := by decide

/-- 2.8, event 9: the oldest READY slot is taken, and counted. -/
theorem test_oldest_ready_slot_is_recycled :
    let k := (after (.cameraFrameStart 2) (linked .live (slots .reading .ready .ready))).intake.get 2
    k.slots.s1.state = .filling ∧ k.slots.s2.state = .ready ∧ k.dropped = 1#16 := by decide

/-- 2.8, event 11: the frame is torn and the lost timer starts. -/
theorem test_lock_lost_tears_the_frame :
    let t := after (.lockLost 2) (linked .live (slots .free .filling .reading))
    (t.intake.get 2).torn = 1#16 ∧ (t.intake.get 2).lost = .running 1000#32 ∧
      t.ports.pendingSets.cab = 0x0010#16 := by decide

/-- 3.7, Case 1: a step down under glare. -/
theorem test_gain_below_range :
    updateGain 110 134 .glare { exposureStart with gain := 2, condition := .glare } =
      { exposureStart with gain := 0, inFlight := some ⟨0, 0⟩, balance := -1, condition := .glare } := by decide

/-- 3.7, Case 3, handovers 13 and 14: the tenth release test clears the set. -/
theorem test_watch_set_clears :
    moveWatch watchFallback.c1 10 (.leaving 9) = .clear ∧ moveWatch watchFallback.c1 33 (.leaving 2) = .asserted := by
  decide

/-- 4.7: the pointer passes over a FILLING entry and the entry in use. -/
theorem test_pointer_passes_over :
    pickEntry
      { remapStart with
        entries := (List.replicate 40 CacheEntry.empty).set 35 (.filling ⟨1, 0, 9⟩ .b)
        pointer := 35
        inUse := some 34 } 40 35 = 33 := by decide

/-- 5.9: sampling, weight, blend and overlay of one pixel. -/
theorem test_seam_pixel :
    bilinear 100 120 0 0 2 0 = 103#8 ∧ primaryWeight 256 0 32 10 = 174 ∧ mixComponent 174 103 60 = 89#8 ∧
      alphaComponent 8 235 89 = 162#8 := by decide

/-- 6.7: the update ends with the list of the chapter. -/
theorem test_update_with_several_sightings :
    ((settleSlots (associateUpdate 80
        { trackerStart with
          lastNumber := 9
          tracks :=
            [some (trackOf 7 .confirmed 609 177 (-22) (-157) 14 0), some (trackOf 9 .tentative 1500 300 0 0 2 0),
              some (trackOf 3 .coasting 2200 150 40 0 30 2), none] }
        ⟨[⟨600, 160, .range⟩, ⟨1512, 296, .motion⟩, ⟨612, 171, .motion⟩, ⟨900, 500, .range⟩, ⟨930, 520, .motion⟩],
          [some (607, 162), some (1500, 300), some (2204, 150), none], standingStill⟩).slots).map fun o =>
        o.map fun t => (t.number, t.x, t.y, t.vx, t.vy)) =
      [some (7, 606, 166, -24, -146), some (9, 1512, 296, 30, -10), some (3, 2204, 150, 40, 0),
        some (10, 900, 500, 0, 0)] := by decide

/-- 6.9: the four cells of highest score post, the lower index first among equals. -/
theorem test_cells_post_by_score :
    ((postingCells
        [⟨1, 0, 0, 20, 0, 300, none, 410, 2, true⟩, ⟨1, 16, 0, 21, 0, 300, none, 520, 2, true⟩,
          ⟨1, 32, 0, 22, 0, 250, none, 260, 2, true⟩, ⟨1, 48, 0, 23, 0, 250, none, 900, 1, false⟩,
          ⟨1, 64, 0, 24, 0, 400, none, 410, 2, true⟩, ⟨1, 80, 0, 25, 0, 200, none, 410, 2, true⟩]).map
      MotionCell.x) = [21, 20, 24, 25] := by decide

/-- 7.8, U1: DANGER by Z2's closing time, and the alert claim at level 6. -/
theorem test_danger_rises :
    let t := after .trackerUpdateCompletion updating
    t.alert.level = .danger ∧ t.arbiter.claims.c3 = some ⟨2, 6, none, false⟩ ∧
      t.alert.latched = ⟨4#8, 4#8, 4#8⟩ ∧ t.compositor.generators.c3.pending = true := by decide

/-- 7.9: a reading goes stale after more than 500 ms. -/
theorem test_speed_goes_stale :
    (after (.stalenessTimerExpiry .speed)
      { running with
        ms := 80501#32
        alert := { alertStart with vehicle := { alertStart.vehicle with speed := ⟨some 0, some 80000#32, some 80000#32⟩ } } }).alert.vehicle.speed =
      ⟨none, some 80000#32, none⟩ := by decide

/-- 8.8, event 1: a claim above the chassis gateway's maximum, with lifetime 0. -/
theorem test_claim_is_clamped :
    let t := after (.claimView .chassis 9 2 5 0) { running with ms := 10000#32 }
    t.arbiter.claims.c2 = some ⟨2, 4, some 11000#32, false⟩ ∧ t.arbiter.target = some ⟨.stored 2, .chassis⟩ ∧
      t.ports.can.chassis.store = [⟨0x341, [0x01#8, 0x09#8, 0x01#8, 0x00#8, 0x04#8, 0xE8#8, 0x03#8], .answer⟩] := by
  decide

/-- 8.9: dropping the claim before its adoption cancels the switch. -/
theorem test_switch_is_cancelled :
    (after (.dropView .body 2) (after (.canFrameTransmitted .body) (after (.claimView .body 1 2 4 500) running))).arbiter.state =
      .settled := by decide

/-- 9.6, event 2: a trigger with delay 0 fires at once. -/
theorem test_trigger_fires_at_once :
    let t := after (.bodyStatus [1#8])
      { running with
        loaded := { running.loaded with triggers := { triggersFallback with c1 := ⟨true, .vehicle, [254, 254, 1, 254], .atLeast 1, 0, 30⟩ } }
        alert := { alertStart with vehicle := { alertStart.vehicle with speed := ⟨some 120, some 900#32, some 900#32⟩ } } }
    t.incident.lastNumber = 1#16 ∧ t.incident.triggers.c1 = .holding 30 := by decide

/-- 10.9: a request that finds four waiting is answered BUSY at once. -/
theorem test_full_queue_is_busy :
    let r : Request := ⟨0x04#8, 1#8, []⟩
    (after (.getFault .cab 6)
      { running with ports := { running.ports with queues := ⟨[r, r, r, r], [], []⟩ } }).ports.sending =
      some ⟨0x1A#8, 6#8, [6#8], .busy⟩ := by decide

/-- 11.5, step 2, and the answer of step 3. -/
theorem test_erase_then_busy :
    (after (.flashErase .cab 1 0x010000#24) (inService .idle)).flash.op = .erasing 0x010000 ∧
      (after (.flashErase .cab 1 0x010000#24) (inService (.erasing 0))).ports.sending =
        some ⟨0x25#8, 1#8, [6#8], .answer⟩ := by decide

/-- R174: a page write ANDs its data into the flash. -/
theorem test_write_ands :
    sparseRead erased
      (after .flashWriteCompletion
        { inService (.writing 128 (0xF0#8 :: List.replicate 127 0xFF#8)) with
          flash := ⟨[(128, 0x3C#8)], .writing 128 (0xF0#8 :: List.replicate 127 0xFF#8), none, false⟩ }).flash.cells 128 =
      0x30#8 := by decide

/-- 5.9, frame starts 1 and 2 of the blink generator: the pending arm becomes effective as ON begins. -/
theorem test_blink_generator_arms :
    stepGenerator ⟨4, 3, .off, 1, .levelDanger, true, false⟩ = ⟨4, 3, .on, 3, .levelDanger, true, true⟩ ∧
      stepGenerator ⟨4, 6, .on, 1, .levelDanger, true, true⟩ = ⟨4, 6, .off, 4, .levelDanger, true, true⟩ := by decide

/-- R36, R37, R38, counted by hand: one pixel of luma 255 in a window of zeros. -/
theorem test_statistics_of_one_bright_pixel :
    frameStats [(5 * 1280 + 5, ⟨255#8, 128#8, 128#8⟩)]
      (meteringWindows [] 0#8 [⟨2, 0, 0, 100, 100, 300, none, 0, 0, false⟩]) = ⟨0, 2, 1⟩ := by decide

/-- R159: a GET_NOTICES frame of kind 0x11 and tag 9 that arrives in two runs of bytes, with a stray byte
before it. -/
theorem test_cab_frame_byte_by_byte :
    let t := after (.requestArrival (.cabBytes [0x55#8, 0x7E#8, 0x00#8, 0x11#8])) running
    t.ports.framer = .frame [0x00#8, 0x11#8] 1000#32 ∧
      (after (.requestArrival (.cabBytes [0x09#8, 0x6D#8, 0xF7#8])) t).ports.sending =
        some ⟨0x11#8, 9#8, [0#8, 0#8, 0#8], .answer⟩ := by decide

/-- R159, R160: the bytes of that answer on the link. -/
theorem test_cab_line_carries_the_frame :
    (⟨0x11#8, 9#8, [0#8, 0#8, 0#8], .answer⟩ : CabFrame).linkBytes =
      [0x7E#8, 0x03#8, 0x11#8, 0x09#8, 0x00#8, 0x00#8, 0x00#8, 0x9D#8, 0x8C#8] := by decide

/-- 2.4, R33: a restart keeps "in use". -/
theorem test_restart_keeps_in_use :
    ((after .partRestart (linked .live (slots .free .ready .reading))).intake.get 2).inUse = true := by decide

/-- R166: the items of one payload are applied in order, and one bad item stops them all. -/
theorem test_set_live_takes_all_or_nothing :
    let live (payload : List Byte) : State := present .cab ⟨0x14#8, 1#8, payload⟩ running
    (live [4#8, 0#8, 0#8, 1#8, 2#8, 0#8]).compositor.switches = ⟨true, true, false⟩ ∧
      (live [4#8, 0#8, 0#8, 1#8, 2#8, 0#8]).arbiter.home = 2 ∧
      (live [4#8, 0#8, 0#8, 1#8, 9#8, 0#8]).compositor.switches = ⟨true, true, true⟩ ∧
      (live [4#8, 0#8, 0#8, 6#8, 0#8, 0#8]).ports.sending = some ⟨0x14#8, 1#8, [5#8], .answer⟩ := by decide

/-- An image of one section, MAPS, of 32 zero bytes at address 24. -/
def mapsImage : List Host.Cell :=
  [(0, 0x53#8), (1, 0x43#8), (2, 0x34#8), (3, 0x36#8), (4, 1#8), (5, 0#8), (6, 1#8), (7, 0#8), (8, 0x4E#8), (9, 0xD1#8),
    (10, 0#8), (11, 0#8), (12, 2#8), (13, 0#8), (14, 0x4C#8), (15, 0xF1#8), (16, 24#8), (17, 0#8), (18, 0#8), (19, 0#8),
    (20, 32#8), (21, 0#8), (22, 0#8), (23, 0#8)] ++
  (List.range 32).map fun i => (24 + i, 0#8)

/-- R172: MAPS is taken, every other section falls back, and a broken header takes MAPS with it. -/
theorem test_load_by_section :
    let r := loadSections mapsImage portsFallback
    (sectionBytes mapsImage 2 = some (List.replicate 32 0#8) ∧ sectionBytes mapsImage 1 = none) ∧
      (r.fell = true ∧ r.loaded.mapLength = 32 ∧ sparseRead erased r.loaded.mapCells 31 = 0#8 ∧
        sparseRead erased r.loaded.mapCells 32 = 0xFF#8) ∧
      sectionBytes (sparseWrite erased mapsImage 6 2#8) 2 = none := by decide

/-! ## Ill-formed commands -/

theorem test_wf_refuses_a_pixel_outside_the_frame : (Instr.frameCompletion 0 [(1024000, ⟨1, 2, 3⟩)]).wellFormed = false := by
  decide

theorem test_wf_refuses_a_long_data_message :
    (Instr.rangeReport (List.replicate 8 0#8)).wellFormed = false ∧
      (Instr.vehicleStatus (List.replicate 8 0#8)).wellFormed = false ∧
      (Instr.bodyStatus (List.replicate 8 0#8)).wellFormed = false := by decide

theorem test_wf_refuses_data_on_its_proper_port : (Instr.wrongMasterData .chassis 0x30#8).wellFormed = false := by decide

theorem test_wf_refuses_long_frames :
    (Instr.requestArrival (.canFrame .body (List.replicate 9 0#8))).wellFormed = false ∧
      (Instr.requestArrival (.cabBytes (List.replicate 207 0#8))).wellFormed = false := by decide

theorem test_wf_refuses_known_kinds_and_long_payloads :
    (Instr.unknownKind .cab 0x01#8 0 []).wellFormed = false ∧ (Instr.unknownKind .cab 0x30#8 0 []).wellFormed = false ∧
      (Instr.unknownKind .body 0x77#8 0 (List.replicate 7 0#8)).wellFormed = false ∧
      (Instr.unknownKind .cab 0x77#8 0 (List.replicate 201 0#8)).wellFormed = false := by decide

theorem test_wf_refuses_a_short_page : (Instr.flashWrite .cab 0 0 []).wellFormed = false := by decide

theorem test_wf_refuses_a_page_from_a_can_master :
    (Instr.flashWrite .body 0 0 (List.replicate 128 0#8)).wellFormed = false := by decide

/-! ## States and operands that meet the hypotheses of the statements, clause by clause -/

theorem witness_CameraFrameStartTakesASlot :
    (State.reset.intake.get 2).link = .down ∧
      ((linked .live (slots .reading .free .filling)).intake.get 2).link ≠ .down ∧
      (slots .reading .free .free).s1.state = .free ∧ (slots .reading .free .free).s0.state ≠ .free ∧
      (∀ i, ((slots .reading .ready .ready).get i).state ≠ .free) ∧ ((slots .reading .ready .ready).get 2).state = .ready ∧
      ∀ i, ((slots .reading .reading .filling).get i).state ≠ .free ∧
        ((slots .reading .reading .filling).get i).state ≠ .ready := by decide

theorem witness_FillingFreed : FillingFreed (slots .reading .free .filling) (slots .reading .free .free) := by
  unfold FillingFreed
  decide

theorem witness_HeaderWithTheRightNumberIsAccepted :
    (3#4).toNat = (3 : Camera).val ∧ (0#4).toNat = (0 : Camera).val ∧ (2#4).toNat = (2 : Camera).val ∧
      ((linked .search (slots .free .free .filling)).intake.get 2).link ≠ .down := by decide

theorem witness_HeaderWithAWrongNumberIsAMismatch :
    (State.reset.intake.get 2).link = .down ∧ (4#4).toNat ≠ (2 : Camera).val ∧ (15#4).toNat ≠ (2 : Camera).val ∧
      ((linked .live (slots .free .free .filling)).intake.get 2).link ≠ .down := by decide

theorem witness_FrameCompletionReadiesTheSlot :
    fillingSlot ((linked .live (slots .free .ready .reading)).intake.get 2).slots = none ∧
      (State.reset.intake.get 2).link = .down ∧
      fillingSlot ((linked .search (slots .free .ready .filling)).intake.get 2).slots = some 2 ∧
      ((linked .search (slots .free .ready .filling)).intake.get 2).link = .search := by decide

theorem witness_LinkTimersExpire :
    let s := linked .live (slots .free .free .free)
    (s.intake.get 2).link = .live ∧ (s.intake.get 2).stall = some 900#32 ∧ 100 ≤ (s.ms - 900#32).toNat ∧
      (3000 ≤ (4000#32 - 1000#32).toNat ∧ (3999#32 - 1000#32).toNat < 3000) ∧
      ({ intakeStart with lost := .running 1000#32 } : CameraIntake).lost = .running 1000#32 ∧
      (s.intake.get 2).lost = .stopped ∧ (s.intake.get 1).lost = .expired := by decide

theorem witness_GainUpdateStepsTowardTheTarget :
    let step (T m : Int) : Int := max (-4) (min 4 (Int.tdiv (T - m) 8))
    63 < 63 + step 110 70 ∧ 0 + step 110 200 < 0 ∧ 63 + step 110 110 = 63 ∧ 0 + step 110 103 = 0 := by decide

/-- A camera about to complete a frame with applied gain 0, its exposure record given. -/
def completing (e : Exposure) : State :=
  { linked .live (slots .reading .free .filling) with exposure := State.reset.exposure.set 2 e }

theorem witness_HandoverChecksTheCommandInFlight :
    let s := completing exposureStart
    fillingSlot (s.intake.get 2).slots = some 2 ∧ ((s.intake.get 2).slots.get 2).gain = 0 ∧
      (s.intake.get 2).link = .live ∧ s.mode ≠ .starting ∧ (s.exposure.get 2).inFlight = none ∧
      ((completing { exposureStart with inFlight := some ⟨0, 0⟩ }).exposure.get 2).inFlight = some ⟨0, 0⟩ ∧
      ((completing { exposureStart with inFlight := some ⟨7, 4⟩ }).exposure.get 2).inFlight = some ⟨7, 4⟩ ∧ 4 + 1 < 6 ∧
      ((completing { exposureStart with inFlight := some ⟨7, 5⟩ }).exposure.get 2).inFlight = some ⟨7, 5⟩ ∧ 6 ≤ 5 + 1 := by
  decide

theorem witness_HandoverMovesTheWatchSets :
    let s := completing { exposureStart with watch := { (Quad.all WatchState.clear) with c2 := .asserted } }
    fillingSlot (s.intake.get 2).slots = some 2 ∧ (s.intake.get 2).link = .live ∧ s.mode ≠ .starting ∧
      watchAsserted ((s.exposure.get 2).watch.get 2) = true ∧ watchAsserted ((s.exposure.get 2).watch.get 0) = false ∧
      ((linked .stalled (slots .reading .free .filling)).intake.get 2).link = .stalled := by
  decide

theorem witness_HandoverMovesTheWatchSets_one_set :
    let w : WatchSet := { watchFallback.c1 with persistence := 2 }
    (w.threshold < 41 ∧ ¬ w.threshold < 40 ∧ (29 : Int) < w.threshold - w.margin ∧ ¬ (30 : Int) < w.threshold - w.margin) ∧
      moveWatch w 41 .clear = .entering 1 ∧ moveWatch w 41 (.entering 1) = .asserted ∧
      moveWatch w 29 .asserted = .leaving 1 ∧ moveWatch w 29 (.leaving 1) = .clear := by decide

/-- A cell of camera 2 with previous means. -/
def cellOf (previous : Option (List Nat)) : MotionCell := ⟨2, 0, 0, 100, 100, 300, previous, 0, 1, false⟩

theorem witness_HandoverScoresTheMotionCells :
    let cells := [cellOf (some (List.replicate 16 0)), { cellOf none with camera := 1 }]
    let s := { completing exposureStart with motion := ⟨cells, Quad.all (some 0)⟩ }
    fillingSlot (s.intake.get 2).slots = some 2 ∧ ((s.intake.get 2).slots.get 2).gain = 0 ∧
      (s.intake.get 2).link = .live ∧ s.mode ≠ .starting ∧ s.motion.lastGain.get 2 = some 0 ∧
      (∀ x ∈ s.motion.cells, x.camera = 2 → x.previous ≠ none) ∧ (cellOf none).previous = none ∧
      (cellOf none).camera = 2 ∧ (completing exposureStart).motion.lastGain.get 2 ≠ some 0 := by decide

theorem witness_RangeReadingsBecomeSightings :
    let k : Sensor := ⟨3, true, 640, 0, -711, 4034, 500⟩
    let l := [k, { k with number := 4, enabled := false }]
    (portActive .body running = true ∧ running.mode ≠ .starting ∧ reportWellFormed [1#8, 0xB4#8, 0x0C#8] = true) ∧
      (portActive .body State.reset = false ∧ State.reset.mode = .starting ∧ reportWellFormed [4#8] = false) ∧
      (findSensor l 3 = some k ∧ 3073 = 3 * 1024 + 1 ∧ 3572 = 3 * 1024 + 500 ∧ 500 ≤ k.maxRange) ∧
      (3072 = 3 * 1024 + 0 ∧ 3573 = 3 * 1024 + 501 ∧ k.maxRange < 501) ∧
      (∀ x, findSensor l 5 = some x → x.enabled = false) ∧ ∀ x, findSensor l 4 = some x → x.enabled = false := by
  refine ⟨by decide, by decide, by decide, by decide, ?_, ?_⟩ <;> simp +decide

theorem witness_VehicleMessagesWriteTheirFields :
    (portActive .chassis running = true ∧ running.mode ≠ .starting ∧
      ([0#8, 0#8, 3#8, 1#8] : List Byte).length = 4 ∧ gearOfCode (byteAt [0#8, 0#8, 3#8, 1#8] 2) = some none ∧
      indicatorOfCode (byteAt [0#8, 0#8, 3#8, 1#8] 3) = some (some .on)) ∧
      (portActive .body running = true ∧ liftOfCode (byteAt [1#8] 0) = some (some .cycling)) ∧
      ((inService .idle).mode = .service ∧ (inService .idle).flash.op = .idle ∧ portActive .chassis (inService .idle) = true) ∧
      ((inService (.erasing 0)).flash.op ≠ .idle ∧ u16At [1#8, 0#8, 3#8, 1#8] 0 ≠ 0) ∧
      (([0#8, 0#8, 0#8] : List Byte).length ≠ 4 ∧ 3 < byteAt [0#8, 0#8, 4#8, 0#8] 2 ∧ byteAt [0#8, 0#8, 0#8, 2#8] 3 = 2 ∧
        3 < byteAt [0#8, 0#8, 0#8, 4#8] 3 ∧ ([] : List Byte).length ≠ 1 ∧ byteAt [2#8] 0 = 2 ∧ 3 < byteAt [4#8] 0) := by
  decide

/-- A part whose speed was last written at millisecond 500. -/
def spedAt (s : State) : State :=
  { s with alert := { s.alert with vehicle := { s.alert.vehicle with speed := ⟨some 0, some 500#32, some 500#32⟩ } } }

theorem witness_StalenessExpiryMakesTheFieldUnknown :
    fieldTimer .speed (spedAt running).alert.vehicle = some 500#32 ∧
      running.loaded.staleLimit < (1001#32 - 500#32).toNat ∧ ((spedAt running).ms - 500#32).toNat ≤ running.loaded.staleLimit ∧
      fieldTimer .speed (spedAt (inService .idle)).alert.vehicle = some 500#32 ∧ (inService .idle).mode = .service := by
  decide

theorem witness_TrackerTimerBeginsAnUpdate :
    updating.tracker.timer = some 900#32 ∧ 100 ≤ (updating.ms - 900#32).toNat ∧ updating.tracker.update ≠ none ∧
      ({ trackerStart with timer := some 900#32 } : Tracker).update = none := by decide

/-- A candidate at its track's position. -/
def candidate (t : Track) : Candidate := ⟨t, t.x, t.y, false, []⟩

theorem witness_SightingFindsItsTrack :
    let k := candidate (trackOf 7 .coasting 600 160 0 0 3 2)
    let a : Association := ⟨[some k, none], 7, 0⟩
    (a.slots[0]? = some (some k) ∧ groundDistance 680 160 k.atX k.atY ≤ 80) ∧
      (80 < groundDistance 681 160 k.atX k.atY ∧ a.slots[1]? = some none ∧ a.slots[0]? ≠ some none) ∧
      (replaceable k = true ∧ ([some k] : List (Option Candidate))[0]? = some (some k)) ∧
      replaceable (candidate (trackOf 7 .confirmed 600 160 0 0 3 0)) = false := by decide

theorem witness_CandidateSettles :
    let took (k : Candidate) : Candidate := { k with took := [⟨601, 161, .motion⟩] }
    let k (st : TrackState) (n : Nat) := candidate (trackOf 7 st 600 160 0 0 2 n)
    let l := [some { k .tentative 0 with created := true }, some (k .tentative 0), some (k .confirmed 0), some (k .coasting 3),
      some (k .coasting 4), some (took (k .tentative 0))]
    (settleSlots l).map Option.isSome = [true, false, true, true, false, true] := by decide

theorem witness_TrackTakesTheHighestContribution :
    let k : Zone := ⟨2, true, 200, 1000, 0, 200, .always, .caution, 1500, some 2⟩
    findZone zones78 2 = some k ∧ zoneActive standingStill k = true ∧
      zoneContains k (trackOf 7 .confirmed 606 166 (-24) (-146) 15 0).x 166 = true ∧
      closingRaises k.closing 166 (-146) = true ∧ closingRaises k.closing 200 0 = false ∧ zoneContains k 1000 200 = true ∧
      (rateTrack zones78 standingStill (trackOf 7 .confirmed 606 166 (-24) (-146) 15 0)).computed ≠ .none ∧
      (rateTrack zones78 standingStill (trackOf 7 .confirmed 606 501 0 0 15 0)).computed = .none ∧
      (trackOf 7 .tentative 0 0 0 0 1 0).state = .tentative := by decide

theorem witness_tracker_update : ∃ u, updating.tracker.update = some u := ⟨_, rfl⟩

/-- `updating` with track 7 already at a stored level and fall count. -/
def falling (stored : Level) (fall : Nat) : State :=
  { updating with
    tracker :=
      { updating.tracker with
        tracks := some { trackOf 7 .confirmed 609 177 (-22) 742 14 0 with stored := stored, fall := fall } ::
          List.replicate 15 none
        update := some ⟨[⟨582, 540, .range⟩], some (607, 500) :: List.replicate 15 none, standingStill⟩ } }

theorem witness_StoredLevelIsAtLeastTheComputedLevel :
    ((after .trackerUpdateCompletion (falling .danger 1)).tracker.tracks.map fun o => o.map fun t => (t.computed, t.stored, t.fall)).head? =
        some (some (.none, .danger, 2)) ∧
      ((after .trackerUpdateCompletion (falling .danger 2)).tracker.tracks.map fun o => o.map fun t => (t.computed, t.stored, t.fall)).head? =
        some (some (.none, .none, 0)) ∧
      ((after .trackerUpdateCompletion updating).tracker.tracks.map fun o => o.map fun t => (t.computed, t.stored, t.fall)).head? =
        some (some (.danger, .danger, 0)) := by decide

theorem witness_UpdateCompletionPublishes :
    let x (v : Level) : Track := { trackOf 7 .confirmed 0 0 0 0 3 0 with stored := v }
    let l := [none, some (x .caution), some (x .danger), some (x .danger)]
    (updating.tracker.update ≠ none ∧ l[2]? = some (some (x .danger))) ∧ highestTrack l = some (x .danger) ∧
      highestTrack [none] = none ∧ zoneActive ⟨none, none, none, none⟩ ⟨0, true, 0, 0, 0, 0, .liftActive, .notice, 0, none⟩ = true := by
  decide

theorem witness_AlertClaimFollowsTheWantedClaim :
    updating.mode = .running ∧ updating.arbiter.claims.c3 = none ∧ State.reset.mode ≠ .running ∧
      claimLevel (after .trackerUpdateCompletion updating).alert.level = some 6 ∧
      claimLevel (after .trackerUpdateCompletion (falling .none 0)).alert.level = none ∧
      ({ updating.arbiter with claims := updating.arbiter.claims.set 3 (some ⟨2, 4, none, true⟩) } : Arbiter).claims.c3 =
        some ⟨2, 4, none, true⟩ := by decide

theorem witness_AlertClaimFollowsTheWantedClaim_linger :
    ({ alertStart with linger := some 1000#32 } : Alert).linger = some 1000#32 ∧ 2000 ≤ (3000#32 - 1000#32).toNat ∧
      (2999#32 - 1000#32).toNat < 2000 := by decide

theorem witness_StartingPictureIsSent :
    State.reset.compositor.mode = .startingPicture ∧ State.reset.mode = .starting ∧ State.reset.arbiter.state = .settled ∧
      (decideArbiter arbiterStart).state = .targetHeld ∧
      (decideArbiter arbiterStart).target = some ⟨.stored 0, .home⟩ ∧
      (suspendClaims arbiterStart).state = .service ∧
      (suspendClaims arbiterStart).target = some ⟨.quad, .home⟩ := by decide

theorem witness_LayoutFrameStartActsInOrder :
    let held := decideArbiter { running.arbiter with home := 2 }
    running.compositor.mode = .layout ∧ running.compositor.inEffect = some (.stored 1) ∧ memoryCanonical running = true ∧
      (running.compositor.work = .done ∧ running.arbiter.state = .settled) ∧
      (held.state = .targetHeld ∧ held.target = some ⟨.stored 2, .home⟩) ∧
      (resolveLayout running.loaded (.stored 1)).cameras.getLsbD 0 = true ∧
      (resolveLayout running.loaded (.stored 1)).cameras.getLsbD 2 = false ∧
      ({ intakeStart with slots := slots .ready .reading .free } : CameraIntake).slots.s0.state = .ready ∧
      (({ running.arbiter with state := .dwell, dwell := 2 } : Arbiter).dwell = 2 ∧ running.loaded.ports.dwell ≠ 0) ∧
      ((decideArbiter arbiterStart).state = .targetHeld ∧
        heldTiles (resolveLayout running.loaded (.stored 1)) (.waitFill 0) none ≠ []) ∧
      locatePair (resolveLayout running.loaded (.stored 1)) 0 ≠ none := by decide

/-- `running` with the one pair of L1 in drawing, for a snapshot of the state itself. -/
def drawing : State :=
  { running with
    compositor :=
      { running.compositor with
        work := .drawing 0 (madeRecord 0 0 0) (madeRecord 0 0 0)
        snapshot := some (takeSnapshot (Quad.all true) running)
        reportPending := true } }

theorem witness_PairRenderedWritesItsTiles :
    drawing.compositor.work = .drawing 0 (madeRecord 0 0 0) (madeRecord 0 0 0) ∧
      drawing.compositor.inEffect = some (.stored 1) ∧
      drawing.compositor.snapshot = some (takeSnapshot (Quad.all true) running) ∧
      (locatePair (resolveLayout drawing.loaded (.stored 1)) 0).any (fun w => decide (w.pane.left + w.pane.width ≤ 1280)) = true ∧
      memoryCanonical drawing = true ∧ (resolveLayout drawing.loaded (.stored 1)).pairs = 1 ∧
      drawing.loaded.ports.dwell ≠ 0 ∧ (resolveLayout drawing.loaded .quad).pairs = 120 := by decide

/-- `running` with the map area of L1's pair and its refill in flight to entry 39, the records' first byte given. -/
def refilling (work : Work) (kind : Byte) : State :=
  { running with
    loaded := { running.loaded with mapLength := 64, mapCells := (List.range 64).map fun i => (i, if i = 0 then kind else 0#8) }
    remap :=
      { remapStart with
        entries := (List.replicate 40 CacheEntry.empty).set 39 (.filling ⟨1, 0, 0⟩ .b)
        slot0 := some ⟨39, ⟨1, 0, 0⟩⟩ }
    compositor := { running.compositor with work := work } }

theorem witness_LookupsFindTheirRecords :
    let l := resolveLayout running.loaded (.stored 1)
    let x : MapRecord := madeRecord 0 0 0
    let key : Key := ⟨1, 0, 0⟩
    let two : Remap := { remapStart with slot0 := some ⟨38, ⟨1, 0, 8⟩⟩, slot1 := some ⟨37, ⟨1, 0, 9⟩⟩ }
    let full : Remap :=
      { remapStart with entries := (List.replicate 40 CacheEntry.empty).set 39 (.valid key .b x x), faulted := [⟨key, x, x⟩] }
    (plainQuad.builtIn = true ∧ l.builtIn = false ∧ (locatePair l 0).map (placeKey l) = some key ∧ locatePair l 1 = none) ∧
      (full.entry 39 = .valid key .b x x ∧ ∀ j < 40, (full.entry j).key = some key → j = 39) ∧
      ((refilling .done 0).remap.entry 39 = .filling key .b) ∧
      (full.faulted = [] ++ ⟨key, x, x⟩ :: [] ∧ ∀ j < 40, (two.entry j).key ≠ some key) ∧
      (two.slot0 ≠ none ∧ two.slot1 ≠ none) ∧ (0 < ({ remapStart with pinned := 1 } : Remap).pinned) ∧
      (remapStart.pointer = 39 ∧ remapStart.inUse ≠ some 39) := by decide

theorem witness_RefillCompletes :
    let s := refilling (.waitFill 0) 0
    (s.remap.slot 0 = some ⟨39, ⟨1, 0, 0⟩⟩ ∧ s.remap.entry 39 = .filling ⟨1, 0, 0⟩ .b ∧
      s.compositor.inEffect = some (.stored 1) ∧ (resolveLayout s.loaded (.stored 1)).builtIn = false) ∧
      ((fetchPair s.loaded ⟨1, 0, 0⟩).any fun p => !recordInvalid p.1 && !recordInvalid p.2) = true ∧
      ((fetchPair (refilling .done 9).loaded ⟨1, 0, 0⟩).any fun p => recordInvalid p.1) = true ∧
      fetchPair running.loaded ⟨1, 0, 0⟩ = none ∧ remapStart.entry 39 = .empty ∧
      (after (.refillCompletion 0) s).compositor.work ≠ s.compositor.work ∧
      (locatePair (resolveLayout s.loaded (.stored 1)) 0).map (placeKey (resolveLayout s.loaded (.stored 1))) = some ⟨1, 0, 0⟩ ∧
      (refilling (.waitSlot 0) 0).compositor.work = .waitSlot 0 := by decide

theorem witness_WinnerIsTheHighestClaim :
    arbiterStart.claims = Quad.all none ∧
      (winner { arbiterStart with claims := ⟨some ⟨1, 4, none, false⟩, some ⟨2, 4, none, true⟩, none, none⟩ }).layout = 2 := by
  decide

theorem witness_DecisionFollowsTheTable :
    let a : Arbiter := running.arbiter
    (a.state = .settled ∧ a.shown = some (.stored (winner a).layout)) ∧
      a.shown ≠ some (.stored (winner { a with home := 2 }).layout) ∧
      (winner { a with claims := a.claims.set 3 (some ⟨2, 6, none, false⟩) }).level = some 6 ∧
      (winner { a with claims := a.claims.set 3 (some ⟨2, 5, none, false⟩) }).level = some 5 ∧
      (inService .idle).arbiter.state = .service := by decide

theorem witness_ClaimExpiryRemovesTheClaim :
    let k (e : Option Word) : Option Claim := some ⟨2, 4, e, false⟩
    (({ arbiterStart with claims := arbiterStart.claims.set 2 (k (some 1000#32)) }).claims.get (masterSlot .chassis) =
        k (some 1000#32)) ∧
      (running.ms - 1000#32).toNat < 2147483648 ∧ 2147483648 ≤ (running.ms - 1001#32).toNat ∧
      arbiterStart.claims.get (masterSlot .cab) = none := by decide

theorem witness_takenAtOnce : takenAtOnce .cab running ∧ takenAtOnce .body running ∧ takenAtOnce .chassis running ∧
    takenAtOnce .cab (inService .idle) ∧ takenAtOnce .cab State.reset := by
  unfold takenAtOnce
  decide

theorem witness_RequestsAreQueuedAndJudgedInOrder :
    let r : Request := ⟨0x04#8, 1#8, []⟩
    let answeringCab : State := { running with ports := { activePorts with sending := some ⟨0x04#8, 0#8, [], .answer⟩ } }
    let full : State := { running with ports := { activePorts with queues := ⟨[r, r, r, r], [], []⟩ } }
    (([] : List Byte).length < 2 ∧ (List.replicate 200 0#8).length ≤ 200 ∧ isDataKind 0x04#8 = false ∧
      [0#8, 0x11#8] ++ [0x09#8, 0x6D#8, 0xF7#8] = [0#8, 0x11#8, 0x09#8] ++ [0x6D#8, 0xF7#8]) ∧
      (isRequest 0x77#8 = false ∧ isDataKind 0x77#8 = false ∧ isRequest 0x25#8 = true ∧ isDataKind 0x30#8 = true) ∧
      (canReceive .body State.reset = false ∧ canReceive .cab full = true ∧ 4 ≤ (full.ports.queues.get .cab).length) ∧
      (answering .cab answeringCab = true ∧ (answeringCab.ports.queues.get .cab).length < 4) ∧
      6 ≤ (0x06#8).toNat ∧ isRequest 0x05#8 = true ∧ State.reset.mode = .starting := by decide

theorem witness_ClaimRequestsWriteTheClaimTable :
    let barred : State := { running with loaded := { running.loaded with ports := { portsFallback with mayClaim := ⟨false, true, true⟩ } } }
    (running.mode = .running ∧ running.loaded.ports.mayClaim.get .cab = true ∧ barred.loaded.ports.mayClaim.get .cab = false ∧
      (inService .idle).mode = .service) ∧
      (11 < (12#8).toNat ∧ findLayout running.loaded.layouts 11 = none ∧ findLayout running.loaded.layouts 2 ≠ none) ∧
      arbiterStart.claims.get (masterSlot .cab) = none ∧
      (after (.claimView .cab 1 2 4 5000) running).arbiter.claims.get (masterSlot .cab) ≠ none := by decide

theorem witness_ReadingRequestsChangeNothing :
    let s := refilling .done 0
    (15 < (16#8).toNat ∧ (15#8).toNat ≤ 15 ∧ 39 < (40#8).toNat ∧ (39#8).toNat ≤ 39) ∧
      probePresent s.loaded.layouts ⟨1, 0, 0⟩ = true ∧ probePresent s.loaded.layouts ⟨1, 0, 1⟩ = false ∧
      isBuiltIn s.loaded.layouts 1 = false ∧ (s.remap.entry 39).key = some ⟨1, 0, 0⟩ ∧ (remapStart.entry 39).key ≠ some ⟨1, 0, 0⟩ ∧
      s.remap.find ⟨1, 0, 0⟩ = some 39 := by decide

/-- A mark of the list. -/
def markOf (n : Nat) (collected : Bool) : Mark :=
  ⟨BitVec.ofNat 16 n, .master .cab, 0#32, 0#32, .none, none, ⟨none, none, none, none⟩, [], collected, true⟩

theorem witness_ClearingRequestsReturnAndClear :
    ([markOf 40 true, markOf 42 false] = [markOf 40 true] ++ markOf 42 false :: [] ∧ (markOf 42 false).collected = false ∧
      ∀ y ∈ [markOf 40 true], y.collected = true) ∧
      (∀ x ∈ running.incident.marks, x.collected = true) ∧ running.mode ≠ .starting := by decide

theorem witness_SettingRequestsWriteTheirSettings :
    (running.alert.level.code < running.alert.warningLevel.code ∧
      (after .trackerUpdateCompletion updating).alert.warningLevel.code ≤ (after .trackerUpdateCompletion updating).alert.level.code) ∧
      (11 < (12#16).toNat ∧ findLayout running.loaded.layouts 11 = none ∧ findLayout running.loaded.layouts 2 ≠ none) ∧
      (1 < (2#16).toNat ∧ (1#16).toNat ≤ 1) ∧ ((4#16).toNat ≠ 2 ∧ (4#16).toNat ≠ 3 ∧ (2#16).toNat = 2 ∧ (3#16).toNat = 3) ∧
      ((0#16).toNat = 0 ∧ 255 < (256#16).toNat ∧ 1 ≤ (255#16).toNat ∧ (255#16).toNat ≤ 255) ∧
      (({ activePorts with sending := some ⟨0x40#8, 0#8, [], .unasked⟩ } : Ports).sending ≠ none ∧
        running.ports.waiting = []) ∧
      (([4#8, 0#8, 0#8] ++ [1#8, 2#8, 0#8] : List Byte).length ≤ 48 ∧ answering .cab running = false) := by decide

theorem witness_MarkIncidentEntersAMark :
    let full (b : Bool) : List Mark := markOf 40 b :: (List.range 7).map fun i => markOf (41 + i) false
    running.incident.marks.length < 8 ∧ (full true).length = 8 ∧ (∃ x ∈ full true, x.collected = true) ∧
      ∀ x ∈ full false, x.collected = false := by decide

theorem witness_TriggerConditionsMoveByTheirTable :
    let x : Trigger := ⟨true, .vehicle, [254, 1, 1, 254], .atLeast 1, 0, 0⟩
    let r : EventRecord := .vehicle ⟨some 1, none, some .on, some .cycling⟩
    let s : State :=
      { running with
        loaded := { running.loaded with triggers := ⟨x, { x with delay := 2 }, x, x⟩ }
        incident := { incidentStart with triggers := ⟨.armed, .armed, .delaying 1, .holding 2⟩ } }
    (recordMatches x r = true ∧ s.mode ≠ .starting ∧ State.reset.mode = .starting) ∧
      (offerRecord r s).incident.triggers = ⟨.armed, .delaying 2, .delaying 1, .holding 2⟩ ∧
      (offerRecord r s).incident.marks.map Mark.source = [.trigger 0] ∧
      (countTriggers s.incident.triggers s).incident.triggers = ⟨.armed, .armed, .armed, .holding 1⟩ ∧
      (countTriggers s.incident.triggers s).incident.marks.map Mark.source = [.trigger 2] := by decide

theorem witness_ServiceRequestsMoveTheOperatingState :
    (running.flash.op = .idle ∧ running.flash.exitPending = false ∧ running.mode = .running) ∧
      ((inService .idle).mode = .service ∧ (inService (.reading 0)).flash.op ≠ .idle) ∧
      ((spedAt running).alert.vehicle.speed.value = some 0 ∧ (spedAt running).alert.vehicle.gear.value ≠ some .reverse ∧
        (spedAt running).alert.level = .none) ∧
      running.alert.vehicle.speed.value ≠ some 0 := by decide

theorem witness_FlashOperationsBeginAndComplete :
    ((inService .idle).mode = .service ∧ running.mode = .running ∧ (inService (.reading 0)).flash.op ≠ .idle) ∧
      ((0x7FFF80#24).toNat % 128 = 0 ∧ (0x7FFF80#24).toNat < 8388608 ∧ 8388608 ≤ (0x800000#24).toNat ∧
        (127#24).toNat % 128 ≠ 0) ∧
      ((0x7FF000#24).toNat % 4096 = 0 ∧ (128#24).toNat % 4096 ≠ 0) ∧
      (List.replicate 128 0#8).length = 128 ∧ (List.replicate 127 0#8).length ≠ 128 ∧
      (inService .idle).flash.buffer = none := by decide

theorem witness_CabFramerHuntsAndBreaks :
    let whole : List Byte := [0x00#8, 0x11#8, 0x09#8, 0x6D#8, 0xF7#8]
    (running.ports.framer = .hunt ∧ ({ activePorts with framer := .frame [] 995#32 } : Ports).framer = .frame [] 995#32) ∧
      (5 ≤ (running.ms - 995#32).toNat ∧ (running.ms - 996#32).toNat < 5 ∧ (0x7F#8 : Byte) ≠ 0x7E#8) ∧
      (200 < byteAt [201#8] 0 ∧ byteAt [200#8] 0 ≤ 200 ∧ ([200#8] : List Byte).length < byteAt [200#8] 0 + 5) ∧
      (whole.length = byteAt whole 0 + 5 ∧ (crc16 (whole.take 3)).toNat = 256 * byteAt whole 3 + byteAt whole 4) ∧
      ({ activePorts with sending := some ⟨0x11#8, 9#8, [], .answer⟩ } : Ports).sending = some ⟨0x11#8, 9#8, [], .answer⟩ := by
  decide

theorem witness_DataOutOfPlaceIsIgnored :
    portActive .body running = true ∧ portActive .chassis running = true ∧ (0x30#8 : Byte) ≠ 0x31#8 ∧ (0x33#8 : Byte) ≠ 0x30#8 ∧
      Framer.frame [] 0#32 ≠ .hunt ∧ portActive .chassis State.reset = false ∧ portActive .body State.reset = false := by decide

theorem witness_FramesSentWholeServeTheQueues :
    let r : Request := ⟨0x04#8, 1#8, []⟩
    let f (x : FrameRole) : CabFrame := ⟨0x04#8, 0#8, [], x⟩
    let g (x : FrameRole) : CanFrame := ⟨0x301, [], x⟩
    let s : State :=
      { running with
        ports :=
          { activePorts with
            sending := some (f .answer), queues := ⟨[r], [r], []⟩
            can := { activePorts.can with body := { activePorts.can.body with store := [g .answer] } } } }
    (s.ports.sending = some (f .answer) ∧ s.ports.queues.cab = [r] ∧ running.ports.sending = none) ∧
      (portActive .body s = true ∧ (s.ports.can.get .body).store = [g .answer] ∧ s.ports.queues.get (portMaster .body) = [r]) ∧
      (running.ports.can.get .body).store = [] ∧ (f .restart).role = .restart ∧ (after .cabFrameSent s).ports.queues.cab = [] := by
  decide

theorem witness_CanPortsLeaveJoinAndBroadcast :
    (running.ports.can.get .body).state = .active ∧ (State.reset.ports.can.get .body).state ≠ .active ∧
      ((after (.busOff .body) running).ports.can.get .body).state = .busOff 1000#32 ∧
      1000 ≤ (2000#32 - 1000#32).toNat ∧ (1999#32 - 1000#32).toNat < 1000 ∧
      (running.ports.can.get .body).timer = some 0#32 ∧ 100 ≤ (100#32 - 0#32).toNat ∧ 20 ≤ (20#32 - 0#32).toNat ∧
      (99#32 - 0#32).toNat < 100 ∧ (19#32 - 0#32).toNat < 20 := by decide

theorem witness_LoadTakesPortsAndEntersRunning :
    State.reset.mode = .starting ∧ State.reset.loader.portsTaken = false ∧
      (after .portsTaken State.reset).mode = .starting ∧ (after .portsTaken State.reset).loader.portsTaken = true ∧
      running.mode ≠ .starting := by decide

theorem witness_FlashOperationsBeginAndComplete_completions :
    memoryCanonical (inService (.reading 0)) = true ∧ (inService (.reading 0)).flash.op = .reading 0 ∧
      (inService (.writing 0 [])).flash.op = .writing 0 [] ∧ (inService (.erasing 0)).flash.op = .erasing 0 ∧
      (inService .idle).flash.op = .idle := by decide

theorem witness_LoadFallsBackBySection :
    sectionBytes mapsImage 2 ≠ none ∧ u32At ((List.range 12).map fun i => sparseRead erased [] i) 0 ≠ 0x36344353 := by decide

/-- A LAYOUTS section of one layout of one class A pair. -/
def layoutsBytes : List Byte :=
  [1#8, 1#8, 1#8, 0#8, 1#8, 0#8, 0#8, 0#8, 0#8, 0#8, 64#8, 0#8, 32#8, 0#8, 1#8, 0#8] ++ List.replicate 14 0#8

theorem witness_SectionsPassTheirChecks :
    (parsePalette (List.replicate 48 0#8) ≠ none ∧ parseSensors [0#8, 0#8] ≠ none ∧ parseCells [0#8, 0#8] ≠ none ∧
      parseOverlays [0#8, 0#8] ≠ none ∧ parseZones [0#8, 0#8, 2#8, 0#8, 0#8] ≠ none) ∧
      (parseTriggers (((List.range 4).map fun n => BitVec.ofNat 8 n :: List.replicate 11 0#8).flatten) ≠ none ∧
        parseWatch (((List.range 4).map fun n => BitVec.ofNat 8 n :: [0#8, 0#8, 0#8, 0#8, 0#8, 0#8, 1#8, 0#8, 0#8]).flatten ++
          List.replicate 4 40#8) ≠ none ∧
        parsePorts ([1#8, 1#8, 1#8, 0#8, 0#8, 0#8, 0#8, 250#8, 0#8, 0#8, 0#8, 250#8, 0#8] ++ List.replicate 18 0#8) ≠ none) ∧
      (parseLayouts 64 [] layoutsBytes ≠ none ∧ parseLayouts 63 [] layoutsBytes = none) ∧
      parseCells ([1#8, 0#8, 4#8] ++ List.replicate 9 0#8 ++ [1#8, 0#8]) = none := by decide

theorem witness_ResetsReturnToTheStartState : memoryCanonical running = true := by decide

theorem witness_StepRunsTheFrontCommand :
    ({ running with pending := [.portsTaken, .loadCompletion] } : State).pending = .portsTaken :: [.loadCompletion] ∧
      running.pending = [] := by decide

theorem witness_commands_that_answer :
    (∃ t, exec (.lockLost 2) running = .next t) ∧ (∃ t, exec .loadCompletion running = .next t) ∧
      ∃ t, exec .flashEraseCompletion running = .next t := ⟨⟨_, rfl⟩, ⟨_, rfl⟩, ⟨_, rfl⟩⟩

theorem witness_AlertLevelChangesOnlyAtUpdates :
    (after .trackerUpdateCompletion updating).alert.level ≠ updating.alert.level := by decide

theorem witness_OperatingStateMovesAsStated :
    (after .loadCompletion (after .portsTaken State.reset)).mode = .running ∧ State.reset.mode = .starting ∧
      (after (.enterService .cab 1) (spedAt running)).mode = .service := by decide

/-- Every invariant holds in a part that runs, is updating its tracks and refills a pair, and each of these has a step. -/
theorem witness_invariants :
    (memoryCanonical updating = true ∧ listsBounded updating = true ∧ remapSound (refilling (.waitFill 0) 0) = true ∧
      tracksSound updating = true ∧ claimsSound updating = true ∧ marksSound updating = true ∧ linksSound updating = true ∧
      slotsSound updating = true ∧ requestsServed updating = true) ∧
      linksSound (linked .live (slots .reading .ready .filling)) = true ∧
      slotsSound (linked .live (slots .reading .ready .filling)) = true := by decide

theorem witness_invariant_steps :
    (∃ t, step { updating with pending := [.trackerUpdateCompletion] } = .next t) ∧
      (∃ t, step { linked .live (slots .reading .ready .filling) with pending := [.lockLost 2] } = .next t) ∧
      ∃ t, step { refilling (.waitFill 0) 0 with pending := [.refillCompletion 0] } = .next t := ⟨⟨_, rfl⟩, ⟨_, rfl⟩, ⟨_, rfl⟩⟩

end Sys2Proof.Tests
end

section
/-! PROOFS. Exposure, metering and lens condition (chapter 3): the gain update of R39 and R40. -/

namespace Sys2Proof.Machine

/-! ## The arithmetic of the gain update -/

/-- The model's clamp (R2) as the library's `max` and `min`. -/
theorem clampInt_eq_max_min {lo hi : Int} (h : lo ≤ hi) (x : Int) : clampInt lo hi x = max lo (min hi x) := by
  unfold clampInt
  split
  next below => omega
  next =>
    split
    next above => omega
    next within => omega

theorem gainStep_eq_max_min (target : Int) (m : Nat) :
    gainStep target m = max (-4) (min 4 (Int.tdiv (target - m) 8)) :=
  clampInt_eq_max_min (by decide) _

/-- Step 4 of R39: the clamp keeps the index below 64, so nothing is lost where it becomes a `Gain`. -/
theorem wantedGain_val_eq_max_min (e : Exposure) (step : Int) :
    ((wantedGain e step).val : Int) = max 0 (min 63 ((e.gain.val : Int) + step)) := by
  have hval : (wantedGain e step).val = (clampInt 0 63 ((e.gain.val : Int) + step)).toNat % 64 := rfl
  rw [hval, clampInt_eq_max_min (by decide)]
  omega

/-! ## The limit balance: one equation for each row of R40 -/

theorem moveBalance_above {g : Int} (h : 63 < g) (balance : Int) :
    moveBalance balance g = if balance < 127 then balance + 1 else balance := if_pos h

theorem moveBalance_below {g : Int} (h : g < 0) (balance : Int) :
    moveBalance balance g = if -127 < balance then balance - 1 else balance :=
  (if_neg (by omega)).trans (if_pos h)

theorem moveBalance_within {g : Int} (h0 : 0 ≤ g) (h63 : g ≤ 63) (balance : Int) :
    moveBalance balance g =
      if 0 < balance then balance - 1 else if balance < 0 then balance + 1 else 0 := by
  have hrow : moveBalance balance g =
      if 0 < balance then balance - 1 else if balance < 0 then balance + 1 else balance :=
    (if_neg (by omega)).trans (if_neg (by omega))
  rw [hrow]
  split
  next => rfl
  next =>
    split
    next => rfl
    next => omega

/-! ## The fields of the record after `updateGain` -/

theorem updateGain_gain (T m : Nat) (condition : Condition) (e : Exposure) :
    (updateGain T m condition e).gain = wantedGain e (gainStep (exposureTarget T condition) m) := by
  simp only [updateGain]
  split
  next same => exact same.symm
  next => rfl

theorem updateGain_balance (T m : Nat) (condition : Condition) (e : Exposure) :
    (updateGain T m condition e).balance =
      moveBalance e.balance ((e.gain.val : Int) + gainStep (exposureTarget T condition) m) := by
  simp only [updateGain]
  split <;> rfl

/-- R41: a command is issued exactly when the index changes. -/
theorem updateGain_inFlight (T m : Nat) (condition : Condition) (e : Exposure) :
    (updateGain T m condition e).inFlight =
      if (updateGain T m condition e).gain = e.gain then e.inFlight
      else some ⟨(updateGain T m condition e).gain, 0⟩ := by
  rw [updateGain_gain]
  simp only [updateGain]
  split <;> rfl

/-- The frame of stage 3: only the gain, the command in flight and the balance move. -/
theorem updateGain_frame (T m : Nat) (condition : Condition) (e : Exposure) :
    updateGain T m condition e =
      { e with
        gain := (updateGain T m condition e).gain
        inFlight := (updateGain T m condition e).inFlight
        balance := (updateGain T m condition e).balance } := by
  simp only [updateGain]
  split <;> rfl

/-- Settles O9: the target by the four conditions, the balance by the three rows of R40, the rest by the field
equations of `updateGain`. -/
theorem gainUpdateStepsTowardTheTarget : Obligations.GainUpdateStepsTowardTheTarget := by
  intro T m condition e target g'
  have htarget : exposureTarget T condition = target := by
    cases condition <;>
      simp only [target, exposureTarget, clampInt_eq_max_min (show (16 : Int) ≤ 235 by decide), Int.sub_eq_add_neg,
        Int.add_zero]
  have hg' : (e.gain.val : Int) + gainStep (exposureTarget T condition) m = g' := by
    rw [htarget, gainStep_eq_max_min]
  have hbalance : (updateGain T m condition e).balance = moveBalance e.balance g' := by
    rw [updateGain_balance, hg']
  refine ⟨?gain, updateGain_inFlight T m condition e, ?above, ?below, ?within, updateGain_frame T m condition e⟩
  case gain => rw [updateGain_gain, wantedGain_val_eq_max_min, hg']
  case above => exact fun h => hbalance.trans (moveBalance_above h _)
  case below => exact fun h => hbalance.trans (moveBalance_below h _)
  case within => exact fun ⟨h0, h63⟩ => hbalance.trans (moveBalance_within h0 h63 _)

end Sys2Proof.Machine
end

section
/-! PROOFS. Range reports (chapter 6): the readings of R98 and the sightings that they give. -/

namespace Sys2Proof.Machine

/-! ## The message -/

theorem dataTaken_eq_true_iff (p : Port) (s : State) :
    dataTaken p s = true ↔ portActive p s = true ∧ s.mode ≠ .starting := by
  unfold dataTaken
  rw [Bool.and_eq_true, decide_eq_true_eq]

theorem exec_rangeReport_of_taken {data : List Byte} {s : State} (htaken : dataTaken .body s = true)
    (hform : reportWellFormed data = true) :
    exec (.rangeReport data) s = .next (s.mapTracker (takeReadings s.loaded.sensors (reportReadings data))) :=
  if_pos ((Bool.and_eq_true _ _).mpr ⟨htaken, hform⟩)

theorem exec_rangeReport_of_discarded {data : List Byte} {s : State}
    (h : ¬ (dataTaken .body s = true ∧ reportWellFormed data = true)) : exec (.rangeReport data) s = .next s :=
  if_neg fun htaken => h ((Bool.and_eq_true _ _).mp htaken)

/-! ## The sighting of a reading (R7) -/

theorem clampX_eq_max_min (x : Int) : clampX x = max (-1000) (min 3000 x) := clampInt_eq_max_min (by decide) x

theorem clampY_eq_max_min (y : Int) : clampY y = max (-500) (min 1500 y) := clampInt_eq_max_min (by decide) y

/-- R104, read from the queue that still has room. -/
theorem joinQueue_eq_ite (g : Sighting) (t : Tracker) :
    joinQueue g t =
      if t.queue.length < 48 then { t with queue := t.queue ++ [g] }
      else { t with queue := t.queue.drop 1 ++ [g], discarded := satAdd t.discarded 1 } := by
  unfold joinQueue
  by_cases hroom : t.queue.length < 48
  · rw [if_pos hroom, if_neg (Nat.not_le.mpr hroom)]
  · rw [if_neg hroom, if_pos (Nat.not_lt.mp hroom)]

/-! ## One reading: an equation for each outcome of R98 -/

section Reading

variable {sensors : List Sensor} {n r : Nat} {k : Sensor}

/-- The two fields of a reading value (10.7): the sensor number above the ten bits of the distance. -/
theorem reading_fields (n : Nat) (hr : r < 1024) : (n * 1024 + r) / 1024 = n ∧ (n * 1024 + r) % 1024 = r := by
  omega

theorem takeReading_of_enabled (hr : r < 1024) (hk : findSensor sensors n = some k) (hon : k.enabled = true)
    (t : Tracker) :
    takeReading sensors (n * 1024 + r) t =
      if r = 0 ∨ k.maxRange < r then t else joinQueue (placeRange k (max r 20)) t := by
  obtain ⟨hnumber, hdistance⟩ := reading_fields n hr
  simp only [takeReading, hnumber, hdistance, hk, hon, if_true]

theorem takeReading_of_accepted (hr : r < 1024) (hk : findSensor sensors n = some k) (hon : k.enabled = true)
    (hlow : 1 ≤ r) (hhigh : r ≤ k.maxRange) (t : Tracker) :
    takeReading sensors (n * 1024 + r) t = joinQueue (placeRange k (max r 20)) t :=
  (takeReading_of_enabled hr hk hon t).trans (if_neg (by omega))

theorem takeReading_of_outOfRange (hr : r < 1024) (hk : findSensor sensors n = some k) (hon : k.enabled = true)
    (hout : r = 0 ∨ k.maxRange < r) (t : Tracker) : takeReading sensors (n * 1024 + r) t = t :=
  (takeReading_of_enabled hr hk hon t).trans (if_pos hout)

theorem takeReading_of_unknown (hr : r < 1024) (hoff : ∀ k, findSensor sensors n = some k → k.enabled = false)
    (t : Tracker) :
    takeReading sensors (n * 1024 + r) t = { t with unknownSensors := satAdd t.unknownSensors 1 } := by
  obtain ⟨hnumber, -⟩ := reading_fields n hr
  simp only [takeReading, hnumber]
  cases hfind : findSensor sensors n with
  | none => rfl
  | some k => simp only [hoff k hfind, Bool.false_eq_true, if_false]

end Reading

/-- Settles O14: the message by the two equations of its execution, one reading by the three outcomes of R98. -/
theorem rangeReadingsBecomeSightings : Obligations.RangeReadingsBecomeSightings := by
  refine ⟨fun data s => ⟨?taken, ?discarded⟩, ?readings⟩
  case taken =>
    intro hport hmode hform
    have htaken := (dataTaken_eq_true_iff .body s).mpr ⟨hport, hmode⟩
    exact ⟨_, exec_rangeReport_of_taken htaken hform, rfl, mapTracker_keeps s _⟩
  case discarded =>
    intro hout
    refine exec_rangeReport_of_discarded ?_
    rw [dataTaken_eq_true_iff]
    rintro ⟨⟨hport, hmode⟩, hform⟩
    rcases hout with hclosed | hstarting | hbad
    · exact absurd hport (by simp [hclosed])
    · exact hmode hstarting
    · exact absurd hform (by simp [hbad])
  case readings =>
    rintro sensors _ r n t rfl hr
    refine ⟨?accepted, ?outOfRange, ?unknown⟩
    case accepted =>
      intro k hk hon hlow hhigh
      refine ⟨placeRange k (max r 20), rfl, clampX_eq_max_min _, clampY_eq_max_min _, ?_⟩
      rw [takeReading_of_accepted hr hk hon hlow hhigh, joinQueue_eq_ite]
    case outOfRange => exact fun k hk hon hout => takeReading_of_outOfRange hr hk hon hout t
    case unknown => exact fun hoff => takeReading_of_unknown hr hoff t

end Sys2Proof.Machine
end

section
/-! PROOFS. The track list (chapter 6): the update, miss and bounds stages of R110, R111 and R112. -/

namespace Sys2Proof.Machine

/-! ## The bounds stage, slot by slot -/

@[simp] theorem boundTrack_some (x : Track) :
    boundTrack (some x) = if inBounds x.x x.y then some x else none := rfl

@[simp] theorem boundTrack_none : boundTrack none = none := rfl

theorem settleSlots_getElem? {slots : List (Option Candidate)} {i : Nat} {k : Candidate}
    (h : slots[i]? = some (some k)) : (settleSlots slots)[i]? = some (boundTrack (settleCandidate k)) := by
  simp only [settleSlots, List.getElem?_map, h, Option.map_some, Option.bind_some]

/-! ## The update and miss stages: an equation for each kind of candidate -/

theorem settleCandidate_of_created {k : Candidate} (h : k.created = true) : settleCandidate k = some k.track :=
  if_pos h

theorem settleCandidate_of_missed {k : Candidate} (hold : k.created = false) (htook : k.took = []) :
    settleCandidate k = missedTrack k.track k.atX k.atY := by
  simp only [settleCandidate, hold, htook, List.isEmpty_nil, Bool.false_eq_true, if_false, if_true]

theorem settleCandidate_of_seen {k : Candidate} (hold : k.created = false) (htook : k.took ≠ []) :
    settleCandidate k = some (seenTrack k.track k.took) := by
  simp only [settleCandidate, hold, List.isEmpty_iff, htook, Bool.false_eq_true, if_false]

/-! ## A track that took no sighting (R111) -/

theorem missedTrack_of_tentative {t : Track} (h : t.state = .tentative) (x y : Int) : missedTrack t x y = none := by
  simp only [missedTrack, h]

theorem missedTrack_of_confirmed {t : Track} (h : t.state = .confirmed) (x y : Int) :
    missedTrack t x y = some { t with state := .coasting, misses := 1, x := x, y := y } := by
  simp only [missedTrack, h]

theorem missedTrack_of_coasting {t : Track} (h : t.state = .coasting) (x y : Int) :
    missedTrack t x y = if 5 ≤ t.misses + 1 then none else some { t with misses := t.misses + 1, x := x, y := y } := by
  simp only [missedTrack, h]

/-- The fifth miss and the bounds remove a COASTING track together. -/
theorem boundTrack_missedTrack_of_coasting {t : Track} (h : t.state = .coasting) (x y : Int) :
    boundTrack (missedTrack t x y) =
      if t.misses + 1 < 5 ∧ inBounds x y = true then some { t with misses := t.misses + 1, x := x, y := y }
      else none := by
  rw [missedTrack_of_coasting h]
  by_cases hmiss : t.misses + 1 < 5
  · simp only [if_neg (Nat.not_le.mpr hmiss), boundTrack_some, hmiss, true_and]
  · simp only [if_pos (Nat.not_lt.mp hmiss), boundTrack_none, hmiss, false_and, if_false]

/-! ## A track that took sightings (R110) -/

theorem sumInt_eq_sum (l : List Int) : sumInt l = l.sum := List.sum_eq_foldl.symm

theorem meanCoordinate_sumInt (l : List Int) (n : Nat) :
    meanCoordinate (sumInt l) n = Int.fdiv (2 * l.sum + n) (2 * n) := by
  rw [sumInt_eq_sum]
  rfl

theorem smoothVelocity_eq_max_min (v old new : Int) :
    smoothVelocity v old new = max (-1000) (min 1000 (v + Int.tdiv ((new - old) * 10 - v) 4)) :=
  clampInt_eq_max_min (by decide) _

theorem seenState_eq_ite (x : TrackState) (hits : Nat) :
    seenState x hits = if x = .tentative ∧ hits < 3 then .tentative else .confirmed := by
  cases x with
  | tentative =>
    by_cases hfew : hits < 3
    · simp only [seenState, if_neg (Nat.not_le.mpr hfew), hfew, and_self, if_true]
    · simp only [seenState, if_pos (Nat.not_lt.mp hfew), hfew, and_false, if_false]
  | confirmed => rfl
  | coasting => rfl

/-- Sightings joined to a mask add their sources, and nothing else. -/
theorem foldl_join_sourceMask (l : List Sighting) (m : SourceMask) :
    l.foldl (fun m g => m.join (sourceMask g.source)) m =
      ⟨m.range || l.any fun g => decide (g.source = .range), m.motion || l.any fun g => decide (g.source = .motion)⟩ := by
  induction l generalizing m with
  | nil => simp only [List.foldl_nil, List.any_nil, Bool.or_false]
  | cons g l ih =>
    rw [List.foldl_cons, ih]
    cases hsource : g.source <;> simp [SourceMask.join, sourceMask, hsource]

theorem seenTrack_mask_range (t : Track) (took : List Sighting) :
    (seenTrack t took).mask.range = true ↔ ∃ g ∈ took, g.source = .range := by
  simp [seenTrack, foldl_join_sourceMask]

theorem seenTrack_mask_motion (t : Track) (took : List Sighting) :
    (seenTrack t took).mask.motion = true ↔ ∃ g ∈ took, g.source = .motion := by
  simp [seenTrack, foldl_join_sourceMask]

/-- Settles O19: the slot's candidate by its kind, a missed track by its state, a seen track field by field. -/
theorem candidateSettles : Obligations.CandidateSettles := by
  intro slots i k hslot
  rw [settleSlots_getElem? hslot]
  refine ⟨?created, ?tentative, ?confirmed, ?coasting, ?seen⟩
  case created =>
    intro hnew
    rw [settleCandidate_of_created hnew, boundTrack_some]
  case tentative =>
    intro hold htook hstate
    rw [settleCandidate_of_missed hold htook, missedTrack_of_tentative hstate, boundTrack_none]
  case confirmed =>
    intro hold htook hstate
    rw [settleCandidate_of_missed hold htook, missedTrack_of_confirmed hstate, boundTrack_some]
  case coasting =>
    intro hold htook hstate
    rw [settleCandidate_of_missed hold htook, boundTrack_missedTrack_of_coasting hstate]
  case seen =>
    intro hold htook
    rw [settleCandidate_of_seen hold htook, boundTrack_some]
    exact ⟨seenTrack k.track k.took, rfl, rfl, rfl, seenState_eq_ite _ _, seenTrack_mask_range _ _,
      seenTrack_mask_motion _ _, meanCoordinate_sumInt _ _, meanCoordinate_sumInt _ _,
      smoothVelocity_eq_max_min _ _ _, smoothVelocity_eq_max_min _ _ _, rfl⟩

end Sys2Proof.Machine
end

section
/-! PROOFS. Zones and alert levels (chapter 7): the computed level and best zone of R121, the stored level of R122. -/

namespace Sys2Proof.Machine

/-! ## The order of the levels -/

theorem levelOfCode_code (a : Level) : levelOfCode a.code = some a := by
  cases a <;> rfl

theorem Level.code_injective : Function.Injective Level.code := fun a b h =>
  Option.some.inj (by rw [← levelOfCode_code a, ← levelOfCode_code b, h])

theorem Level.code_le_danger (a : Level) : a.code ≤ Level.danger.code := by
  cases a <;> decide

theorem Level.code_max (a b : Level) : (a.max b).code = Nat.max a.code b.code := by
  unfold Level.max
  split
  next below => exact (Nat.max_eq_right (Nat.le_of_lt below)).symm
  next above => exact (Nat.max_eq_left (Nat.not_lt.mp above)).symm

theorem Level.max_eq_or (a b : Level) : a.max b = a ∨ a.max b = b := by
  unfold Level.max
  split
  next => exact .inr rfl
  next => exact .inl rfl

/-! ## The highest of a list, from any level on -/

theorem le_foldl_max (l : List Level) (a : Level) :
    a.code ≤ (l.foldl Level.max a).code ∧ ∀ b ∈ l, b.code ≤ (l.foldl Level.max a).code := by
  induction l generalizing a with
  | nil => exact ⟨Nat.le_refl _, fun b hb => absurd hb List.not_mem_nil⟩
  | cons c l ih =>
    obtain ⟨hstart, hrest⟩ := ih (a.max c)
    rw [Level.code_max] at hstart
    refine ⟨Nat.le_trans (Nat.le_max_left _ _) hstart, fun b hb => ?_⟩
    rcases List.mem_cons.mp hb with rfl | hb
    · exact Nat.le_trans (Nat.le_max_right _ _) hstart
    · exact hrest b hb

theorem foldl_max_mem_cons (l : List Level) (a : Level) : l.foldl Level.max a ∈ a :: l := by
  induction l generalizing a with
  | nil => exact List.mem_cons_self
  | cons c l ih =>
    rcases List.mem_cons.mp (ih (a.max c)) with hstart | hrest
    · rw [List.foldl_cons, hstart]
      rcases a.max_eq_or c with hmax | hmax <;> simp [hmax]
    · exact List.mem_cons_of_mem a (List.mem_cons_of_mem c hrest)

theorem le_highest {l : List Level} {a : Level} (h : a ∈ l) : a.code ≤ (highest l).code :=
  (le_foldl_max l .none).2 a h

theorem highest_mem {l : List Level} (h : highest l ≠ .none) : highest l ∈ l :=
  (List.mem_cons.mp (foldl_max_mem_cons l .none)).resolve_left h

/-! ## The contribution of one zone (R121) -/

section Contribution

variable {zones : List Zone} {v : VehicleReading} {t : Track} {i : Nat} {k : Zone}

theorem contributionAt_of_tentative (h : t.state = .tentative) : contributionAt zones v t i = .none := by
  unfold contributionAt
  split
  next => exact if_pos h
  next => rfl

theorem contributionAt_of_active (hfind : findZone zones i = some k) (hon : zoneActive v k = true) :
    contributionAt zones v t i = contribution k t := by
  simp only [contributionAt, activeZone, hfind, hon, if_true]

theorem contributionAt_of_contained (hfind : findZone zones i = some k) (hon : zoneActive v k = true)
    (hstate : t.state ≠ .tentative) (hin : zoneContains k t.x t.y = true) :
    contributionAt zones v t i = if closingRaises k.closing t.y t.vy then .danger else k.level := by
  rw [contributionAt_of_active hfind hon]
  simp only [contribution, hstate, hin, if_false, if_true]

/-- Only an active zone that contains the track contributes, and only to a track that is not TENTATIVE. -/
theorem exists_zone_of_contributionAt_ne_none (h : contributionAt zones v t i ≠ .none) :
    t.state ≠ .tentative ∧
      ∃ k, findZone zones i = some k ∧ zoneActive v k = true ∧ zoneContains k t.x t.y = true := by
  refine ⟨fun hstate => h (contributionAt_of_tentative hstate), ?_⟩
  cases hfind : findZone zones i with
  | none => exact absurd (by simp [contributionAt, activeZone, hfind]) h
  | some k =>
    cases hon : zoneActive v k with
    | false => exact absurd (by simp [contributionAt, activeZone, hfind, hon]) h
    | true =>
      cases hin : zoneContains k t.x t.y with
      | false => exact absurd (by simp [contributionAt_of_active hfind hon, contribution, hin]) h
      | true => exact ⟨k, rfl, hon, hin⟩

/-! ## The computed level: the highest contribution (R121) -/

theorem contributionAt_le_computedLevel (zones : List Zone) (v : VehicleReading) (t : Track) (hi : i < 8) :
    (contributionAt zones v t i).code ≤ (computedLevel zones v t).code :=
  le_highest (List.mem_map_of_mem (List.mem_range.mpr hi))

theorem exists_contributionAt_eq_computedLevel (h : computedLevel zones v t ≠ .none) :
    ∃ b : Fin 8, contributionAt zones v t b.val = computedLevel zones v t := by
  obtain ⟨b, hb, heq⟩ := List.mem_map.mp (highest_mem h)
  exact ⟨⟨b, List.mem_range.mp hb⟩, heq⟩

theorem computedLevel_of_tentative (h : t.state = .tentative) : computedLevel zones v t = .none := by
  refine Decidable.byContradiction fun hne => ?_
  obtain ⟨b, hb⟩ := exists_contributionAt_eq_computedLevel hne
  exact hne (hb.symm.trans (contributionAt_of_tentative h))

theorem computedLevel_eq_danger_of_raised (hfind : findZone zones i = some k) (hi : i < 8)
    (hon : zoneActive v k = true) (hstate : t.state ≠ .tentative) (hin : zoneContains k t.x t.y = true)
    (hraise : closingRaises k.closing t.y t.vy = true) : computedLevel zones v t = .danger := by
  have hle := contributionAt_le_computedLevel zones v t hi
  rw [contributionAt_of_contained hfind hon hstate hin, if_pos hraise] at hle
  exact Level.code_injective (Nat.le_antisymm (Level.code_le_danger _) hle)

theorem level_le_computedLevel (hfind : findZone zones i = some k) (hi : i < 8)
    (hon : zoneActive v k = true) (hstate : t.state ≠ .tentative) (hin : zoneContains k t.x t.y = true)
    (hraise : closingRaises k.closing t.y t.vy = false) : k.level.code ≤ (computedLevel zones v t).code := by
  have hle := contributionAt_le_computedLevel zones v t hi
  rwa [contributionAt_of_contained hfind hon hstate hin, hraise] at hle

/-! ## The best zone: the lowest index that gives the computed level (R121) -/

theorem zoneIndices_getElem : ∀ z : Fin 8, ([0, 1, 2, 3, 4, 5, 6, 7] : List (Fin 8))[z.val] = z := by decide

theorem bestZoneOf_isSome {top : Level} (z : Fin 8) (h : contributionAt zones v t z.val = top) :
    (bestZoneOf zones v t top).isSome = true :=
  List.find?_isSome.mpr ⟨z, List.mem_of_getElem (zoneIndices_getElem z), decide_eq_true h⟩

theorem bestZoneOf_eq_some {top : Level} {b : Fin 8} (h : bestZoneOf zones v t top = some b) :
    contributionAt zones v t b.val = top ∧ ∀ c < b, contributionAt zones v t c.val ≠ top := by
  obtain ⟨hgives, n, hn, hget, hearlier⟩ := List.find?_eq_some_iff_getElem.mp h
  have hplace : n = b.val := congrArg Fin.val ((zoneIndices_getElem ⟨n, hn⟩).symm.trans hget)
  refine ⟨of_decide_eq_true hgives, fun c hc heq => ?_⟩
  have hskipped := hearlier c.val (hplace ▸ hc)
  rw [zoneIndices_getElem c, decide_eq_true heq] at hskipped
  exact Bool.false_ne_true hskipped

/-- Every zone below the best one falls short: none exceeds the computed level and none of them gives it. -/
theorem exists_bestZoneOf (h : computedLevel zones v t ≠ .none) :
    ∃ b : Fin 8, bestZoneOf zones v t (computedLevel zones v t) = some b ∧
      contributionAt zones v t b.val = computedLevel zones v t ∧
      ∀ c < b, (contributionAt zones v t c.val).code < (computedLevel zones v t).code := by
  obtain ⟨z, hz⟩ := exists_contributionAt_eq_computedLevel h
  obtain ⟨b, hb⟩ := Option.isSome_iff_exists.mp (bestZoneOf_isSome z hz)
  obtain ⟨hgives, hlower⟩ := bestZoneOf_eq_some hb
  refine ⟨b, hb, hgives, fun c hc => ?_⟩
  exact Nat.lt_of_le_of_ne (contributionAt_le_computedLevel zones v t c.isLt) fun heq =>
    hlower c hc (Level.code_injective heq)

/-! ## The fields of a rated track -/

@[simp] theorem rateTrack_computed (zones : List Zone) (v : VehicleReading) (t : Track) :
    (rateTrack zones v t).computed = computedLevel zones v t := rfl

@[simp] theorem rateTrack_stored (zones : List Zone) (v : VehicleReading) (t : Track) :
    (rateTrack zones v t).stored = (settleLevel (computedLevel zones v t) t).1 := rfl

@[simp] theorem rateTrack_fall (zones : List Zone) (v : VehicleReading) (t : Track) :
    (rateTrack zones v t).fall = (settleLevel (computedLevel zones v t) t).2 := rfl

theorem rateTrack_best_of_none (h : computedLevel zones v t = .none) : (rateTrack zones v t).best = t.best :=
  if_pos h

theorem rateTrack_best_of_ne_none (h : computedLevel zones v t ≠ .none) :
    (rateTrack zones v t).best = bestZoneOf zones v t (computedLevel zones v t) := if_neg h

end Contribution

/-- Settles O20: the lower bounds by the highest contribution, the witness above NONE by the best zone found. -/
theorem trackTakesTheHighestContribution : Obligations.TrackTakesTheHighestContribution := by
  intro zones v x
  refine ⟨computedLevel_of_tentative, ?contributes, ?best, rateTrack_best_of_none, rfl, fun _ _ => ⟨rfl, rfl⟩⟩
  case contributes =>
    intro z k hfind hz hon hstate hin
    exact ⟨computedLevel_eq_danger_of_raised hfind hz hon hstate hin,
      level_le_computedLevel hfind hz hon hstate hin⟩
  case best =>
    intro hne
    obtain ⟨b, hbest, hgives, hlower⟩ := exists_bestZoneOf hne
    obtain ⟨hstate, k, hfind, hon, hin⟩ := exists_zone_of_contributionAt_ne_none (fun h => hne (hgives.symm.trans h))
    refine ⟨b, k, (rateTrack_best_of_ne_none hne).trans hbest, hfind, hon, hin, ?_, ?_⟩
    · exact hgives.symm.trans (contributionAt_of_contained hfind hon hstate hin)
    · intro c l hc hfindc honc hinc
      rw [← contributionAt_of_contained hfindc honc hstate hinc]
      exact hlower c hc

/-! ## The stored level and the fall count: an equation for each row of R122 -/

section Stored

variable {c : Level} {t : Track}

theorem settleLevel_of_above (h : t.stored.code < c.code) : settleLevel c t = (c, 0) := if_pos h

theorem settleLevel_of_equal (h : c = t.stored) : settleLevel c t = (t.stored, 0) :=
  (if_neg (by rw [h]; exact Nat.lt_irrefl _)).trans (if_pos h)

theorem settleLevel_of_below (h : c.code < t.stored.code) :
    settleLevel c t = if t.fall ≤ 1 then (t.stored, t.fall + 1) else (c, 0) :=
  (if_neg (Nat.not_lt.mpr (Nat.le_of_lt h))).trans (if_neg fun heq => Nat.ne_of_lt h (congrArg Level.code heq))

theorem settleLevel_of_waiting (h : c.code < t.stored.code) (hfall : t.fall ≤ 1) :
    settleLevel c t = (t.stored, t.fall + 1) := (settleLevel_of_below h).trans (if_pos hfall)

theorem settleLevel_of_fallen (h : c.code < t.stored.code) (hfall : 1 < t.fall) : settleLevel c t = (c, 0) :=
  (settleLevel_of_below h).trans (if_neg (Nat.not_le.mpr hfall))

theorem code_le_settleLevel (c : Level) (t : Track) : c.code ≤ (settleLevel c t).1.code := by
  rcases Nat.lt_trichotomy t.stored.code c.code with habove | hequal | hbelow
  · exact Nat.le_of_eq (by simp only [settleLevel_of_above habove])
  · exact Nat.le_of_eq (by simp only [settleLevel_of_equal (Level.code_injective hequal.symm), hequal])
  · rcases Nat.lt_or_ge 1 t.fall with hfallen | hwaiting
    · exact Nat.le_of_eq (by simp only [settleLevel_of_fallen hbelow hfallen])
    · simp only [settleLevel_of_waiting hbelow hwaiting, Nat.le_of_lt hbelow]

/-- A TENTATIVE track computes NONE, so a stored level NONE stands. -/
theorem settleLevel_of_tentative (zones : List Zone) (v : VehicleReading) (hstate : t.state = .tentative)
    (hstored : t.stored = .none) : settleLevel (computedLevel zones v t) t = (.none, 0) := by
  rw [settleLevel_of_equal ((computedLevel_of_tentative hstate).trans hstored.symm), hstored]

end Stored

/-! ## The end of an update: only publishing touches the tracker (R105) -/

theorem exec_trackerUpdateCompletion_of_running {u : Update} {s : State} (h : s.tracker.update = some u) :
    exec .trackerUpdateCompletion s = .next (completeUpdate u s) := by
  have harm : exec .trackerUpdateCompletion s = execTrackerUpdateCompletion s := rfl
  rw [harm]
  simp only [execTrackerUpdateCompletion, h]

@[simp] theorem setLinger_tracker (x : Option Word) (s : State) : (setLinger x s).tracker = s.tracker := rfl

@[simp] theorem writeAlertClaim_tracker (held : Option Claim) (w : Wanted) (s : State) :
    (writeAlertClaim held w s).tracker = s.tracker := changeClaim_tracker _ _ s

@[simp] theorem applyWanted_tracker (wanted : Option Wanted) (s : State) :
    (applyWanted wanted s).tracker = s.tracker := by
  unfold applyWanted
  split
  next => rfl
  next => exact writeAlertClaim_tracker _ _ s
  next => split <;> simp
  next => split <;> simp

@[simp] theorem decideAlertClaim_tracker (s : State) : (decideAlertClaim s).tracker = s.tracker := by
  unfold decideAlertClaim
  split
  next => exact applyWanted_tracker _ s
  next => rfl

@[simp] theorem levelNotice_tracker (old new : Level) (s : State) : (levelNotice old new s).tracker = s.tracker := by
  unfold levelNotice
  split
  next => rfl
  next => split <;> rfl

@[simp] theorem overflowNotice_tracker (a : Association) (s : State) : (overflowNotice a s).tracker = s.tracker := by
  unfold overflowNotice
  split <;> rfl

@[simp] theorem rearmLevels_tracker (s : State) : (rearmLevels s).tracker = s.tracker := rearm_tracker _ s

@[simp] theorem offerLevel_tracker (old : Level) (s : State) : (offerLevel old s).tracker = s.tracker := by
  unfold offerLevel
  split
  next => rfl
  next => rw [offerRecord_tracker, oweBroadcasts_tracker]

@[simp] theorem publishUpdate_tracker (u : Update) (a : Association) (s : State) :
    (publishUpdate u a s).tracker = publishTracks s.ms s.loaded.zones u.vehicle a s.tracker := rfl

theorem completeUpdate_tracker (u : Update) (s : State) :
    (completeUpdate u s).tracker =
      publishTracks s.ms s.loaded.zones u.vehicle (associateUpdate s.loaded.gate s.tracker u) s.tracker := by
  simp only [completeUpdate, offerLevel_tracker, decideAlertClaim_tracker, levelNotice_tracker,
    overflowNotice_tracker, rearmLevels_tracker, publishUpdate_tracker]

theorem completeUpdate_tracks (u : Update) (s : State) :
    (completeUpdate u s).tracker.tracks =
      rateTracks s.loaded.zones u.vehicle (settleSlots (associateUpdate s.loaded.gate s.tracker u).slots) := by
  rw [completeUpdate_tracker]
  rfl

/-! ## The rated list, slot by slot -/

@[simp] theorem rateTracks_length (zones : List Zone) (v : VehicleReading) (l : List (Option Track)) :
    (rateTracks zones v l).length = l.length := List.length_map _

/-- A track of the rated list is the track of its slot, rated. -/
theorem exists_of_rateTracks_getElem? {zones : List Zone} {v : VehicleReading} {l : List (Option Track)} {i : Nat}
    {x : Track} (h : (rateTracks zones v l)[i]? = some (some x)) :
    ∃ y, l[i]? = some (some y) ∧ rateTrack zones v y = x := by
  rw [rateTracks, List.getElem?_map, Option.map_eq_some_iff] at h
  obtain ⟨o, hslot, ho⟩ := h
  obtain ⟨y, rfl, hy⟩ := Option.map_eq_some_iff.mp ho
  exact ⟨y, hslot, hy⟩

/-- Settles O21: the published list is the settled list rated, and a rated track moves by the rows of R122. -/
theorem storedLevelIsAtLeastTheComputedLevel : Obligations.StoredLevelIsAtLeastTheComputedLevel := by
  intro u s hrunning
  refine ⟨completeUpdate u s, exec_trackerUpdateCompletion_of_running hrunning, ?length, ?slots⟩
  case length => rw [completeUpdate_tracks, rateTracks_length]
  case slots =>
    intro i x hx
    rw [completeUpdate_tracks] at hx
    obtain ⟨y, hslot, rfl⟩ := exists_of_rateTracks_getElem? hx
    simp only [rateTrack_computed, rateTrack_stored, rateTrack_fall]
    refine ⟨code_le_settleLevel _ y, y, hslot, ?above, ?equal, ?waiting, ?fallen, ?tentative⟩
    case above => exact fun habove => Prod.ext_iff.mp (settleLevel_of_above habove)
    case equal => exact fun hequal => Prod.ext_iff.mp (settleLevel_of_equal hequal)
    case waiting => exact fun hbelow hfall => Prod.ext_iff.mp (settleLevel_of_waiting hbelow (by omega))
    case fallen => exact fun hbelow hfall => Prod.ext_iff.mp (settleLevel_of_fallen hbelow (by omega))
    case tentative => exact fun hstate hstored => Prod.ext_iff.mp (settleLevel_of_tentative _ _ hstate hstored)

end Sys2Proof.Machine
end

section
/-! PROOFS. View claims and the arbiter (chapter 8): the table of decisions of R142. -/

namespace Sys2Proof.Machine

/-! ## Granting and breaking in (R140, R142) -/

theorem grantWinner_eq (w : Winner) (a : Arbiter) :
    grantWinner w a =
      { a with claims := if w.source = .home then a.claims else (grantSource w.source a).claims } := by
  unfold grantWinner
  split <;> rfl

theorem breaksIn_iff (w : Winner) : breaksIn w = true ↔ ∃ n, w.level = some n ∧ 6 ≤ n := by
  cases hlevel : w.level <;> simp [breaksIn, hlevel]

/-- The home layout, which has no level, never breaks in. -/
theorem not_breaksIn_of_low {w : Winner} (hlow : ∀ n, w.level = some n → n < 6) : ¬ breaksIn w = true := by
  rw [breaksIn_iff]
  rintro ⟨n, hlevel, hhigh⟩
  exact Nat.not_lt.mpr hhigh (hlow n hlevel)

/-! ## The decision: an equation for each cell of the table (R142) -/

section Decision

variable {a : Arbiter}

theorem decideArbiter_of_settled_of_shown (hstate : a.state = .settled)
    (hshown : a.shown = some (.stored (winner a).layout)) : decideArbiter a = grantWinner (winner a) a := by
  simp only [decideArbiter, hstate, if_pos hshown]

theorem decideArbiter_of_targetHeld_of_shown (hstate : a.state = .targetHeld)
    (hshown : a.shown = some (.stored (winner a).layout)) :
    decideArbiter a = grantWinner (winner a) { a with state := .settled, target := none } := by
  simp only [decideArbiter, hstate, if_pos hshown]

theorem decideArbiter_of_settled_or_targetHeld_of_not_shown
    (hstate : a.state = .settled ∨ a.state = .targetHeld)
    (hother : ¬ a.shown = some (.stored (winner a).layout)) : decideArbiter a = holdTarget (winner a) a := by
  rcases hstate with hstate | hstate <;> simp only [decideArbiter, hstate, if_neg hother]

/-- A switch being shown is disturbed only by a winner for another layout that breaks in. -/
theorem decideArbiter_of_firstFrame_or_dwell (hstate : a.state = .firstFrame ∨ a.state = .dwell) :
    decideArbiter a =
      if a.shown = some (.stored (winner a).layout) then a
      else if breaksIn (winner a) then holdTarget (winner a) a else a := by
  rcases hstate with hstate | hstate <;> simp only [decideArbiter, hstate]

theorem decideArbiter_of_service (hstate : a.state = .service) : decideArbiter a = a := by
  simp only [decideArbiter, hstate]

end Decision

/-- Settles O30, cell by cell of the table; level 6 separates the winners that break in from those that wait. -/
theorem decisionFollowsTheTable : Obligations.DecisionFollowsTheTable := by
  intro a
  refine ⟨?settled, ?targetHeld, ?hold, ?keep, ?switching, decideArbiter_of_service⟩
  case settled =>
    rintro ⟨hstate, hshown⟩
    exact (decideArbiter_of_settled_of_shown hstate hshown).trans (grantWinner_eq _ _)
  case targetHeld =>
    rintro ⟨hstate, hshown⟩
    exact (decideArbiter_of_targetHeld_of_shown hstate hshown).trans (grantWinner_eq _ _)
  case hold =>
    rintro ⟨hstate, hother⟩
    exact decideArbiter_of_settled_or_targetHeld_of_not_shown hstate hother
  case keep =>
    rintro ⟨hstate, hshown⟩
    exact (decideArbiter_of_firstFrame_or_dwell hstate).trans (if_pos hshown)
  case switching =>
    rintro ⟨hstate, hother⟩
    have hdecide := (decideArbiter_of_firstFrame_or_dwell hstate).trans (if_neg hother)
    constructor
    · intro hhigh
      exact hdecide.trans (if_pos ((breaksIn_iff _).mpr hhigh))
    · intro hlow
      exact hdecide.trans (if_neg (not_breaksIn_of_low hlow))

end Sys2Proof.Machine
end

section
/-! PROOFS. What every command keeps, block by block: the relation between the states before and after a command that the
statements over all commands share, and what keeps it. -/

namespace Sys2Proof.Machine

/-! ## The relation -/

/-- The commands at which a request may be taken: arrivals, frames sent whole and the request rows. They alone can
enter SERVICE (R173). -/
def takesRequests : Instr → Bool
  | .powerOnReset | .partRestart | .portsTaken | .loadCompletion | .lockLost _ | .lockGained _ | .cameraFrameStart _
  | .headerArrival .. | .frameCompletion .. | .stallTimerExpiry _ | .lostTimerExpiry _ | .rangeReport _
  | .vehicleStatus _ | .bodyStatus _ | .stalenessTimerExpiry _ | .wrongMasterData .. | .ignoredCanFrame ..
  | .trackerTimerExpiry | .trackerUpdateCompletion | .lingerTimerExpiry | .outputFrameStart _ | .pairRendered
  | .refillCompletion _ | .claimExpiry _ | .cabFrameBroken _ | .cabInterbyteTimeout | .busOff _ | .busOffRecovery _
  | .statusBroadcast _ | .flashReadCompletion | .flashWriteCompletion | .flashEraseCompletion => false
  | _ => true

/-- The commands that answer no request and serve no queue, BUS_OFF apart, which empties one. -/
def servesNone : Instr → Bool
  | .busOff _ => false
  | i => !takesRequests i

/-- One camera's intake keeps its pictures canonical, its timers as R22 and R23 say and at most one FILLING and one
READING slot. -/
structure CameraUpheld (k l : CameraIntake) : Prop where
  pictures : (∀ j, sparseWf blankPixel (k.slots.get j).picture = true) →
    ∀ j, sparseWf blankPixel (l.slots.get j).picture = true
  timers : timersSound k = true → timersSound l = true
  slots : slotCount .filling k ≤ 1 ∧ slotCount .reading k ≤ 1 → slotCount .filling l ≤ 1 ∧ slotCount .reading l ≤ 1

/-- The tracker keeps its queue and its list within their lengths, and the track numbers as R105 says. -/
structure TrackerUpheld (s t : State) : Prop where
  queue : s.tracker.queue.length ≤ 48 → t.tracker.queue.length ≤ 48
  tracks : s.tracker.tracks.length = 16 → t.tracker.tracks.length = 16
  numbers : tracksSound s = true → tracksSound t = true

/-- The remap unit keeps its stores within their lengths, and its cache as R61 says. -/
structure RemapUpheld (s t : State) : Prop where
  faulted : s.remap.faulted.length ≤ 2 → t.remap.faulted.length ≤ 2
  entries : s.remap.entries.length = 40 → t.remap.entries.length = 40
  sound : remapSound s = true → remapSound t = true

/-- The incident list keeps at most eight marks, and distinct numbers among them. -/
structure MarksUpheld (s t : State) : Prop where
  count : s.incident.marks.length ≤ 8 → t.incident.marks.length ≤ 8
  numbers : marksSound s = true → marksSound t = true

/-- The responses to taken requests of a master that the port controller has not sent whole. -/
def answersOwed (m : Master) (p : Ports) : Nat :=
  match masterPort m with
  | none => (if p.sending.any fun f => f.role.isAnswer then 1 else 0) + p.waiting.countP CabWaiting.isAnswer
  | some x => (p.can.get x).store.countP fun f => f.role.isAnswer

/-- No cab frame waits while none is being sent (R160). -/
def CabIdle (p : Ports) : Prop := p.sending.isSome = true ∨ p.waiting = []

/-- The queues, and the responses on their way, stand. -/
structure ServiceStands (p q : Ports) : Prop where
  queues : q.queues = p.queues
  owed : ∀ m, answersOwed m q = answersOwed m p
  idle : CabIdle p → CabIdle q

/-- Nothing waits and nothing is on its way, as after a reset. -/
structure ServiceFresh (q : Ports) : Prop where
  queues : ∀ m, q.queues.get m = []
  owed : ∀ m, answersOwed m q = 0
  idle : CabIdle q

/-- The port controller serves the masters as before, or from anew. -/
def ServiceKept (p q : Ports) : Prop := ServiceStands p q ∨ ServiceFresh q

/-- The port controller keeps at most four requests in each queue and at most one NOTICE waiting; a command that serves
no queue leaves the service of the masters. -/
structure PortsUpheld (i : Instr) (p q : Ports) : Prop where
  queues : (∀ m, (p.queues.get m).length ≤ 4) → ∀ m, (q.queues.get m).length ≤ 4
  notices : p.waiting.count .notice ≤ 1 → q.waiting.count .notice ≤ 1
  service : servesNone i = true → ServiceKept p q

/-- What one block by itself keeps at the command `i`. -/
def Block.upheld (i : Instr) (b : Block) (s t : State) : Prop :=
  match b with
  | .pending => t.pending = s.pending
  | .ms => t.ms = s.ms ∨ i = .powerOnReset
  | .frame => t.frame = s.frame ∨ i = .powerOnReset ∨ ∃ written, i = .outputFrameStart written
  | .loaded => i ≠ .loadCompletion → sparseWf erased s.loaded.mapCells = true → sparseWf erased t.loaded.mapCells = true
  | .intake => ∀ c, CameraUpheld (s.intake.get c) (t.intake.get c)
  | .tracker => TrackerUpheld s t
  | .alert => s.alert.occupancy.length = 8 → t.alert.occupancy.length = 8
  | .remap => RemapUpheld s t
  | .compositor =>
    sparseWf blackPixel s.compositor.store = true ∧ sparseWf blackPixel s.compositor.sent = true →
      sparseWf blackPixel t.compositor.store = true ∧ sparseWf blackPixel t.compositor.sent = true
  | .incident => MarksUpheld s t
  | .ports => PortsUpheld i s.ports t.ports
  | .flash =>
    (t.flash.cells = s.flash.cells ∨ i = .flashWriteCompletion ∨ i = .flashEraseCompletion ∨ i = .powerOnReset) ∧
      (sparseWf erased s.flash.cells = true → sparseWf erased t.flash.cells = true)
  | .loader | .exposure | .motion | .arbiter | .draws => True

/-- What the operating state, the configuration, S and the claim table keep together at the command `i`. -/
structure ModesUpheld (i : Instr) (s t : State) : Prop where
  config : t.loaded = s.loaded ∨ t.mode = .starting ∨ i = .loadCompletion
  starting : s.mode = .starting → t.mode = .starting ∨ i = .loadCompletion
  restarted : t.mode = .starting → s.mode = .starting ∨ i ≠ .loadCompletion
  running : t.mode = .running → s.mode = .running ∨ s.mode = .starting ∧ i = .loadCompletion
  service : t.mode = .service → s.mode = .service ∨ s.mode = .running ∧ takesRequests i = true
  entered : s.mode = .running → t.mode = .service →
    t.alert.level = .none ∧ s.alert.vehicle.speed.value = some 0 ∧ t.arbiter.claims = Quad.all none
  speed : takesRequests i = true →
    t.alert.vehicle.speed.value = s.alert.vehicle.speed.value ∨ t.mode = .starting
  level : t.alert.level = s.alert.level ∨ i = .trackerUpdateCompletion ∨
    t.mode = .starting ∧ t.alert.level = .none ∧ i ≠ .loadCompletion
  emptied : s.arbiter.claims = Quad.all none → s.mode ≠ .running → t.mode ≠ .running → t.arbiter.claims = Quad.all none
  claims : claimsSound s = true → claimsSound t = true

/-- Every block outside `bs` keeps what it should, and the blocks together. -/
structure UpheldOff (bs : List Block) (i : Instr) (s t : State) : Prop where
  block : ∀ b, b ∉ bs → b.upheld i s t
  modes : ModesUpheld i s t

/-- Every block keeps what it should. -/
abbrev Upheld (i : Instr) (s t : State) : Prop := UpheldOff [] i s t

/-! ## It holds of what stands, and chains -/

theorem CameraUpheld.refl (k : CameraIntake) : CameraUpheld k k := ⟨id, id, id⟩

theorem CameraUpheld.trans {k l m : CameraIntake} (h : CameraUpheld k l) (h' : CameraUpheld l m) : CameraUpheld k m :=
  ⟨h'.pictures ∘ h.pictures, h'.timers ∘ h.timers, h'.slots ∘ h.slots⟩

theorem TrackerUpheld.of_same {s t : State} (h : t.tracker = s.tracker) : TrackerUpheld s t := by
  constructor <;> simp [tracksSound, h]

theorem RemapUpheld.of_same {s t : State} (h : t.remap = s.remap) : RemapUpheld s t := by
  constructor <;> simp [remapSound, h]

theorem MarksUpheld.of_same {s t : State} (h : t.incident.marks = s.incident.marks) : MarksUpheld s t := by
  constructor <;> simp [marksSound, h]

theorem ServiceStands.of_same {p q : Ports} (hq : q.queues = p.queues) (hs : q.sending = p.sending)
    (hw : q.waiting = p.waiting) (hc : ∀ x, (q.can.get x).store = (p.can.get x).store) : ServiceStands p q :=
  ⟨hq, fun m => by simp only [answersOwed, hs, hw, hc], fun h => by rwa [CabIdle, hs, hw]⟩

theorem ServiceStands.trans {p q r : Ports} (h : ServiceStands p q) (h' : ServiceStands q r) : ServiceStands p r :=
  ⟨h'.queues.trans h.queues, fun m => (h'.owed m).trans (h.owed m), h'.idle ∘ h.idle⟩

theorem ServiceKept.trans {p q r : Ports} (h : ServiceKept p q) (h' : ServiceKept q r) : ServiceKept p r := by
  rcases h' with h' | h'
  · rcases h with h | h
    · exact .inl (h.trans h')
    · exact .inr ⟨fun m => by rw [h'.queues, h.queues], fun m => (h'.owed m).trans (h.owed m), h'.idle h.idle⟩
  · exact .inr h'

/-- Updates of the port controller that leave its queues, its cab frames and its transmit stores. -/
theorem PortsUpheld.of_same {i : Instr} {p q : Ports} (hq : q.queues = p.queues) (hs : q.sending = p.sending)
    (hw : q.waiting = p.waiting) (hc : ∀ x, (q.can.get x).store = (p.can.get x).store) : PortsUpheld i p q :=
  ⟨by simp [hq], by simp [hw], fun _ => .inl (.of_same hq hs hw hc)⟩

theorem PortsUpheld.refl (i : Instr) (p : Ports) : PortsUpheld i p p := .of_same rfl rfl rfl fun _ => rfl

theorem Block.upheld_of_same {i : Instr} {b : Block} {s t : State} (h : b.same s t) : b.upheld i s t := by
  cases b <;> simp only [Block.same, Block.upheld] at *
  case ms | frame => exact .inl h
  case pending => exact h
  case intake => exact fun c => h ▸ CameraUpheld.refl _
  case tracker => exact .of_same h
  case remap => exact .of_same h
  case incident => exact .of_same (by rw [h])
  case ports => exact h ▸ .refl i _
  case flash => exact ⟨.inl (by rw [h]), by rw [h]; exact id⟩
  case loaded => exact fun _ => by rw [h]; exact id
  all_goals rw [h]; exact id

theorem Block.upheld_trans {i : Instr} {b : Block} {s t u : State} (h : b.upheld i s t) (h' : b.upheld i t u) :
    b.upheld i s u := by
  cases b <;> simp only [Block.upheld] at *
  case pending => exact h'.trans h
  case ms => exact h'.elim (fun e => h.imp_left e.trans) .inr
  case frame => exact h'.elim (fun e => h.imp_left e.trans) .inr
  case intake => exact fun c => (h c).trans (h' c)
  case tracker => exact ⟨h'.queue ∘ h.queue, h'.tracks ∘ h.tracks, h'.numbers ∘ h.numbers⟩
  case remap => exact ⟨h'.faulted ∘ h.faulted, h'.entries ∘ h.entries, h'.sound ∘ h.sound⟩
  case incident => exact ⟨h'.count ∘ h.count, h'.numbers ∘ h.numbers⟩
  case ports => exact ⟨h'.queues ∘ h.queues, h'.notices ∘ h.notices, fun e => (h.service e).trans (h'.service e)⟩
  case flash => exact ⟨h'.1.elim (fun e => h.1.imp_left e.trans) .inr, h'.2 ∘ h.2⟩
  case loaded => exact fun e => h' e ∘ h e
  all_goals exact h' ∘ h

theorem claimsSound_congr {s t : State} (hm : t.mode = s.mode) (hp : t.loaded.ports = s.loaded.ports)
    (hc : t.arbiter.claims = s.arbiter.claims) : claimsSound t = claimsSound s := by
  simp only [claimsSound, slotBounded, hm, hp, hc]

theorem ModesUpheld.of_same {i : Instr} {s t : State} (hm : t.mode = s.mode) (hl : t.loaded = s.loaded)
    (hv : t.alert.vehicle.speed.value = s.alert.vehicle.speed.value) (ha : t.alert.level = s.alert.level)
    (hc : t.arbiter.claims = s.arbiter.claims) : ModesUpheld i s t where
  config := .inl hl
  starting h := .inl (hm.trans h)
  restarted h := .inl (hm.symm.trans h)
  running h := .inl (hm.symm.trans h)
  service h := .inl (hm.symm.trans h)
  entered h h' := by rw [hm, h] at h'; cases h'
  speed _ := .inl hv
  level := .inl ha
  emptied h _ _ := hc.trans h
  claims h := (claimsSound_congr hm (by rw [hl]) hc).trans h

theorem takesRequests_ne_load {i : Instr} (h : takesRequests i = true) : i ≠ .loadCompletion := by
  rintro rfl; cases h

theorem takesRequests_ne_update {i : Instr} (h : takesRequests i = true) : i ≠ .trackerUpdateCompletion := by
  rintro rfl; cases h

theorem ModesUpheld.trans {i : Instr} {s t u : State} (h : ModesUpheld i s t) (h' : ModesUpheld i t u) :
    ModesUpheld i s u where
  config := by
    rcases h'.config with e | e | e
    · rcases h.config with d | d | d
      · exact .inl (e.trans d)
      · exact .inr (h'.starting d)
      · exact .inr (.inr d)
    · exact .inr (.inl e)
    · exact .inr (.inr e)
  starting e := (h.starting e).elim h'.starting .inr
  restarted e := (h'.restarted e).elim h.restarted .inr
  running e := by
    rcases h'.running e with d | ⟨d, l⟩
    · exact h.running d
    · exact .inr ⟨(h.restarted d).resolve_right (absurd l), l⟩
  service e := by
    rcases h'.service e with d | ⟨d, l⟩
    · exact h.service d
    · exact (h.running d).elim (fun r => .inr ⟨r, l⟩) fun r => absurd r.2 (takesRequests_ne_load l)
  entered e d := by
    rcases h'.service d with m | ⟨m, l⟩
    · obtain ⟨hlevel, hspeed, hclaims⟩ := h.entered e m
      have l : takesRequests i = true := (h.service m).elim (fun r => absurd (e.symm.trans r) (by decide)) (·.2)
      refine ⟨?_, hspeed, h'.emptied hclaims (by rw [m]; decide) (by rw [d]; decide)⟩
      rcases h'.level with a | a | a
      · exact a.trans hlevel
      · exact absurd a (takesRequests_ne_update l)
      · exact a.2.1
    · obtain ⟨hlevel, hspeed, hclaims⟩ := h'.entered m d
      refine ⟨hlevel, ?_, hclaims⟩
      rcases h.speed l with a | a
      · exact a ▸ hspeed
      · exact absurd (m.symm.trans a) (by decide)
  speed l := by
    rcases h'.speed l with e | e
    · rcases h.speed l with d | d
      · exact .inl (e.trans d)
      · exact .inr ((h'.starting d).resolve_right (takesRequests_ne_load l))
    · exact .inr e
  level := by
    rcases h'.level with e | e | e
    · rcases h.level with d | d | ⟨d, n, l⟩
      · exact .inl (e.trans d)
      · exact .inr (.inl d)
      · exact .inr (.inr ⟨(h'.starting d).resolve_right l, e.trans n, l⟩)
    · exact .inr (.inl e)
    · exact .inr (.inr e)
  emptied e m n := by
    by_cases r : t.mode = .running
    · obtain ⟨_, l⟩ := (h.running r).resolve_left m
      cases hu : u.mode with
      | running => exact absurd hu n
      | starting => exact ((h'.restarted hu).elim (fun q => absurd (r.symm.trans q) (by decide)) (absurd l))
      | service =>
        rcases h'.service hu with q | ⟨_, q⟩
        · exact absurd (r.symm.trans q) (by decide)
        · exact absurd l (takesRequests_ne_load q)
    · exact h'.emptied (h.emptied e m r) r n
  claims := h'.claims ∘ h.claims

theorem UpheldOff.trans {bs : List Block} {i : Instr} {s t u : State} (h : UpheldOff bs i s t) (h' : UpheldOff bs i t u) :
    UpheldOff bs i s u :=
  ⟨fun b hb => Block.upheld_trans (h.block b hb) (h'.block b hb), h.modes.trans h'.modes⟩

theorem Upheld.trans {i : Instr} {s t u : State} (h : Upheld i s t) (h' : Upheld i t u) : Upheld i s u :=
  UpheldOff.trans h h'

theorem UpheldOff.mono {bs : List Block} {i : Instr} {s t : State} (h : Upheld i s t) : UpheldOff bs i s t :=
  ⟨fun b _ => h.block b (by simp), h.modes⟩

/-- The block left out is added. -/
theorem UpheldOff.close {b : Block} {i : Instr} {s t : State} (h : UpheldOff [b] i s t) (hb : b.upheld i s t) :
    Upheld i s t :=
  ⟨fun c _ => if e : c = b then e ▸ hb else h.block c (by simpa using e), h.modes⟩

/-! ## Updates of a few blocks -/

/-- The blocks that the operating state, the configuration, S and the claim table stand in. -/
def modeBlocks : List Block := [.loader, .loaded, .alert, .arbiter]

theorem ModesUpheld.of_keepsBut {i : Instr} {bs : List Block} {s t : State} (h : KeepsBut bs s t)
    (hbs : ∀ b ∈ modeBlocks, b ∉ bs) : ModesUpheld i s t := by
  have hloader : t.loader = s.loader := h .loader (hbs _ (by decide))
  have halert : t.alert = s.alert := h .alert (hbs _ (by decide))
  have harbiter : t.arbiter = s.arbiter := h .arbiter (hbs _ (by decide))
  exact .of_same (by simp only [State.mode, hloader]) (h .loaded (hbs _ (by decide))) (by rw [halert]) (by rw [halert])
    (by rw [harbiter])

/-- What changes only the blocks `bs` need be looked at there. -/
theorem Upheld.of_keepsBut {i : Instr} {bs : List Block} {s t : State} (h : KeepsBut bs s t)
    (hb : ∀ b ∈ bs, b.upheld i s t) (hm : ModesUpheld i s t) : Upheld i s t :=
  ⟨fun b _ => if e : b ∈ bs then hb b e else Block.upheld_of_same (h b e), hm⟩

/-- What changes one block need be looked at there. -/
theorem Upheld.of_block {i : Instr} {b : Block} {s t : State} (h : KeepsBut [b] s t) (hb : b.upheld i s t)
    (hm : b ∉ modeBlocks := by decide) : Upheld i s t :=
  .of_keepsBut h (by simpa using hb) (.of_keepsBut h fun c hc e => hm (by rw [← List.mem_singleton.mp e]; exact hc))

theorem Upheld.of_same {i : Instr} {s t : State} (h : KeepsBut [.exposure, .motion, .draws] s t) : Upheld i s t :=
  .of_keepsBut h (by simp [Block.upheld]) (.of_keepsBut h (by decide))

theorem Upheld.refl (i : Instr) (s : State) : Upheld i s s := .of_same (.refl _ s)

theorem Upheld.of_ports {i : Instr} {s t : State} (h : KeepsBut [.ports] s t) (hp : PortsUpheld i s.ports t.ports) :
    Upheld i s t := .of_block h hp

theorem Upheld.mapPorts {i : Instr} {s : State} {f : Ports → Ports} (h : PortsUpheld i s.ports (f s.ports)) :
    Upheld i s (s.mapPorts f) := .of_ports (mapPorts_keeps s f) h

theorem Upheld.mapRemap {i : Instr} {s : State} {f : Remap → Remap} (h : RemapUpheld s (s.mapRemap f)) :
    Upheld i s (s.mapRemap f) := .of_block (mapRemap_keeps s f) h

theorem Upheld.mapTracker {i : Instr} {s : State} {f : Tracker → Tracker} (h : TrackerUpheld s (s.mapTracker f)) :
    Upheld i s (s.mapTracker f) := .of_block (mapTracker_keeps s f) h

theorem mapIncident_keeps (s : State) (f : Incident → Incident) : KeepsBut [.incident] s (s.mapIncident f) := by
  intro b hb
  cases b <;> first | exact absurd (by decide) hb | rfl

theorem Upheld.mapIncident {i : Instr} {s : State} {f : Incident → Incident} (h : MarksUpheld s (s.mapIncident f)) :
    Upheld i s (s.mapIncident f) := .of_block (mapIncident_keeps s f) h

/-- What leaves the output store and the picture sent. -/
theorem Upheld.of_compositor {i : Instr} {s t : State} (h : KeepsBut [.compositor] s t)
    (hst : t.compositor.store = s.compositor.store) (hse : t.compositor.sent = s.compositor.sent) : Upheld i s t :=
  .of_block h (by simp only [Block.upheld, hst, hse]; exact id)

/-- What changes one camera. -/
theorem Upheld.mapIntake {i : Instr} {s : State} {c : Camera} {f : CameraIntake → CameraIntake}
    (h : CameraUpheld (s.intake.get c) (f (s.intake.get c))) : Upheld i s (s.mapIntake c f) :=
  .of_block (mapIntake_keeps s c f) fun d => by
    by_cases e : d = c
    · subst e; simpa [State.mapIntake] using h
    · simpa [State.mapIntake, Quad.get_set_other _ _ e] using CameraUpheld.refl (s.intake.get d)

/-- What leaves the vehicle's speed, S and the occupancy. -/
theorem Upheld.of_alert {i : Instr} {s t : State} (h : KeepsBut [.alert] s t)
    (hv : t.alert.vehicle.speed.value = s.alert.vehicle.speed.value) (ha : t.alert.level = s.alert.level)
    (ho : t.alert.occupancy = s.alert.occupancy) : Upheld i s t := by
  have hloader : t.loader = s.loader := h .loader (by decide)
  have hloaded : t.loaded = s.loaded := h .loaded (by decide)
  have harbiter : t.arbiter = s.arbiter := h .arbiter (by decide)
  refine .of_keepsBut h (by simp [Block.upheld, ho]) (.of_same ?_ hloaded hv ha (by rw [harbiter]))
  simp only [State.mode, hloader]

end Sys2Proof.Machine
end

section
/-! PROOFS. What every command keeps: notices, records, marks, claims and decisions. -/

namespace Sys2Proof.Machine

/-! ## Producing frames and raising notices -/

theorem count_notice_frame (f : CabFrame) : [CabWaiting.frame f].count .notice = 0 := by
  simp

/-- A frame that begins leaves its place in the list of waiting frames. -/
theorem beginSending_count (p : Ports) : (beginSending p).waiting.count .notice ≤ p.waiting.count .notice := by
  unfold beginSending
  split
  next f rest _ hw => simp [hw]
  next rest _ hw => simp [hw]
  next => exact Nat.le_refl _

/-- A frame that begins is owed as it was while it waited. -/
theorem beginSending_owed (m : Master) (p : Ports) : answersOwed m (beginSending p) = answersOwed m p := by
  unfold beginSending
  split
  next f rest hs hw =>
    cases m
    · cases hf : f.role.isAnswer <;>
        simp [answersOwed, masterPort, hs, hw, hf, CabWaiting.isAnswer, Nat.add_comm]
    all_goals rfl
  next rest hs hw =>
    cases m
    · simp [answersOwed, masterPort, hs, hw, CabWaiting.isAnswer, noticeFrame, FrameRole.isAnswer]
    all_goals rfl
  next => rfl

theorem beginSending_idle (p : Ports) : CabIdle (beginSending p) := by
  unfold beginSending CabIdle
  split
  next => exact .inl rfl
  next => exact .inl rfl
  next hframe hnotice =>
    rcases hs : p.sending with _ | f
    · rcases hw : p.waiting with _ | ⟨f | _, rest⟩
      · exact .inr rfl
      · exact absurd hw (hframe f rest hs)
      · exact absurd hw (hnotice rest hs)
    · exact .inl rfl

/-- A frame that is produced is owed when it is a response to a taken request. -/
theorem produceCab_owed (w : CabWaiting) (p : Ports) (m : Master) :
    answersOwed m (produceCab w p) = answersOwed m p + if m = .cab ∧ w.isAnswer = true then 1 else 0 := by
  unfold produceCab
  split
  next h =>
    obtain ⟨rfl, _⟩ := h
    simp [CabWaiting.isAnswer]
  next =>
    rw [beginSending_owed]
    cases m
    · simp [answersOwed, masterPort, List.countP_cons, List.countP_append]
      omega
    all_goals rfl

theorem produceCab_idle (w : CabWaiting) {p : Ports} (h : CabIdle p) : CabIdle (produceCab w p) := by
  unfold produceCab
  split
  next => exact h
  next => exact beginSending_idle _

theorem produceCab_count (w : CabWaiting) {p : Ports} (h : p.waiting.count .notice ≤ 1) :
    (produceCab w p).waiting.count .notice ≤ 1 := by
  unfold produceCab
  split
  next => exact h
  next hw =>
    refine Nat.le_trans (beginSending_count _) ?_
    rw [List.count_append]
    cases w with
    | frame f => rw [count_notice_frame]; exact h
    | notice =>
      rw [List.count_eq_zero.mpr fun hn => hw ⟨rfl, hn⟩]
      simp

theorem produceNotice_upheld (i : Instr) (p : Ports) : PortsUpheld i p (produceCab .notice p) where
  queues h := by simpa using h
  notices := produceCab_count _
  service _ := .inl ⟨by simp, fun m => by simp [produceCab_owed, CabWaiting.isAnswer], produceCab_idle _⟩

theorem raiseNotice_upheld (i : Instr) (k : NoticeKind) (s : State) : Upheld i s (raiseNotice k s) := by
  have hsets : PortsUpheld i s.ports { s.ports with
      pendingSets := ⟨pendingWith s .cab k, pendingWith s .body k, pendingWith s .chassis k⟩ } :=
    .of_same rfl rfl rfl fun _ => rfl
  refine .of_ports (raiseNotice_keeps k s) ?_
  unfold raiseNotice
  dsimp only
  split
  next =>
    have hnotice := produceNotice_upheld i { s.ports with
      pendingSets := ⟨pendingWith s .cab k, pendingWith s .body k, pendingWith s .chassis k⟩ }
    exact ⟨hnotice.queues ∘ hsets.queues, hnotice.notices ∘ hsets.notices,
      fun e => (hsets.service e).trans (hnotice.service e)⟩
  next => exact hsets

theorem intakeNotice_upheld (i : Instr) (k : NoticeKind) (s : State) : Upheld i s (intakeNotice k s) := by
  unfold intakeNotice
  split
  next => exact .refl i s
  next => exact raiseNotice_upheld i k s

theorem raiseIf_upheld (i : Instr) (b : Bool) (k : NoticeKind) (s : State) : Upheld i s (raiseIf b k s) := by
  unfold raiseIf
  split
  next => exact raiseNotice_upheld i k s
  next => exact .refl i s

theorem noticeIf_upheld (i : Instr) (b : Bool) (s : State) : Upheld i s (noticeIf b s) := by
  unfold noticeIf
  split
  next => exact .mapPorts (produceNotice_upheld i s.ports)
  next => exact .refl i s

theorem oweBroadcasts_upheld (i : Instr) (s : State) : Upheld i s (oweBroadcasts s) :=
  .mapPorts (.of_same rfl rfl rfl fun x => by cases x <;> rfl)

/-! ## Arms -/

theorem rearm_upheld (i : Instr) (r : ArmSource → Bool) (s : State) : Upheld i s (rearm r s) := by
  refine .of_compositor (rearm_keeps r s) ?_ ?_ <;>
    · unfold rearm
      split <;> rfl

/-! ## Marks -/

/-- The candidates of a search, one of which no mark carries: the search ends at such a number. -/
theorem freeMarkNumber_notMem {marks : List Mark} {fuel : Nat} {n : Half}
    (h : ∃ j < fuel, n + BitVec.ofNat 16 j ∉ marks.map Mark.number) :
    freeMarkNumber marks fuel n ∉ marks.map Mark.number := by
  induction fuel generalizing n with
  | zero => obtain ⟨j, hj, _⟩ := h; omega
  | succ fuel ih =>
    rw [freeMarkNumber]
    split
    next hany =>
      obtain ⟨j, hj, hn⟩ := h
      cases j with
      | zero =>
        obtain ⟨m, hm, he⟩ := List.any_eq_true.mp hany
        exact absurd (List.mem_map.mpr ⟨m, hm, of_decide_eq_true he⟩) (by simpa using hn)
      | succ j =>
        refine ih ⟨j, by omega, ?_⟩
        have e : n + 1#16 + BitVec.ofNat 16 j = n + BitVec.ofNat 16 (j + 1) := by
          rw [BitVec.add_assoc]
          congr 1
          apply BitVec.eq_of_toNat_eq
          simp [Nat.add_comm]
        rwa [e]
    next hany =>
      intro hmem
      obtain ⟨m, hm, he⟩ := List.mem_map.mp hmem
      exact hany (List.any_eq_true.mpr ⟨m, hm, decide_eq_true he⟩)

theorem eq_of_nodup_map {α β : Type} {f : α → β} {l : List α} (h : (l.map f).Nodup) {a b : α} (ha : a ∈ l) (hb : b ∈ l)
    (he : f a = f b) : a = b := by
  induction l with
  | nil => cases ha
  | cons x xs ih =>
    obtain ⟨hx, hxs⟩ := List.nodup_cons.mp h
    rcases List.mem_cons.mp ha with rfl | ha' <;> rcases List.mem_cons.mp hb with rfl | hb'
    · rfl
    · exact absurd (he ▸ List.mem_map_of_mem hb') hx
    · exact absurd (he ▸ List.mem_map_of_mem ha') hx
    · exact ih hxs ha' hb'

/-- A map over distinct values gives distinct values just when it tells them apart. -/
theorem nodup_map_iff_injOn {α β : Type} {f : α → β} {l : List α} (h : l.Nodup) :
    (l.map f).Nodup ↔ ∀ a ∈ l, ∀ b ∈ l, f a = f b → a = b := by
  refine ⟨fun hmap a ha b hb => eq_of_nodup_map hmap ha hb, fun hall => ?_⟩
  induction l with
  | nil => exact List.nodup_nil
  | cons x xs ih =>
    obtain ⟨hx, hxs⟩ := List.nodup_cons.mp h
    refine List.nodup_cons.mpr ⟨fun hmem => ?_, ih hxs fun a ha b hb => hall a (.tail _ ha) b (.tail _ hb)⟩
    obtain ⟨a, ha, he⟩ := List.mem_map.mp hmem
    exact hx (hall a (.tail _ ha) x (.head _) he ▸ ha)

/-- Of more candidates than a list has members, all distinct, one is no member. -/
theorem exists_notMem_of_injective {α : Type} {l : List α} {k : Nat} (hk : l.length < k) (f : Nat → α)
    (hf : ∀ a < k, ∀ b < k, f a = f b → a = b) : ∃ j < k, f j ∉ l := by
  refine Classical.byContradiction fun hnone => ?_
  have hnodup : ((List.range k).map f).Nodup :=
    (nodup_map_iff_injOn List.nodup_range).mpr fun a ha b hb =>
      hf a (List.mem_range.mp ha) b (List.mem_range.mp hb)
  have hsub : (List.range k).map f ⊆ l := by
    intro x hx
    obtain ⟨j, hj, rfl⟩ := List.mem_map.mp hx
    exact Classical.byContradiction fun hout => hnone ⟨j, List.mem_range.mp hj, hout⟩
  have hlen := hnodup.length_le_of_subset hsub
  rw [List.length_map, List.length_range] at hlen
  omega

/-- R152: with at most eight marks the number of a new one is free. -/
theorem freeMarkNumber_free (marks : List Mark) (hl : marks.length ≤ 8) (n : Half) :
    freeMarkNumber marks (marks.length + 1) n ∉ marks.map Mark.number := by
  refine freeMarkNumber_notMem (exists_notMem_of_injective (by simp) _ ?_)
  intro a ha b hb he
  have hab : BitVec.ofNat 16 a = BitVec.ofNat 16 b := by
    have := congrArg (fun x => x - n) he
    simpa [BitVec.add_comm n] using this
  have := congrArg BitVec.toNat hab
  simp only [BitVec.toNat_ofNat] at this
  omega

theorem dropCollected_length {l : List Mark} (h : l.any Mark.collected = true) :
    (dropCollected l).length = l.length - 1 := by
  obtain ⟨m, hm, hc⟩ := List.any_eq_true.mp h
  exact List.length_eraseP_of_mem hm hc

theorem dropCollected_sublist (l : List Mark) : (dropCollected l).Sublist l := List.eraseP_sublist

/-- A list that takes a new mark has at most seven before it joins. -/
theorem marksBefore_length {l : List Mark} (h : markFits l = true) (h8 : l.length ≤ 8) : (marksBefore l).length ≤ 7 := by
  unfold marksBefore
  split
  next => omega
  next hfull =>
    have hany : l.any Mark.collected = true := by simpa [markFits, hfull] using h
    rw [dropCollected_length hany]
    omega

theorem marksBefore_sublist (l : List Mark) : (marksBefore l).Sublist l := by
  unfold marksBefore
  split
  next => exact .refl l
  next => exact dropCollected_sublist l

theorem marksSound_iff (s : State) :
    marksSound s = true ↔ s.incident.marks.length ≤ 8 ∧ (s.incident.marks.map Mark.number).Nodup := by
  simp [marksSound]

/-- R152, R154: a mark that joins leaves at most eight, with distinct numbers. -/
theorem joinMark_upheld (i : Instr) (m : Mark) (s : State) (h : markFits s.incident.marks = true) :
    Upheld i s (joinMark m s) := by
  refine Upheld.trans (.mapIncident ⟨fun h8 => ?_, fun hs => ?_⟩) (raiseNotice_upheld i _ _)
  · have := marksBefore_length h h8
    simp only [State.mapIncident_incident, List.length_append, List.length_singleton]
    omega
  · rw [marksSound_iff] at hs ⊢
    obtain ⟨h8, hnodup⟩ := hs
    have h7 := marksBefore_length h h8
    simp only [State.mapIncident_incident, List.length_append, List.length_singleton, List.map_append, List.map_cons,
      List.map_nil]
    refine ⟨by omega, List.nodup_append.mpr ⟨hnodup.sublist ((marksBefore_sublist _).map _), by simp, ?_⟩⟩
    intro a ha b hb hab
    rw [List.mem_singleton] at hb
    exact freeMarkNumber_free _ (by omega) _ (hb ▸ hab ▸ ha)

theorem dropMark_upheld (i : Instr) (s : State) : Upheld i s (dropMark s) := .mapIncident (.of_same rfl)

theorem fireMark_upheld (i : Instr) (src : MarkSource) (s : State) : Upheld i s (fireMark src s) := by
  unfold fireMark
  split
  next h => exact joinMark_upheld i _ s h
  next => exact dropMark_upheld i s

theorem mapFirst_map {β : Type} (p : Mark → Bool) (f : Mark → Mark) (g : Mark → β) (hg : ∀ m, g (f m) = g m)
    (l : List Mark) : (mapFirst p f l).map g = l.map g := by
  induction l with
  | nil => rfl
  | cons m l ih =>
    rw [mapFirst]
    split
    next => simp [hg]
    next => simp [ih]

theorem mapFirst_length (p : Mark → Bool) (f : Mark → Mark) (l : List Mark) : (mapFirst p f l).length = l.length := by
  simpa using congrArg List.length (mapFirst_map p f (fun _ => ()) (fun _ => rfl) l)

/-- A change of the first mark of a kind leaves every number. -/
theorem mapFirst_upheld {s t : State} (p : Mark → Bool) (f : Mark → Mark) (hf : ∀ m, (f m).number = m.number)
    (h : t.incident.marks = mapFirst p f s.incident.marks) : MarksUpheld s t := by
  constructor <;> simp [marksSound, h, mapFirst_map p f _ hf, mapFirst_length]

theorem embedMark_upheld (i : Instr) (s : State) : Upheld i s (embedMark s) :=
  Upheld.trans (.of_compositor (mapCompositor_keeps s _) rfl rfl)
    (.mapIncident (mapFirst_upheld (fun m => !m.embedded) (fun m => { m with embedded := true }) (fun _ => rfl) rfl))

/-! ## Trigger conditions and records -/

theorem setTrigger_upheld (i : Instr) (n : Fin 4) (x : TriggerState) (s : State) : Upheld i s (setTrigger n x s) :=
  .mapIncident (.of_same rfl)

theorem fireTrigger_upheld (i : Instr) (n : Fin 4) (s : State) : Upheld i s (fireTrigger n s) :=
  (fireMark_upheld i _ s).trans (setTrigger_upheld i n _ _)

theorem offerTo_upheld (i : Instr) (r : EventRecord) (n : Fin 4) (s : State) : Upheld i s (offerTo r n s) := by
  unfold offerTo
  dsimp only
  split
  next =>
    split
    next =>
      split
      next => exact fireTrigger_upheld i n s
      next => exact setTrigger_upheld i n _ s
    next => exact .refl i s
  next => exact .refl i s
  next => exact .refl i s

theorem offerRecord_upheld (i : Instr) (r : EventRecord) (s : State) : Upheld i s (offerRecord r s) := by
  unfold offerRecord
  split
  next => exact .refl i s
  next =>
    exact (((offerTo_upheld i r 0 s).trans (offerTo_upheld i r 1 _)).trans (offerTo_upheld i r 2 _)).trans
      (offerTo_upheld i r 3 _)

theorem countTrigger_upheld (i : Instr) (n : Fin 4) (s : State) : Upheld i s (countTrigger n s) := by
  unfold countTrigger
  split
  next => exact .refl i s
  next =>
    split
    next => exact fireTrigger_upheld i n s
    next => exact setTrigger_upheld i n _ s
  next => exact setTrigger_upheld i n _ s

theorem countStanding_upheld (i : Instr) (b : TriggerState) (n : Fin 4) (s : State) :
    Upheld i s (countStanding b n s) := by
  unfold countStanding
  split
  next => exact .refl i s
  next => exact countTrigger_upheld i n s

theorem countTriggers_upheld (i : Instr) (b : Quad TriggerState) (s : State) : Upheld i s (countTriggers b s) := by
  unfold countTriggers
  split
  next => exact .refl i s
  next =>
    exact (((countStanding_upheld i _ 0 s).trans (countStanding_upheld i _ 1 _)).trans
      (countStanding_upheld i _ 2 _)).trans (countStanding_upheld i _ 3 _)

/-! ## Claims -/

/-- Every claim slot of a claim table that is sound holds no claim above its slot's maximum. -/
theorem claimsSound_iff (s : State) :
    claimsSound s = true ↔
      (∀ j k, s.arbiter.claims.get j = some k → k.level ≤ slotMaximum s.loaded.ports j) ∧
        (s.mode ≠ .running → s.arbiter.claims = Quad.all none) := by
  have hslot : ∀ j, slotBounded s j = true ↔
      ∀ k, s.arbiter.claims.get j = some k → k.level ≤ slotMaximum s.loaded.ports j := by
    intro j
    unfold slotBounded
    split
    next h => simp [h]
    next k h => simp [h]
  have hall : (∀ j, slotBounded s j = true) ↔
      slotBounded s 0 = true ∧ slotBounded s 1 = true ∧ slotBounded s 2 = true ∧ slotBounded s 3 = true :=
    ⟨fun h => ⟨h 0, h 1, h 2, h 3⟩, fun ⟨h0, h1, h2, h3⟩ => by
      intro j; match j with | 0 => exact h0 | 1 => exact h1 | 2 => exact h2 | 3 => exact h3⟩
  simp only [← hslot, hall, claimsSound, Bool.and_eq_true, Bool.or_eq_true, decide_eq_true_eq, and_assoc,
    Decidable.or_iff_not_imp_left,
    ne_eq]

/-- What only takes claims away, or changes them in other fields than their level. -/
theorem Upheld.of_arbiter {i : Instr} {s t : State} (h : KeepsBut [.arbiter] s t)
    (hc : ∀ j k, t.arbiter.claims.get j = some k → ∃ k', s.arbiter.claims.get j = some k' ∧ k'.level = k.level) :
    Upheld i s t := by
  have hloader : t.loader = s.loader := h .loader (by decide)
  have hloaded : t.loaded = s.loaded := h .loaded (by decide)
  have halert : t.alert = s.alert := h .alert (by decide)
  have hmode : t.mode = s.mode := by simp only [State.mode, hloader]
  have hempty : s.arbiter.claims = Quad.all none → t.arbiter.claims = Quad.all none := by
    intro hs
    refine Quad.ext_get fun j => ?_
    rw [Quad.get_all]
    rcases hj : t.arbiter.claims.get j with _ | k
    · rfl
    · obtain ⟨k', hk', _⟩ := hc j k hj
      simp [hs] at hk'
  refine .of_keepsBut h (by simp [Block.upheld]) ?_
  have hsame := ModesUpheld.of_same (i := i) (s := s) (t := { t with arbiter := s.arbiter }) hmode hloaded (by rw [halert])
    (by rw [halert]) rfl
  refine { hsame with entered := ?_, emptied := fun e _ _ => hempty e, claims := fun e => ?_ }
  · intro e e'
    rw [hmode, e] at e'
    cases e'
  · rw [claimsSound_iff] at e ⊢
    obtain ⟨hlevels, hnone⟩ := e
    refine ⟨fun j k hk => ?_, fun hr => hempty (hnone (hmode ▸ hr))⟩
    obtain ⟨k', hk', hlevel⟩ := hc j k hk
    rw [← hlevel, hloaded]
    exact hlevels j k' hk'

theorem grantSource_level (src : Source) (a : Arbiter) (j : Fin 4) :
    ((grantSource src a).claims.get j).map Claim.level = (a.claims.get j).map Claim.level := by
  simp [grantSource, Function.comp_def]

/-- A decision changes no claim but for its granted flag. -/
theorem decideArbiter_level (a : Arbiter) (j : Fin 4) :
    ((decideArbiter a).claims.get j).map Claim.level = (a.claims.get j).map Claim.level := by
  have hgrant : ∀ (w : Winner) (b : Arbiter), ((grantWinner w b).claims.get j).map Claim.level =
      (b.claims.get j).map Claim.level := by
    intro w b
    unfold grantWinner
    split
    next => rfl
    next => exact grantSource_level _ _ _
  unfold decideArbiter
  dsimp only
  cases a.state <;> dsimp only
  case settled =>
    split
    · exact hgrant _ _
    · rfl
  case targetHeld =>
    split
    · exact hgrant _ _
    · rfl
  case firstFrame =>
    split
    · rfl
    · split <;> rfl
  case dwell =>
    split
    · rfl
    · split <;> rfl

/-- What changes the arbiter and no claim's level. -/
theorem Upheld.of_levels {i : Instr} {s t : State} (h : KeepsBut [.arbiter] s t)
    (hc : ∀ j, (t.arbiter.claims.get j).map Claim.level = (s.arbiter.claims.get j).map Claim.level) : Upheld i s t := by
  refine .of_arbiter h fun j k hk => ?_
  have := hc j
  rw [hk, Option.map_some, eq_comm, Option.map_eq_some_iff] at this
  exact this

theorem Upheld.mapArbiter {i : Instr} {s : State} {f : Arbiter → Arbiter}
    (h : ∀ j, ((f s.arbiter).claims.get j).map Claim.level = (s.arbiter.claims.get j).map Claim.level) :
    Upheld i s (s.mapArbiter f) := .of_levels (mapArbiter_keeps s f) h

theorem decisionEvent_upheld (i : Instr) (s : State) : Upheld i s (decisionEvent s) := by
  refine .of_levels (decisionEvent_keeps s) fun j => ?_
  unfold decisionEvent
  split
  next => exact decideArbiter_level _ _
  next => rfl

theorem dropClaim_upheld (i : Instr) (j : Fin 4) (s : State) : Upheld i s (setClaim j none s) := by
  refine .of_arbiter (setClaim_keeps j none s) fun l k hk => ?_
  simp only [setClaim, State.mapArbiter_arbiter, Quad.get_set] at hk
  split at hk
  next => cases hk
  next => exact ⟨k, hk, rfl⟩

/-- R131, R132: a claim is written while RUNNING alone, up to its slot's maximum. -/
theorem setClaim_upheld (i : Instr) {j : Fin 4} {k : Claim} {s : State} (hm : s.mode = .running)
    (hk : k.level ≤ slotMaximum s.loaded.ports j) : Upheld i s (setClaim j (some k) s) := by
  have h := setClaim_keeps j (some k) s
  refine .of_keepsBut h (by simp [Block.upheld]) ?_
  have hsame := ModesUpheld.of_same (i := i) (s := s) (t := s) rfl rfl rfl rfl rfl
  refine { hsame with entered := ?_, emptied := fun _ e => absurd hm e, claims := fun e => ?_ }
  · intro _ e
    exact absurd (hm.symm.trans e) (by decide)
  · rw [claimsSound_iff] at e ⊢
    obtain ⟨hlevels, _⟩ := e
    refine ⟨fun l k' hl => ?_, fun e => absurd hm e⟩
    simp only [setClaim, State.mapArbiter_arbiter, Quad.get_set] at hl
    split at hl
    next hlj => cases hl; exact hlj ▸ hk
    next => exact hlevels l k' hl

theorem setLinger_upheld (i : Instr) (x : Option Word) (s : State) : Upheld i s (setLinger x s) :=
  .of_alert (mapAlert_keeps s _) rfl rfl rfl

theorem lapseClaim_upheld (i : Instr) (m : Master) (s : State) : Upheld i s (lapseClaim m s) :=
  (((dropClaim_upheld i (masterSlot m) s).trans (.mapArbiter fun _ => rfl)).trans (raiseNotice_upheld i _ _)).trans
    (decisionEvent_upheld i _)

theorem expireLinger_upheld (i : Instr) (s : State) : Upheld i s (expireLinger s) :=
  ((setLinger_upheld i none s).trans (dropClaim_upheld i 3 _)).trans (decisionEvent_upheld i _)

end Sys2Proof.Machine
end

section
/-! PROOFS. What every command keeps: the camera links, their slots, and the handover of a frame. -/

namespace Sys2Proof.Machine

/-! ## One camera -/

/-- At most one slot in a state: any two are the same. -/
theorem slotCount_le_one (x : SlotState) (k : CameraIntake) :
    slotCount x k ≤ 1 ↔ ∀ a b, (k.slots.get a).state = x → (k.slots.get b).state = x → a = b := by
  have hcount : slotCount x k =
      (if (k.slots.get 0).state = x then 1 else 0) + (if (k.slots.get 1).state = x then 1 else 0) +
        (if (k.slots.get 2).state = x then 1 else 0) := by
    simp only [slotCount, Trio.toList, Trio.get, List.countP_cons, List.countP_nil, decide_eq_true_eq]
    grind
  rw [hcount]
  constructor
  · intro h a b ha hb
    refine Decidable.byContradiction fun hne => ?_
    match a, b with
    | 0, 0 | 1, 1 | 2, 2 => exact hne rfl
    | 0, 1 | 1, 0 | 0, 2 | 2, 0 | 1, 2 | 2, 1 =>
      simp only [ha, hb, if_true] at h
      omega
  · intro h
    have h01 : (k.slots.get 0).state = x → (k.slots.get 1).state ≠ x := fun p q => absurd (h 0 1 p q) (by decide)
    have h02 : (k.slots.get 0).state = x → (k.slots.get 2).state ≠ x := fun p q => absurd (h 0 2 p q) (by decide)
    have h12 : (k.slots.get 1).state = x → (k.slots.get 2).state ≠ x := fun p q => absurd (h 1 2 p q) (by decide)
    by_cases h0 : (k.slots.get 0).state = x
    · simp only [if_pos h0, if_neg (h01 h0), if_neg (h02 h0), Nat.add_zero, Nat.le_refl]
    · by_cases h1 : (k.slots.get 1).state = x
      · simp only [if_neg h0, if_pos h1, if_neg (h12 h1), Nat.zero_add, Nat.add_zero, Nat.le_refl]
      · rw [if_neg h0, if_neg h1]
        split <;> decide

/-- Where no slot comes into a state, there are no more of them. -/
theorem slotCount_of_imp {x : SlotState} {k l : CameraIntake}
    (h : ∀ j, (l.slots.get j).state = x → (k.slots.get j).state = x) (hk : slotCount x k ≤ 1) : slotCount x l ≤ 1 := by
  rw [slotCount_le_one] at *
  exact fun a b ha hb => hk a b (h a ha) (h b hb)

/-- Where one slot alone comes into a state, it is the only one. -/
theorem slotCount_of_only {x : SlotState} {l : CameraIntake} (i : Fin 3) (h : ∀ j, (l.slots.get j).state = x → j = i) :
    slotCount x l ≤ 1 :=
  (slotCount_le_one x l).mpr fun a b ha hb => (h a ha).trans (h b hb).symm

theorem timersSound_congr {k l : CameraIntake} (hk : l.link = k.link) (hs : l.stall = k.stall) (hl : l.lost = k.lost) :
    timersSound l = timersSound k := by
  simp only [timersSound, hk, hs, hl]

/-- Between two states other than LIVE the timers stand as they should. -/
theorem timersSound_of_notLive {k l : CameraIntake} (hk : k.link ≠ .live) (hl : l.link ≠ .live) (hs : l.stall = k.stall)
    (ht : l.lost = k.lost) : timersSound l = timersSound k := by
  simp only [timersSound, hk, hl, hs, ht]

/-- A camera whose link and timers stand, in which no slot comes to be FILLING or READING and no picture changes. -/
theorem CameraUpheld.of_fewer {k l : CameraIntake} (ht : timersSound k = true → timersSound l = true)
    (hp : ∀ j, (l.slots.get j).picture = (k.slots.get j).picture)
    (hs : ∀ j, (l.slots.get j).state = (k.slots.get j).state ∨
      (l.slots.get j).state ≠ .filling ∧ (l.slots.get j).state ≠ .reading) : CameraUpheld k l where
  pictures h j := (congrArg (sparseWf blankPixel) (hp j)).trans (h j)
  timers := ht
  slots h := ⟨slotCount_of_imp (fun j e => (hs j).elim (fun d => d ▸ e) fun d => absurd e d.1) h.1,
    slotCount_of_imp (fun j e => (hs j).elim (fun d => d ▸ e) fun d => absurd e d.2) h.2⟩

/-- A camera whose link, timers and slots stand. -/
theorem CameraUpheld.of_same {k l : CameraIntake} (hk : l.link = k.link) (ht : l.stall = k.stall) (hl : l.lost = k.lost)
    (hs : l.slots = k.slots) : CameraUpheld k l :=
  .of_fewer (timersSound_congr hk ht hl).trans (fun j => by rw [hs]) fun j => .inl (by rw [hs])

/-- The FILLING slot of a camera freed, its timers as `ht` says. -/
theorem CameraUpheld.of_freed {k l : CameraIntake} (ht : timersSound k = true → timersSound l = true)
    (hs : FillingFreed k.slots l.slots) : CameraUpheld k l := by
  refine .of_fewer ht hs.picture fun j => ?_
  rw [hs j]
  split
  next => exact .inr (by simp)
  next => exact .inl rfl

theorem freeFilling_freed (k : CameraIntake) : FillingFreed k.slots (freeFilling k).slots := freeFilling_slots k

theorem fillingSlot_some {q : Trio FrameSlot} {i : Fin 3} (h : fillingSlot q = some i) : (q.get i).state = .filling := by
  unfold fillingSlot at h
  split at h
  next e => cases h; exact e
  next =>
    split at h
    next e => cases h; exact e
    next =>
      split at h
      next e => cases h; exact e
      next => cases h

theorem fillingSlot_none {q : Trio FrameSlot} (h : fillingSlot q = none) (j : Fin 3) : (q.get j).state ≠ .filling := by
  unfold fillingSlot at h
  split at h
  next => cases h
  next h0 =>
    split at h
    next => cases h
    next h1 =>
      split at h
      next => cases h
      next h2 => exact match j with | 0 => h0 | 1 => h1 | 2 => h2

/-- After the FILLING slot of a camera with one at most is freed, none is FILLING. -/
theorem notFilling_of_freed {k : CameraIntake} {r : Trio FrameSlot} (h : slotCount .filling k ≤ 1)
    (hr : FillingFreed k.slots r) (j : Fin 3) : (r.get j).state ≠ .filling := by
  rw [hr j]
  split
  next => simp
  next hj =>
    intro e
    rcases hf : fillingSlot k.slots with _ | i
    · exact fillingSlot_none hf j e
    · exact hj (((slotCount_le_one _ k).mp h i j (fillingSlot_some hf) e) ▸ hf)

theorem tearFrame_upheld (k : CameraIntake) : CameraUpheld k (tearFrame k) := by
  refine .of_freed ?_ (tearFrame_freed k)
  rw [tearFrame_only k]
  exact (timersSound_congr rfl rfl rfl).trans

/-- What taking a slot leaves: the slots apart, the dropped counter alone can change. -/
theorem takeSlot_only (now : Word) (k : CameraIntake) :
    takeSlot now k = { k with slots := (takeSlot now k).slots, dropped := (takeSlot now k).dropped } := by
  unfold takeSlot
  split
  next => rfl
  next => split <;> rfl

/-- Taking a slot makes at most one slot FILLING, and changes no other slot's state and no picture. -/
theorem takeSlot_slots (now : Word) (k : CameraIntake) :
    (takeSlot now k).slots = k.slots ∨
      ∃ i, (takeSlot now k).slots = k.slots.set i { k.slots.get i with state := .filling } := by
  unfold takeSlot
  split
  next i _ => exact .inr ⟨i, rfl⟩
  next =>
    split
    next i _ => exact .inr ⟨i, rfl⟩
    next => exact .inl rfl

/-- R26, R27: a camera frame start leaves one FILLING slot at most. -/
theorem takeSlot_tearFrame_upheld (now : Word) (k : CameraIntake) : CameraUpheld k (takeSlot now (tearFrame k)) := by
  have hfirst := tearFrame_upheld k
  have htimers : timersSound (takeSlot now (tearFrame k)) = timersSound (tearFrame k) := by
    rw [takeSlot_only]
    exact timersSound_congr rfl rfl rfl
  refine ⟨fun h => ?_, fun h => htimers.trans (hfirst.timers h), fun h => ?_⟩
  all_goals rcases takeSlot_slots now (tearFrame k) with e | ⟨i, e⟩
  · intro j; rw [e]; exact hfirst.pictures h j
  · intro j
    rw [e, Trio.get_set]
    split
    next => exact hfirst.pictures h i
    next => exact hfirst.pictures h j
  · simpa only [slotCount, e] using hfirst.slots h
  · have hnone := notFilling_of_freed h.1 (tearFrame_freed k)
    refine ⟨slotCount_of_only i fun j hj => ?_, slotCount_of_imp (fun j hj => ?_) (hfirst.slots h).2⟩
    · refine Decidable.byContradiction fun hji => ?_
      rw [e, Trio.get_set_other _ _ hji] at hj
      exact hnone j hj
    · by_cases hji : j = i
      · rw [e, hji, Trio.get_set_same] at hj
        cases hj
      · rwa [e, Trio.get_set_other _ _ hji] at hj

/-- The slot of a completed frame becomes READY with a canonical picture (R28). -/
theorem completeSlot_upheld {now : Word} {picture : List (Nat × Pixel)} (hp : sparseWf blankPixel picture = true)
    (i : Fin 3) (k : CameraIntake) : CameraUpheld k (completeSlot now picture i k) where
  pictures h j := by
    simp only [completeSlot, Trio.get_set]
    split
    next => exact hp
    next => exact h j
  timers h := (timersSound_congr (k := k) rfl rfl rfl).trans h
  slots h := by
    have hfew : ∀ x, x ≠ .ready → ∀ j, ((completeSlot now picture i k).slots.get j).state = x →
        (k.slots.get j).state = x := by
      intro x hx j hj
      simp only [completeSlot, Trio.get_set] at hj
      split at hj
      next => exact absurd hj.symm hx
      next => exact hj
    exact ⟨slotCount_of_imp (hfew _ (by decide)) h.1, slotCount_of_imp (hfew _ (by decide)) h.2⟩

theorem recordHeader_upheld (h : Header) (k : CameraIntake) : CameraUpheld k (recordHeader h k) := by
  unfold recordHeader
  dsimp only
  split
  next => exact .of_same rfl rfl rfl rfl
  next i _ =>
    refine .of_fewer (timersSound_congr rfl rfl rfl).trans (fun j => ?_) fun j => .inl ?_ <;>
      · simp only [Trio.get_set]
        split
        next e => rw [e]
        next => rfl

theorem sendCommand_upheld (k : CameraIntake) : CameraUpheld k (sendCommand k) := by
  unfold sendCommand
  split
  next => exact .refl k
  next => exact .of_same rfl rfl rfl rfl

theorem sendCommand_link (k : CameraIntake) : (sendCommand k).link = k.link := by
  unfold sendCommand
  split <;> rfl

theorem placeCommand_upheld (g : Gain) (k : CameraIntake) : CameraUpheld k (placeCommand g k) := by
  have hplaced : CameraUpheld k { k with sendBuffer := some g } := .of_same rfl rfl rfl rfl
  unfold placeCommand
  dsimp only
  split
  next => exact hplaced
  next => exact hplaced.trans (sendCommand_upheld _)

theorem slotRuleAt_state (i j : Fin 3) (t : FrameSlot) :
    (slotRuleAt i j t).state = if j = i then .reading else if t.state = .filling then .filling else .free := by
  unfold slotRuleAt
  split
  next => rfl
  next => split <;> simp_all

theorem slotRuleAt_picture (i j : Fin 3) (t : FrameSlot) : (slotRuleAt i j t).picture = t.picture := by
  unfold slotRuleAt
  split
  next => rfl
  next => split <;> rfl

/-- The slots after the slot rule, each by its number. -/
theorem get_slotRuleAt (i j : Fin 3) (q : Trio FrameSlot) :
    (Trio.mk (slotRuleAt i 0 q.s0) (slotRuleAt i 1 q.s1) (slotRuleAt i 2 q.s2)).get j = slotRuleAt i j (q.get j) := by
  match j with
  | 0 => rfl
  | 1 => rfl
  | 2 => rfl

/-- R30: the slot rule leaves one READING slot at most and makes none FILLING. -/
theorem slotRule_upheld (now : Word) (use : Bool) (k : CameraIntake) : CameraUpheld k (slotRule now use k) := by
  unfold slotRule
  split
  next =>
    split
    next => exact .of_same rfl rfl rfl rfl
    next i _ =>
      refine ⟨fun h j => ?_, (timersSound_congr rfl rfl rfl).trans, fun h => ⟨slotCount_of_imp (fun j hj => ?_) h.1,
        slotCount_of_only i fun j hj => ?_⟩⟩
      · rw [get_slotRuleAt, slotRuleAt_picture]
        exact h j
      · rw [get_slotRuleAt, slotRuleAt_state] at hj
        split at hj
        next => cases hj
        next =>
          split at hj
          next hf => exact hf
          next => cases hj
      · rw [get_slotRuleAt, slotRuleAt_state] at hj
        split at hj
        next hji => exact hji
        next => split at hj <;> cases hj
  next => exact .of_same rfl rfl rfl rfl

/-- A camera at a restart has every slot FREE, no stall timer and an expired lost timer (R33). -/
theorem restarted_upheld {k l : CameraIntake} (hl : l.link = linkStart k.lock) (ht : l.stall = none) (ho : l.lost = .expired)
    (hs : l.slots = k.slots.map FrameSlot.restarted) : CameraUpheld k l := by
  refine .of_fewer (fun _ => ?_) (fun j => ?_) fun j => .inr ?_
  · have hlive : l.link ≠ .live := by
      rw [hl]
      unfold linkStart
      split <;> simp
    simp [timersSound, ht, ho, hlive]
  · rw [hs, Trio.get_map]
    rfl
  · rw [hs, Trio.get_map]
    exact ⟨by simp [FrameSlot.restarted], by simp [FrameSlot.restarted]⟩

/-! ## Moves of a link -/

/-- What changes one camera alone among the cameras. -/
theorem Upheld.of_camera {i : Instr} {c : Camera} {k : CameraIntake} {s t : State} (h : UpheldOff [.intake] i s t)
    (ht : t.intake = s.intake.set c k) (hk : CameraUpheld (s.intake.get c) k) : Upheld i s t := by
  refine h.close fun d => ?_
  rw [ht, Quad.get_set]
  split
  next e => exact e ▸ hk
  next => exact .refl _

/-- Whatever it does to its cameras, what changes the cameras alone keeps the other blocks. -/
theorem UpheldOff.of_intake {i : Instr} {s t : State} (h : KeepsBut [.intake, .exposure, .motion] s t) :
    UpheldOff [.intake] i s t := by
  refine ⟨fun b hb => ?_, .of_keepsBut h (by decide)⟩
  by_cases hm : b ∈ [Block.intake, .exposure, .motion]
  · cases b <;> first | exact absurd (by decide) hb | exact absurd hm (by decide) | trivial
  · exact Block.upheld_of_same (h b hm)

theorem UpheldOff.mapIntake (i : Instr) (s : State) (c : Camera) (f : CameraIntake → CameraIntake) :
    UpheldOff [.intake] i s (s.mapIntake c f) :=
  .of_intake ((mapIntake_keeps s c f).mono (by decide))

theorem moveLink_upheldOff (i : Instr) (c : Camera) (l : LinkState) (s : State) :
    UpheldOff [.intake] i s (moveLink c l s) := by
  unfold moveLink
  split
  next => exact .mono (.refl i s)
  next =>
    exact ((UpheldOff.mapIntake i s c _).trans (.mono (rearm_upheld i _ _))).trans (.mono (offerRecord_upheld i _ _))

/-- A link's move between two states other than LIVE. -/
theorem moveLink_upheld (i : Instr) {c : Camera} {l : LinkState} {s : State} (hs : (s.intake.get c).link ≠ .live)
    (hl : l ≠ .live) : Upheld i s (moveLink c l s) :=
  .of_camera (moveLink_upheldOff i c l s) (moveLink_intake c l s)
    (.of_fewer (fun h => (timersSound_of_notLive (l := { s.intake.get c with link := l }) hs hl rfl rfl).trans h)
      (fun _ => rfl) fun _ => .inl rfl)

theorem leaveLive_upheld (i : Instr) {c : Camera} {l : LinkState} {s : State} (hl : l ≠ .live) :
    Upheld i s (leaveLive c l s) := by
  refine .of_camera ?_ (leaveLive_intake c l s) (.of_fewer (fun _ => ?_) (fun _ => rfl) fun _ => .inl rfl)
  · have hcells : ∀ u : State, UpheldOff [.intake] i u { u with motion := resetCells c u.motion } := fun u =>
      .of_intake fun b hb => by cases b <;> first | exact absurd (by decide) hb | rfl
    exact (((UpheldOff.mapIntake i s c _).trans (hcells _)).trans (moveLink_upheldOff i c l _)).trans
      (.mono (intakeNotice_upheld i _ _))
  · simp [timersSound, hl]

theorem enterLive_upheld (i : Instr) (c : Camera) (s : State) : Upheld i s (enterLive c s) := by
  refine .of_camera ?_ (enterLive_intake c s) (.of_fewer (fun _ => ?_) (fun _ => rfl) fun _ => .inl rfl)
  · exact ((UpheldOff.mapIntake i s c _).trans (moveLink_upheldOff i c _ _)).trans (.mono (intakeNotice_upheld i _ _))
  · simp [timersSound]

/-! ## The commands of the links -/

theorem tearFrame_fields (k : CameraIntake) :
    (tearFrame k).link = k.link ∧ (tearFrame k).stall = k.stall ∧ (tearFrame k).lost = k.lost := by
  rw [tearFrame_only]
  exact ⟨rfl, rfl, rfl⟩

theorem freeFilling_fields (k : CameraIntake) :
    (freeFilling k).link = k.link ∧ (freeFilling k).stall = k.stall ∧ (freeFilling k).lost = k.lost := by
  rw [freeFilling_only]
  exact ⟨rfl, rfl, rfl⟩

theorem loseLock_upheld (i : Instr) (c : Camera) (s : State) : Upheld i s (loseLock c s) := by
  have htorn : Upheld i s (s.mapIntake c fun k => { tearFrame k with lock := false }) :=
    .mapIntake ((tearFrame_upheld _).trans (.of_same rfl rfl rfl rfl))
  unfold loseLock
  dsimp only
  split
  next => exact htorn.trans (leaveLive_upheld i (by decide))
  next hlive =>
    refine .of_camera (c := c)
      (k := { tearFrame (s.intake.get c) with lock := false, stall := none, link := .down }) ?_ ?_ ?_
    · exact (UpheldOff.mono htorn).trans ((UpheldOff.mapIntake i _ c _).trans (moveLink_upheldOff i c .down _))
    · simp [State.mapIntake]
    · obtain ⟨_, _, hlost⟩ := tearFrame_fields (s.intake.get c)
      refine .of_freed (fun h => ?_) (tearFrame_freed _)
      simp only [timersSound, hlive, hlost] at h ⊢
      simp_all

theorem gainLock_upheld (i : Instr) (c : Camera) (s : State) : Upheld i s (gainLock c s) := by
  have hlock : Upheld i s (s.mapIntake c fun k => sendCommand { k with lock := true }) :=
    have hset : ∀ k : CameraIntake, CameraUpheld k { k with lock := true } := fun _ => .of_same rfl rfl rfl rfl
    .mapIntake ((hset _).trans (sendCommand_upheld _))
  unfold gainLock
  dsimp only
  split
  next hdown =>
    refine hlock.trans (moveLink_upheld i ?_ (by decide))
    simp [State.mapIntake, sendCommand_link, hdown]
  next => exact hlock

theorem startCameraFrame_upheld (i : Instr) (c : Camera) (s : State) : Upheld i s (startCameraFrame c s) := by
  unfold startCameraFrame
  split
  next => exact .refl i s
  next => exact .mapIntake (takeSlot_tearFrame_upheld s.ms _)

theorem acceptHeader_upheld (i : Instr) (c : Camera) (h : Header) (s : State) : Upheld i s (acceptHeader c h s) := by
  have hcounted : Upheld i s (s.mapIntake c fun k => recordHeader h { k with dropped := checkSequence k h.sequence }) :=
    have hcount : ∀ k : CameraIntake, CameraUpheld k { k with dropped := checkSequence k h.sequence } :=
      fun _ => .of_same rfl rfl rfl rfl
    .mapIntake ((hcount _).trans (recordHeader_upheld h _))
  unfold acceptHeader
  dsimp only
  split
  next => exact .refl i s
  next => exact (Upheld.mapIntake (recordHeader_upheld h _)).trans (enterLive_upheld i c _)
  next => exact hcounted
  next => exact hcounted

theorem mismatchHeader_upheld (i : Instr) (c : Camera) (s : State) : Upheld i s (mismatchHeader c s) := by
  have hfreed : Upheld i s (s.mapIntake c fun k =>
      { freeFilling k with mismatch := satAdd k.mismatch 1, episode := true }) := by
    obtain ⟨hlink, hstall, hlost⟩ := freeFilling_fields (s.intake.get c)
    exact .mapIntake (.of_freed (timersSound_congr hlink hstall hlost).trans (freeFilling_freed _))
  unfold mismatchHeader
  dsimp only
  have hmoved : Upheld i s (match (s.intake.get c).link with
      | .live => leaveLive c .search (s.mapIntake c fun k =>
          { freeFilling k with mismatch := satAdd k.mismatch 1, episode := true })
      | .stalled => moveLink c .search (s.mapIntake c fun k =>
          { freeFilling k with mismatch := satAdd k.mismatch 1, episode := true })
      | .search => s.mapIntake c fun k => { freeFilling k with mismatch := satAdd k.mismatch 1, episode := true }
      | .down => s.mapIntake c fun k => { freeFilling k with mismatch := satAdd k.mismatch 1, episode := true }) := by
    split
    next => exact hfreed.trans (leaveLive_upheld i (by decide))
    next hlink =>
      refine hfreed.trans (moveLink_upheld i ?_ (by decide))
      simp [State.mapIntake, (freeFilling_fields _).1, hlink]
    next => exact hfreed
    next => exact hfreed
  split
  next => exact hmoved
  next => exact hmoved.trans (intakeNotice_upheld i _ _)

theorem takeHeader_upheld (i : Instr) (c : Camera) (h : Header) (s : State) : Upheld i s (takeHeader c h s) := by
  unfold takeHeader
  split
  next => exact .refl i s
  next =>
    split
    next => exact acceptHeader_upheld i c h s
    next => exact mismatchHeader_upheld i c s

/-! ## The handover (R29) -/

theorem conditionNotices_upheld (i : Instr) (old new : Condition) (s : State) :
    Upheld i s (conditionNotices old new s) :=
  ((raiseIf_upheld i _ _ s).trans (raiseIf_upheld i _ _ _)).trans (raiseIf_upheld i _ _ _)

theorem mapExposure_keeps (s : State) (c : Camera) (f : Exposure → Exposure) :
    KeepsBut [.exposure] s (s.mapExposure c f) := by
  intro b hb
  cases b <;> first | exact absurd (by decide) hb | rfl

theorem mapExposure_upheld (i : Instr) (c : Camera) (f : Exposure → Exposure) (s : State) :
    Upheld i s (s.mapExposure c f) := .of_same ((mapExposure_keeps s c f).mono (by decide))

theorem recomputeCondition_upheld (i : Instr) (c : Camera) (s : State) : Upheld i s (recomputeCondition c s) := by
  unfold recomputeCondition
  dsimp only
  split
  next => exact .refl i s
  next =>
    exact (((mapExposure_upheld i c _ s).trans (rearm_upheld i _ _)).trans (conditionNotices_upheld i _ _ _)).trans
      (offerRecord_upheld i _ _)

theorem exposureHandover_upheld (i : Instr) (c : Camera) (applied : Gain) (stats : Stats) (s : State) :
    Upheld i s (exposureHandover c applied stats s) := by
  unfold exposureHandover
  dsimp only
  refine Upheld.trans ?_ (recomputeCondition_upheld i c _)
  split
  next => exact (mapExposure_upheld i c _ s).trans (.mapIntake (placeCommand_upheld _ _))
  next => exact mapExposure_upheld i c _ s

/-- What a tracker does that keeps its list. -/
theorem TrackerUpheld.of_queue {s t : State} (h : t.tracker.tracks = s.tracker.tracks)
    (hq : s.tracker.queue.length ≤ 48 → t.tracker.queue.length ≤ 48) : TrackerUpheld s t :=
  ⟨hq, fun e => (congrArg List.length h).trans e, fun e => by rwa [tracksSound, h]⟩

theorem joinQueue_tracks (g : Sighting) (t : Tracker) : (joinQueue g t).tracks = t.tracks := by
  unfold joinQueue
  split <;> rfl

theorem joinQueue_length (g : Sighting) (t : Tracker) (h : t.queue.length ≤ 48) : (joinQueue g t).queue.length ≤ 48 := by
  unfold joinQueue
  split
  next => simp; omega
  next => simp; omega

theorem joinAll_tracks (gs : List Sighting) (t : Tracker) : (joinAll gs t).tracks = t.tracks := by
  induction gs generalizing t with
  | nil => rfl
  | cons g gs ih => exact (ih _).trans (joinQueue_tracks g t)

theorem joinAll_length (gs : List Sighting) (t : Tracker) (h : t.queue.length ≤ 48) :
    (joinAll gs t).queue.length ≤ 48 := by
  induction gs generalizing t with
  | nil => exact h
  | cons g gs ih => exact ih _ (joinQueue_length g t h)

theorem motionHandover_keeps (c : Camera) (applied : Gain) (picture : List (Nat × Pixel)) (condition : Condition)
    (s : State) : KeepsBut [.motion, .tracker] s (motionHandover c applied picture condition s) := by
  intro b hb
  cases b <;> first | exact absurd (by decide) hb | rfl

theorem motionHandover_upheld (i : Instr) (c : Camera) (applied : Gain) (picture : List (Nat × Pixel))
    (condition : Condition) (s : State) : Upheld i s (motionHandover c applied picture condition s) := by
  have h := motionHandover_keeps c applied picture condition s
  refine .of_keepsBut h ?_ (.of_keepsBut h (by decide))
  simp only [List.mem_cons, List.not_mem_nil, or_false, forall_eq_or_imp, forall_eq]
  exact ⟨trivial, .of_queue (joinAll_tracks _ _) (joinAll_length _ _)⟩

theorem handOver_upheld (i : Instr) (c : Camera) (applied : Gain) (picture : List (Nat × Pixel)) (s : State) :
    Upheld i s (handOver c applied picture s) := by
  unfold handOver
  split
  next => exact .refl i s
  next => exact (exposureHandover_upheld i c applied _ s).trans (motionHandover_upheld i c applied picture _ _)

theorem framePicture_wf (pixels : List (Nat × Pixel)) : sparseWf blankPixel (framePicture pixels) = true :=
  sparseWriteAll_wf rfl

theorem completeFrame_upheld (i : Instr) (c : Camera) (j : Fin 3) {picture : List (Nat × Pixel)}
    (hp : sparseWf blankPixel picture = true) (s : State) : Upheld i s (completeFrame c j picture s) := by
  have hready : Upheld i s (s.mapIntake c (completeSlot s.ms picture j)) := .mapIntake (completeSlot_upheld hp j _)
  unfold completeFrame
  dsimp only
  split
  next hlive =>
    refine (hready.trans (.mapIntake ?_)).trans (handOver_upheld i c _ picture _)
    refine .of_fewer (fun h => ?_) (fun _ => rfl) fun _ => .inl rfl
    simp [timersSound, State.mapIntake, completeSlot, hlive] at h ⊢
    exact h.2
  next => exact (hready.trans (enterLive_upheld i c _)).trans (handOver_upheld i c _ picture _)
  next => exact hready
  next => exact .refl i s

theorem expireLost_upheld (i : Instr) {c : Camera} {s : State} (h : lostDue s.ms (s.intake.get c).lost = true) :
    Upheld i s (s.mapIntake c fun k => { k with lost := .expired }) := by
  refine .mapIntake (.of_fewer (fun e => ?_) (fun _ => rfl) fun _ => .inl rfl)
  cases hl : (s.intake.get c).lost with
  | running since => simpa [timersSound, hl] using e
  | stopped => rw [hl] at h; cases h
  | expired => rw [hl] at h; cases h

end Sys2Proof.Machine
end

section
/-! PROOFS. What every command keeps: the restart, the tracker and its numbers, the vehicle state and the end of an update. -/

namespace Sys2Proof.Machine

/-! ## The restart (R176) -/

theorem restarted_intake (k : CameraIntake) : CameraUpheld k k.restarted := restarted_upheld rfl rfl rfl rfl

/-- A state whose claim table is empty has no claim to bound. -/
theorem claimsSound_of_empty {s : State} (h : s.arbiter.claims = Quad.all none) : claimsSound s = true := by
  rw [claimsSound_iff]
  exact ⟨fun j k hk => by simp [h] at hk, fun _ => h⟩

/-- The list that a reset gives the tracker. -/
theorem tracksSound_of_start {s : State} (h : s.tracker.tracks = trackerStart.tracks) : tracksSound s = true := by
  rw [tracksSound, h]
  decide

theorem remapSound_of_start {s : State} (he : s.remap.entries = remapStart.entries) (hp : s.remap.pinned = 0)
    (hq : s.remap.pointer = 39) : remapSound s = true := by
  rw [remapSound, cacheKeys, he, hp, hq]
  decide

theorem ModesUpheld.of_start {i : Instr} {s t : State} (hi : i ≠ .loadCompletion) (hm : t.mode = .starting)
    (ha : t.alert.level = .none) (hc : t.arbiter.claims = Quad.all none) : ModesUpheld i s t where
  config := .inr (.inl hm)
  starting _ := .inl hm
  restarted _ := .inr hi
  running h := absurd (hm.symm.trans h) (by decide)
  service h := absurd (hm.symm.trans h) (by decide)
  entered _ h := absurd (hm.symm.trans h) (by decide)
  speed _ := .inr hm
  level := .inr (.inr ⟨hm, ha, hi⟩)
  emptied _ _ _ := hc
  claims _ := claimsSound_of_empty hc

/-- What a reset gives the blocks that it returns to their start values, whatever it keeps of the others. -/
theorem Block.upheld_of_start {i : Instr} {s t : State} :
    (t.loaded = loadedStart → Block.loaded.upheld i s t) ∧
    (t.tracker.queue = [] → t.tracker.tracks = trackerStart.tracks → Block.tracker.upheld i s t) ∧
    (t.alert = alertStart → Block.alert.upheld i s t) ∧
    (t.remap.entries = remapStart.entries → t.remap.faulted = [] → t.remap.pinned = 0 → t.remap.pointer = 39 →
      Block.remap.upheld i s t) ∧
    (t.compositor.store = s.compositor.store → t.compositor.sent = s.compositor.sent → Block.compositor.upheld i s t) ∧
    (t.ports.queues = portsStart.queues → t.ports.waiting = [] → t.ports.sending = none → t.ports.can = portsStart.can →
      Block.ports.upheld i s t) := by
  refine ⟨fun h _ _ => h ▸ rfl, fun hq ht => ⟨fun _ => by simp [hq], fun _ => by rw [ht]; rfl, fun _ => tracksSound_of_start ht⟩,
    fun h _ => h ▸ rfl, fun he hf hp hq => ⟨fun _ => by simp [hf], fun _ => by rw [he]; rfl,
      fun _ => remapSound_of_start he hp hq⟩, fun hst hse h => by rwa [hst, hse],
    fun hq hw hs hc => ⟨fun _ m => ?_, fun _ => by simp [hw], fun _ => .inr ⟨fun m => ?_, fun m => ?_, .inr hw⟩⟩⟩
  · rw [hq]
    cases m <;> decide
  · rw [hq]
    cases m <;> rfl
  · simp only [answersOwed, hs, hw, hc]
    cases m <;> rfl

theorem restartPart_upheld {i : Instr} (hi : i ≠ .loadCompletion) (s : State) : Upheld i s (restartPart s) := by
  obtain ⟨hloaded, htracker, halert, hremap, hcompositor, hports⟩ :=
    Block.upheld_of_start (i := i) (s := s) (t := restartPart s)
  refine ⟨fun b _ => ?_, .of_start hi rfl rfl rfl⟩
  cases b
  case loaded => exact hloaded rfl
  case tracker => exact htracker rfl rfl
  case alert => exact halert rfl
  case remap => exact hremap rfl rfl rfl rfl
  case compositor => exact hcompositor rfl rfl
  case ports => exact hports rfl rfl rfl rfl
  case intake => exact fun c => (Quad.get_map _ _ c).symm ▸ restarted_intake _
  case incident => exact .of_same rfl
  case pending => exact rfl
  case ms => exact .inl rfl
  case frame => exact .inl rfl
  case flash => exact ⟨.inl rfl, id⟩
  case loader | exposure | motion | arbiter | draws => trivial

theorem autoExit_upheld {i : Instr} (hi : i ≠ .loadCompletion) (s : State) : Upheld i s (autoExit s) := by
  unfold autoExit
  split
  next =>
    split
    next => exact restartPart_upheld hi s
    next => exact .of_block (mapFlash_keeps s _) ⟨.inl rfl, id⟩
  next => exact .refl i s

theorem endFlashOp_upheld {i : Instr} (hi : i ≠ .loadCompletion) (s : State) : Upheld i s (endFlashOp s) := by
  have hidle : Upheld i s (s.mapFlash fun f => { f with op := .idle }) := .of_block (mapFlash_keeps s _) ⟨.inl rfl, id⟩
  unfold endFlashOp
  dsimp only
  split
  next => exact hidle.trans (restartPart_upheld hi _)
  next => exact hidle

/-! ## Range reports and the tracker's timer -/

theorem takeReading_tracks (sensors : List Sensor) (v : Nat) (t : Tracker) : (takeReading sensors v t).tracks = t.tracks := by
  unfold takeReading
  dsimp only
  split
  next => rfl
  next =>
    split
    next =>
      split
      next => rfl
      next => exact joinQueue_tracks _ t
    next => rfl

theorem takeReading_length (sensors : List Sensor) (v : Nat) (t : Tracker) (h : t.queue.length ≤ 48) :
    (takeReading sensors v t).queue.length ≤ 48 := by
  unfold takeReading
  dsimp only
  split
  next => exact h
  next =>
    split
    next =>
      split
      next => exact h
      next => exact joinQueue_length _ t h
    next => exact h

theorem takeReadings_upheld (i : Instr) (sensors : List Sensor) (l : List Nat) (s : State) :
    Upheld i s (s.mapTracker (takeReadings sensors l)) := by
  have hkept : ∀ t : Tracker, (takeReadings sensors l t).tracks = t.tracks ∧
      (t.queue.length ≤ 48 → (takeReadings sensors l t).queue.length ≤ 48) := by
    induction l with
    | nil => exact fun t => ⟨rfl, id⟩
    | cons v l ih =>
      intro t
      obtain ⟨htracks, hqueue⟩ := ih (takeReading sensors v t)
      exact ⟨htracks.trans (takeReading_tracks sensors v t), fun h => hqueue (takeReading_length sensors v t h)⟩
  exact .mapTracker (.of_queue (hkept _).1 (hkept _).2)

theorem trackerExpiry_upheld (i : Instr) (now : Word) (v : VehicleReading) (s : State) :
    Upheld i s (s.mapTracker (trackerExpiry now v)) := by
  refine .mapTracker ?_
  have htracks : (trackerExpiry now v s.tracker).tracks = s.tracker.tracks := by
    unfold trackerExpiry
    dsimp only
    split <;> rfl
  have hqueue : (trackerExpiry now v s.tracker).queue.length ≤ s.tracker.queue.length := by
    unfold trackerExpiry
    dsimp only
    split
    next => exact Nat.zero_le _
    next => exact Nat.le_refl _
  exact .of_queue htracks (Nat.le_trans hqueue)

/-! ## Track numbers (R106) -/

/-- The numbers that the slots of a list carry. -/
def slotNumbers (slots : List (Option Candidate)) : List (Option Nat) := slots.map (Option.map fun k => k.track.number)

/-- Sixteen slots at most, which carry numbers in 1 to 255, none twice. -/
structure Numbered (l : List (Option Nat)) : Prop where
  length : l.length ≤ 16
  range : ∀ (j n : Nat), l[j]? = some (some n) → 1 ≤ n ∧ n ≤ 255
  distinct : ∀ (j k n : Nat), l[j]? = some (some n) → l[k]? = some (some n) → j = k

theorem tracksSound_iff (s : State) :
    tracksSound s = true ↔ Numbered (s.tracker.tracks.map (Option.map Track.number)) := by
  have hmap : (heldTracks s.tracker.tracks).map Track.number =
      (s.tracker.tracks.map (Option.map Track.number)).filterMap id := by
    simp [heldTracks, List.map_filterMap, List.filterMap_map]
  have hall : ((heldTracks s.tracker.tracks).all fun t => decide (1 ≤ t.number) && decide (t.number ≤ 255)) = true ↔
      ∀ n ∈ (s.tracker.tracks.map (Option.map Track.number)).filterMap id, 1 ≤ n ∧ n ≤ 255 := by
    rw [← hmap]
    simp
  rw [tracksSound, Bool.and_eq_true, Bool.and_eq_true, decide_eq_true_eq, decide_eq_true_eq, hmap, hall,
    show s.tracker.tracks.length = (s.tracker.tracks.map (Option.map Track.number)).length by simp]
  generalize s.tracker.tracks.map (Option.map Track.number) = l
  constructor
  · rintro ⟨⟨hlength, hrange⟩, hnodup⟩
    refine ⟨hlength, fun j n hj => hrange n (List.mem_filterMap.mpr ⟨some n, List.mem_of_getElem? hj, rfl⟩), ?_⟩
    have hpair := List.pairwise_iff_getElem.mp (List.pairwise_filterMap.mp hnodup)
    intro j k n hj hk
    obtain ⟨hjl, hj⟩ := List.getElem?_eq_some_iff.mp hj
    obtain ⟨hkl, hk⟩ := List.getElem?_eq_some_iff.mp hk
    rcases Nat.lt_trichotomy j k with h | h | h
    · exact absurd rfl (hpair j k hjl hkl h n hj n hk)
    · exact h
    · exact absurd rfl (hpair k j hkl hjl h n hk n hj)
  · rintro ⟨hlength, hrange, hdistinct⟩
    refine ⟨⟨hlength, fun n hn => ?_⟩, List.pairwise_filterMap.mpr (List.pairwise_iff_getElem.mpr ?_)⟩
    · obtain ⟨x, hx, hxn⟩ := List.mem_filterMap.mp hn
      obtain ⟨j, hj⟩ := List.mem_iff_getElem?.mp hx
      exact hrange j n (hj.trans (congrArg some hxn))
    · intro j k hj hk hjk n hn m hm hnm
      have := hdistinct j k n (List.getElem?_eq_some_iff.mpr ⟨hj, hn⟩) (List.getElem?_eq_some_iff.mpr ⟨hk, hnm ▸ hm⟩)
      omega

/-- Slots of which some have been emptied. -/
theorem Numbered.of_imp {l m : List (Option Nat)} (h : Numbered l) (hlength : m.length ≤ l.length)
    (hm : ∀ (j n : Nat), m[j]? = some (some n) → l[j]? = some (some n)) : Numbered m where
  length := Nat.le_trans hlength h.length
  range j n hj := h.range j n (hm j n hj)
  distinct j k n hj hk := h.distinct j k n (hm j n hj) (hm k n hk)

/-- A slot that takes a number which no other slot carries. -/
theorem Numbered.set {l : List (Option Nat)} {i n : Nat} (h : Numbered l) (hn : 1 ≤ n ∧ n ≤ 255)
    (hfree : ∀ j : Nat, l[j]? ≠ some (some n)) : Numbered (l.set i (some n)) where
  length := by simpa using h.length
  range j m hj := by
    rw [List.getElem?_set] at hj
    split at hj
    next =>
      split at hj
      next => cases hj; exact hn
      next => cases hj
    next => exact h.range j m hj
  distinct j k m hj hk := by
    rw [List.getElem?_set] at hj hk
    by_cases hij : i = j
    · by_cases hik : i = k
      · exact hij.symm.trans hik
      · rw [if_neg hik] at hk
        rw [if_pos hij] at hj
        split at hj
        next => cases hj; exact absurd hk (hfree k)
        next => cases hj
    · rw [if_neg hij] at hj
      by_cases hik : i = k
      · rw [if_pos hik] at hk
        split at hk
        next => cases hk; exact absurd hj (hfree j)
        next => cases hk
      · exact h.distinct j k m hj ((if_neg hik).symm.trans hk)

theorem numberCarried_iff (slots : List (Option Candidate)) (n : Nat) :
    numberCarried slots n = true ↔ ∃ j : Nat, (slotNumbers slots)[j]? = some (some n) := by
  rw [numberCarried, List.any_eq_true]
  constructor
  · rintro ⟨k, hk, hn⟩
    obtain ⟨j, hj⟩ := List.mem_iff_getElem?.mp hk
    cases k with
    | none => cases hn
    | some k => exact ⟨j, by simp [slotNumbers, hj, of_decide_eq_true hn]⟩
  · rintro ⟨j, hj⟩
    obtain ⟨k, hk, hn⟩ : ∃ k, slots[j]? = some (some k) ∧ k.track.number = n := by
      rw [slotNumbers, List.getElem?_map, Option.map_eq_some_iff] at hj
      obtain ⟨x, hx, hn⟩ := hj
      obtain ⟨k, rfl, hn⟩ := Option.map_eq_some_iff.mp hn
      exact ⟨k, hx, Option.some.inj hn⟩
    exact ⟨some k, List.mem_of_getElem? hk, decide_eq_true hn⟩

theorem repeat_succ_apply {α : Type} (f : α → α) (n : Nat) (a : α) : Nat.repeat f (n + 1) a = Nat.repeat f n (f a) := by
  induction n with
  | zero => rfl
  | succ n ih => exact congrArg f ih

/-- The search for a number: the `j`-th candidate from `n` on. -/
theorem repeat_stepNumber {n : Nat} (hn : 1 ≤ n ∧ n ≤ 255) (j : Nat) : Nat.repeat stepNumber j n = (n - 1 + j) % 255 + 1 := by
  induction j with
  | zero =>
    show n = _
    omega
  | succ j ih =>
    show stepNumber (Nat.repeat stepNumber j n) = _
    rw [ih, stepNumber]
    split <;> omega

theorem freeNumber_range (slots : List (Option Candidate)) (fuel : Nat) {n : Nat} (hn : 1 ≤ n ∧ n ≤ 255) :
    1 ≤ freeNumber slots fuel n ∧ freeNumber slots fuel n ≤ 255 := by
  induction fuel generalizing n with
  | zero => exact hn
  | succ fuel ih =>
    rw [freeNumber]
    split
    next => exact ih (by unfold stepNumber; split <;> omega)
    next => exact hn

theorem freeNumber_notCarried {slots : List (Option Candidate)} {fuel n : Nat}
    (h : ∃ j < fuel, numberCarried slots (Nat.repeat stepNumber j n) = false) :
    numberCarried slots (freeNumber slots fuel n) = false := by
  induction fuel generalizing n with
  | zero => obtain ⟨j, hj, _⟩ := h; omega
  | succ fuel ih =>
    rw [freeNumber]
    split
    next hn =>
      obtain ⟨j, hj, hfree⟩ := h
      cases j with
      | zero => exact absurd (hn.symm.trans hfree) (by decide)
      | succ j => exact ih ⟨j, by omega, by rwa [repeat_succ_apply] at hfree⟩
    next hn => exact Bool.eq_false_iff.mpr hn

/-- R106: with a slot empty among sixteen, the number of a new track is free. -/
theorem freeNumber_free {slots : List (Option Candidate)} {i : Nat} (hl : slots.length ≤ 16)
    (hnone : slots[i]? = some none) {n : Nat} (hn : 1 ≤ n ∧ n ≤ 255) (j : Nat) :
    (slotNumbers slots)[j]? ≠ some (some (freeNumber slots 16 n)) := by
  have hcarried : ((slotNumbers slots).filterMap id).length < 16 := by
    have hlt : ((slotNumbers slots).filterMap id).length < (slotNumbers slots).length := by
      refine Nat.lt_of_le_of_ne (List.length_filterMap_le _ _) fun e => ?_
      have hmem : (none : Option Nat) ∈ slotNumbers slots :=
        List.mem_map.mpr ⟨none, List.mem_of_getElem? hnone, rfl⟩
      rw [List.filterMap_length_eq_length] at e
      exact absurd (e none hmem) (by simp)
    rw [slotNumbers, List.length_map] at hlt
    exact Nat.lt_of_lt_of_le hlt hl
  obtain ⟨k, hk, hfree⟩ := exists_notMem_of_injective hcarried (fun j => Nat.repeat stepNumber j n) fun a ha b hb e => by
    simp only [repeat_stepNumber hn] at e
    omega
  have hnot : numberCarried slots (freeNumber slots 16 n) = false := by
    refine freeNumber_notCarried ⟨k, hk, Bool.eq_false_iff.mpr fun hc => hfree ?_⟩
    obtain ⟨j, hj⟩ := (numberCarried_iff _ _).mp hc
    exact List.mem_filterMap.mpr ⟨_, List.mem_of_getElem? hj, rfl⟩
  intro hj
  rw [(numberCarried_iff _ _).mpr ⟨j, hj⟩] at hnot
  cases hnot

theorem slotNumbers_set (slots : List (Option Candidate)) (i : Nat) (k : Option Candidate) :
    slotNumbers (slots.set i k) = (slotNumbers slots).set i (k.map fun k => k.track.number) := by
  simp [slotNumbers, List.map_set]

theorem createTrack_numbered (i : Nat) (g : Sighting) (a : Association) (h : Numbered (slotNumbers a.slots)) :
    Numbered (slotNumbers (createTrack i g a).slots) := by
  have hcleared : Numbered (slotNumbers (a.slots.set i none)) := by
    rw [slotNumbers_set]
    refine h.of_imp (by simp) fun j n hj => ?_
    rw [List.getElem?_set] at hj
    split at hj
    next => split at hj <;> cases hj
    next => exact hj
  have hstep : 1 ≤ stepNumber a.lastNumber ∧ stepNumber a.lastNumber ≤ 255 := by
    unfold stepNumber
    split <;> omega
  have hl : (a.slots.set i none).length ≤ 16 := by simpa [slotNumbers] using hcleared.length
  unfold createTrack
  dsimp only
  rw [slotNumbers_set]
  by_cases hi : i < a.slots.length
  · exact hcleared.set (freeNumber_range _ _ hstep) (freeNumber_free (i := i) hl (by simp [hi]) hstep)
  · rwa [List.set_eq_of_length_le (by simp [slotNumbers]; omega)]

theorem associateOne_numbered (gate : Nat) (g : Sighting) (a : Association) (h : Numbered (slotNumbers a.slots)) :
    Numbered (slotNumbers (associateOne gate g a).slots) := by
  unfold associateOne
  split
  next i _ =>
    refine h.of_imp (by simp [slotNumbers]) fun j n hj => ?_
    simp only [slotNumbers, List.getElem?_map, List.getElem?_modify] at hj ⊢
    by_cases hij : i = j
    · have hnumber : ∀ k : Candidate, (takeSighting g k).track.number = k.track.number := fun k => by
        unfold takeSighting
        dsimp only
        split <;> rfl
      simpa [hij, Function.comp_def, hnumber] using hj
    · simpa [hij] using hj
  next =>
    unfold startTrack
    split
    next i _ => exact createTrack_numbered i g a h
    next => exact h

theorem associate_numbered (gate : Nat) (batch : List Sighting) (a : Association) (h : Numbered (slotNumbers a.slots)) :
    Numbered (slotNumbers (associate gate batch a).slots) := by
  induction batch generalizing a with
  | nil => exact h
  | cons g batch ih => exact ih _ (associateOne_numbered gate g a h)

theorem slotNumbers_startSlots (l : List (Option Track)) (predicted : List (Option (Int × Int))) :
    slotNumbers (startSlots l predicted) = l.map (Option.map Track.number) := by
  refine List.ext_getElem? fun j => ?_
  simp [slotNumbers, startSlots, List.getElem?_mapIdx, Function.comp_def, candidateAt]

theorem settleCandidate_number {k : Candidate} {t : Track} (h : settleCandidate k = some t) :
    t.number = k.track.number := by
  unfold settleCandidate at h
  split at h
  next => cases h; rfl
  next =>
    split at h
    next =>
      unfold missedTrack at h
      split at h
      next => cases h
      next => cases h; rfl
      next =>
        split at h
        next => cases h
        next => cases h; rfl
    next => cases h; rfl

theorem of_boundTrack_some {x : Option Track} {t : Track} (h : boundTrack x = some t) : x = some t := by
  unfold boundTrack at h
  split at h
  next =>
    split at h
    next => exact h
    next => cases h
  next => cases h

/-- R110 to R112: the later stages give no track another number, and no slot a track. -/
theorem publishedNumbers (zones : List Zone) (v : VehicleReading) (slots : List (Option Candidate)) (j n : Nat)
    (h : ((rateTracks zones v (settleSlots slots)).map (Option.map Track.number))[j]? = some (some n)) :
    (slotNumbers slots)[j]? = some (some n) := by
  simp only [rateTracks, settleSlots, List.map_map, List.getElem?_map, Option.map_eq_some_iff, Function.comp_apply] at h
  obtain ⟨k, hk, t, ⟨t', ht', rfl⟩, rfl⟩ := h
  have hb := of_boundTrack_some ht'
  obtain ⟨k', rfl, hs⟩ := Option.bind_eq_some_iff.mp hb
  simp only [slotNumbers, List.getElem?_map, hk, Option.map_some, Option.some.injEq]
  exact (settleCandidate_number hs).symm

theorem associateOne_length (gate : Nat) (g : Sighting) (a : Association) :
    (associateOne gate g a).slots.length = a.slots.length := by
  unfold associateOne
  split
  next => simp
  next =>
    unfold startTrack
    split
    next => simp [createTrack]
    next => rfl

theorem associate_length (gate : Nat) (batch : List Sighting) (a : Association) :
    (associate gate batch a).slots.length = a.slots.length := by
  induction batch generalizing a with
  | nil => rfl
  | cons g batch ih => exact (ih _).trans (associateOne_length gate g a)

/-- The list that an update publishes has the slots of the list before. -/
theorem associateUpdate_length (gate : Nat) (t : Tracker) (u : Update) :
    (associateUpdate gate t u).slots.length = t.tracks.length := by
  rw [associateUpdate, associate_length]
  simp [startSlots]

/-! ## The end of an update -/

theorem publishUpdate_keeps (u : Update) (a : Association) (s : State) :
    KeepsBut [.tracker, .alert] s (publishUpdate u a s) := by
  intro b hb
  cases b <;> first | exact absurd (by decide) hb | rfl

theorem clearSilence_fields (a : Alert) :
    (clearSilence a).vehicle = a.vehicle ∧ (clearSilence a).level = a.level ∧ (clearSilence a).occupancy = a.occupancy := by
  unfold clearSilence
  split <;> exact ⟨rfl, rfl, rfl⟩

theorem publishUpdate_upheld (u : Update) (s : State) :
    Upheld .trackerUpdateCompletion s (publishUpdate u (associateUpdate s.loaded.gate s.tracker u) s) := by
  have h := publishUpdate_keeps u (associateUpdate s.loaded.gate s.tracker u) s
  have hlength := associateUpdate_length s.loaded.gate s.tracker u
  refine .of_keepsBut h ?_ ?_
  · simp only [List.mem_cons, List.not_mem_nil, or_false, forall_eq_or_imp, forall_eq]
    refine ⟨⟨id, fun e => ?_, fun e => ?_⟩, fun _ => ?_⟩
    · simp [publishUpdate, publishTracks, rateTracks, settleSlots, hlength, e]
    · rw [tracksSound_iff] at e ⊢
      refine (associate_numbered s.loaded.gate u.batch _ ?_).of_imp ?_ (publishedNumbers s.loaded.zones u.vehicle _)
      · exact (slotNumbers_startSlots _ _).symm ▸ e
      · simp [slotNumbers, publishUpdate, publishTracks, rateTracks, settleSlots, associateUpdate]
    · simp [publishUpdate, (clearSilence_fields _).2.2, publishAlert, occupancyLevels]
  · have hsame := ModesUpheld.of_same (i := .trackerUpdateCompletion) (s := s) (t := s) rfl rfl rfl rfl rfl
    exact { hsame with
      level := .inr (.inl rfl)
      entered := fun e e' => absurd (e.symm.trans e') (by decide)
      speed := fun e => absurd e (by decide) }

theorem levelNotice_upheld (i : Instr) (old new : Level) (s : State) : Upheld i s (levelNotice old new s) := by
  unfold levelNotice
  split
  next => exact raiseNotice_upheld i _ s
  next =>
    split
    next => exact raiseNotice_upheld i _ s
    next => exact .refl i s

theorem overflowNotice_upheld (i : Instr) (a : Association) (s : State) : Upheld i s (overflowNotice a s) := by
  unfold overflowNotice
  split
  next => exact raiseNotice_upheld i _ s
  next => exact .refl i s

theorem offerLevel_upheld (i : Instr) (old : Level) (s : State) : Upheld i s (offerLevel old s) := by
  unfold offerLevel
  split
  next => exact .refl i s
  next => exact (oweBroadcasts_upheld i s).trans (offerRecord_upheld i _ _)

/-- R126, R132: a wanted claim has level 4 or 6. -/
theorem wantedClaim_level {zones : List Zone} {l : List (Option Track)} {w : Wanted} (h : wantedClaim zones l = some w) :
    w.level ≤ 6 := by
  unfold wantedClaim at h
  split at h
  next n view hn _ =>
    cases h
    revert hn
    cases systemLevel l <;> intro hn <;> cases hn <;> simp
  next => cases h

theorem writeAlertClaim_upheld (i : Instr) (held : Option Claim) {w : Wanted} {s : State} (hm : s.mode = .running)
    (hw : w.level ≤ 6) : Upheld i s (writeAlertClaim held w s) :=
  (setClaim_upheld i (j := 3) hm hw).trans (decisionEvent_upheld i _)

theorem applyWanted_upheld (i : Instr) {wanted : Option Wanted} {s : State} (hm : s.mode = .running)
    (hw : ∀ w, wanted = some w → w.level ≤ 6) : Upheld i s (applyWanted wanted s) := by
  unfold applyWanted
  split
  next => exact .refl i s
  next w _ => exact writeAlertClaim_upheld i none hm (hw w rfl)
  next k w _ =>
    split
    next => exact setLinger_upheld i none s
    next => exact (writeAlertClaim_upheld i (some k) hm (hw w rfl)).trans (setLinger_upheld i none _)
  next =>
    split
    next => exact setLinger_upheld i _ s
    next => exact .refl i s

theorem decideAlertClaim_upheld (i : Instr) (s : State) : Upheld i s (decideAlertClaim s) := by
  unfold decideAlertClaim
  split
  next h => exact applyWanted_upheld i h fun w hw => wantedClaim_level hw
  next => exact .refl i s

theorem completeUpdate_upheld (u : Update) (s : State) : Upheld .trackerUpdateCompletion s (completeUpdate u s) :=
  (((((publishUpdate_upheld u s).trans (rearm_upheld _ _ _)).trans (overflowNotice_upheld _ _ _)).trans
    (levelNotice_upheld _ _ _ _)).trans (decideAlertClaim_upheld _ _)).trans (offerLevel_upheld _ _ _)

/-! ## The vehicle state -/

/-- A command that takes no request may write the vehicle state record. -/
theorem mapVehicle_upheld {i : Instr} (hi : takesRequests i = false) (f : Vehicle → Vehicle) (s : State) :
    Upheld i s (s.mapAlert fun a => { a with vehicle := f a.vehicle }) := by
  have h := mapAlert_keeps s fun a => { a with vehicle := f a.vehicle }
  refine .of_keepsBut h (by simp [Block.upheld]) ?_
  have hsame := ModesUpheld.of_same (i := i) (s := s) (t := s) rfl rfl rfl rfl rfl
  exact { hsame with
    entered := fun e e' => absurd (e.symm.trans e') (by decide)
    speed := fun e => absurd (hi.symm.trans e) (by decide) }

theorem changeVehicle_upheld {i : Instr} (hi : takesRequests i = false) (v : Vehicle) (s : State) :
    Upheld i s (changeVehicle v s) := by
  have hset := mapVehicle_upheld hi (fun _ => v) s
  unfold changeVehicle
  dsimp only
  split
  next => exact hset
  next => exact hset.trans (offerRecord_upheld i _ _)

theorem goStale_upheld {i : Instr} (hi : takesRequests i = false) (f : VehicleField) (s : State) :
    Upheld i s (goStale f s) := by
  have hset := mapVehicle_upheld hi (staleVehicle f) s
  unfold goStale
  dsimp only
  split
  next => exact (hset.trans (raiseNotice_upheld i _ _)).trans (offerRecord_upheld i _ _)
  next => exact hset

end Sys2Proof.Machine
end

section
/-! PROOFS. What every command keeps: the remap cache (R61), the rendering of pairs and the output frame start. -/

namespace Sys2Proof.Machine

/-! ## The cache -/

/-- No two entries carry one key. -/
def KeysDistinct (r : Remap) : Prop :=
  ∀ a b k, (r.entry a).key = some k → (r.entry b).key = some k → a = b

theorem lt_length_of_entry_key {r : Remap} {a : Nat} {k : Key} (h : (r.entry a).key = some k) : a < r.entries.length := by
  refine Decidable.byContradiction fun ha => ?_
  rw [Remap.entry, List.getD_eq_getElem?_getD, List.getElem?_eq_none (Nat.le_of_not_lt ha)] at h
  cases h

theorem cacheKeys_nodup_iff (r : Remap) : (cacheKeys r).Nodup ↔ KeysDistinct r := by
  have hget : ∀ (a : Nat) (ha : a < r.entries.length), r.entry a = r.entries[a] := fun a ha => by
    simp [Remap.entry, ha]
  rw [cacheKeys, List.Nodup, List.pairwise_filterMap, List.pairwise_iff_getElem]
  constructor
  · intro h a b k ha hb
    have hal := lt_length_of_entry_key ha
    have hbl := lt_length_of_entry_key hb
    rcases Nat.lt_trichotomy a b with hab | hab | hab
    · exact absurd rfl (h a b hal hbl hab k (hget a hal ▸ ha) k (hget b hbl ▸ hb))
    · exact hab
    · exact absurd rfl (h b a hbl hal hab k (hget b hbl ▸ hb) k (hget a hal ▸ ha))
  · intro h a b ha hb hab k hk l hl hkl
    have := h a b k (by rw [hget a ha]; exact hk) (by rw [hget b hb, hkl]; exact hl)
    omega

theorem remapSound_iff (s : State) :
    remapSound s = true ↔
      s.remap.pinned ≤ 32 ∧ s.remap.pinned ≤ s.remap.pointer ∧ s.remap.pointer ≤ 39 ∧ KeysDistinct s.remap := by
  simp only [remapSound, Bool.and_eq_true, decide_eq_true_eq, cacheKeys_nodup_iff, and_assoc]

theorem entry_set (r : Remap) (e a : Nat) (x : CacheEntry) (n : Half) :
    Remap.entry { r with entries := r.entries.set e x, refills := n } a =
      if e = a ∧ a < r.entries.length then x else r.entry a := by
  simp only [Remap.entry, List.getD_eq_getElem?_getD, List.getElem?_set]
  by_cases he : e = a
  · subst he
    by_cases hl : e < r.entries.length
    · rw [if_pos rfl, if_pos hl, if_pos ⟨rfl, hl⟩, Option.getD_some]
    · rw [if_pos rfl, if_neg hl, if_neg fun h => hl h.2, List.getElem?_eq_none (Nat.le_of_not_lt hl)]
  · rw [if_neg he, if_neg fun h => he h.1]

/-- The key that an entry has after a write is its own, or the written one in its place. -/
theorem key_of_set {r r' : Remap} {e a : Nat} {x : CacheEntry} {k : Key} (hr : r'.entries = r.entries.set e x)
    (h : (r'.entry a).key = some k) : (r.entry a).key = some k ∧ e ≠ a ∨ x.key = some k ∧ e = a := by
  have hset := entry_set r e a x r.refills
  have hentry : r'.entry a = Remap.entry { r with entries := r.entries.set e x, refills := r.refills } a := by
    simp only [Remap.entry, hr]
  rw [hentry, hset] at h
  split at h
  next hea => exact .inr ⟨h, hea.1⟩
  next hea => exact .inl ⟨h, fun e' => hea ⟨e', lt_length_of_entry_key h⟩⟩

/-- An entry may take a key that no other entry carries. -/
theorem KeysDistinct.set {r r' : Remap} {e : Nat} {x : CacheEntry} (h : KeysDistinct r)
    (hr : r'.entries = r.entries.set e x) (hx : ∀ k a, x.key = some k → (r.entry a).key = some k → a = e) :
    KeysDistinct r' := by
  intro a b k ha hb
  rcases key_of_set hr ha with ⟨hka, _⟩ | ⟨hka, rfl⟩ <;> rcases key_of_set hr hb with ⟨hkb, _⟩ | ⟨hkb, hab⟩
  · exact h a b k hka hkb
  · exact (hx k a hkb hka).trans hab
  · exact (hx k b hka hkb).symm
  · exact hab

theorem KeysDistinct.of_entries {r r' : Remap} (h : KeysDistinct r) (hr : r'.entries = r.entries) : KeysDistinct r' := by
  unfold KeysDistinct Remap.entry at *
  rwa [hr]

/-- Updates that leave the entries, the pinned count and the pointer. -/
theorem RemapUpheld.of_cache {s t : State} (he : t.remap.entries = s.remap.entries) (hp : t.remap.pinned = s.remap.pinned)
    (hq : t.remap.pointer = s.remap.pointer) (hf : s.remap.faulted.length ≤ 2 → t.remap.faulted.length ≤ 2) :
    RemapUpheld s t where
  faulted := hf
  entries h := by rwa [he]
  sound h := by
    rw [remapSound_iff] at h ⊢
    obtain ⟨h32, hlow, hhigh, hkeys⟩ := h
    exact ⟨hp ▸ h32, hp ▸ hq ▸ hlow, hq ▸ hhigh, hkeys.of_entries he⟩

/-- A write of one entry that leaves the pinned count, and the pointer in its range. -/
theorem RemapUpheld.of_set {s t : State} {e : Nat} {x : CacheEntry} (he : t.remap.entries = s.remap.entries.set e x)
    (hp : t.remap.pinned = s.remap.pinned)
    (hq : s.remap.pinned ≤ 32 → s.remap.pinned ≤ s.remap.pointer ∧ s.remap.pointer ≤ 39 →
      s.remap.pinned ≤ t.remap.pointer ∧ t.remap.pointer ≤ 39)
    (hf : s.remap.faulted.length ≤ 2 → t.remap.faulted.length ≤ 2)
    (hx : KeysDistinct s.remap → ∀ k a, x.key = some k → (s.remap.entry a).key = some k → a = e) : RemapUpheld s t where
  faulted := hf
  entries h := by rw [he, List.length_set]; exact h
  sound h := by
    rw [remapSound_iff] at h ⊢
    obtain ⟨h32, hlow, hhigh, hkeys⟩ := h
    obtain ⟨hlow', hhigh'⟩ := hq h32 ⟨hlow, hhigh⟩
    exact ⟨hp ▸ h32, hp ▸ hlow', hhigh', hkeys.set he (hx hkeys)⟩

theorem look_nowhere {r : Remap} {k : Key} (h : r.look k = .nowhere) (a : Nat) : (r.entry a).key ≠ some k := by
  intro ha
  unfold Remap.look at h
  split at h
  next b hb =>
    have hkey : (r.entry b).key = some k := by simpa using List.find?_some hb
    split at h
    next => cases h
    next => cases h
    next he => rw [he] at hkey; cases hkey
  next hnone =>
    have hno := List.find?_eq_none.mp hnone a (List.mem_range.mpr (lt_length_of_entry_key ha))
    exact hno (decide_eq_true ha)

theorem stepDown_range {pinned p : Nat} (h : pinned ≤ 32) (hp : p ≤ 39) :
    pinned ≤ stepDown pinned p ∧ stepDown pinned p ≤ 39 := by
  unfold stepDown
  split <;> omega

theorem pickEntry_range {r : Remap} (h : r.pinned ≤ 32) (fuel : Nat) {p : Nat} (hp : r.pinned ≤ p ∧ p ≤ 39) :
    r.pinned ≤ pickEntry r fuel p ∧ pickEntry r fuel p ≤ 39 := by
  induction fuel generalizing p with
  | zero => exact hp
  | succ fuel ih =>
    rw [pickEntry]
    split
    next => exact ih (stepDown_range h hp.2)
    next => exact hp

/-- A refill issued into an entry writes the entry and leaves the pinned count, the pointer and the faulted store. -/
theorem issueInto_fields (r : Remap) (e : Nat) (k : Key) (cls : SizeClass) :
    (r.issueInto e k cls).entries = r.entries.set e (.filling k cls) ∧ (r.issueInto e k cls).pinned = r.pinned ∧
      (r.issueInto e k cls).pointer = r.pointer ∧ (r.issueInto e k cls).faulted = r.faulted := by
  unfold Remap.issueInto Remap.occupy
  dsimp only
  split <;> exact ⟨rfl, rfl, rfl, rfl⟩

/-- R64, R65: a refill is issued for a key found nowhere. -/
theorem issue_upheld {s : State} {n : Nat} {k : Key} {cls : SizeClass} (h : s.remap.look k = .nowhere) :
    RemapUpheld s (s.mapRemap fun r => r.issue n k cls) := by
  have hnew : ∀ (e : Nat) (l : Key) (a : Nat), (CacheEntry.filling k cls).key = some l →
      (s.remap.entry a).key = some l → a = e := by
    intro e l a hl ha
    cases hl
    exact absurd ha (look_nowhere h a)
  show RemapUpheld s { s with remap := s.remap.issue n k cls }
  unfold Remap.issue
  split
  next =>
    obtain ⟨hentries, hpinned, hpointer, hfaulted⟩ := issueInto_fields s.remap n k cls
    exact .of_set hentries hpinned (fun _ e => by simpa [hpointer] using e) (fun e => by simpa [hfaulted] using e)
      fun _ => hnew n
  next =>
    obtain ⟨hentries, hpinned, _, hfaulted⟩ := issueInto_fields s.remap (pickEntry s.remap 40 s.remap.pointer) k cls
    exact .of_set hentries hpinned (fun h32 e => stepDown_range h32 (pickEntry_range h32 40 e).2)
      (fun e => by simpa [hfaulted] using e) fun _ => hnew _

theorem lookahead_upheld (i : Instr) (n : Nat) (k : Key) (cls : SizeClass) (s : State) :
    Upheld i s (s.mapRemap fun r => r.lookahead n k cls) := by
  have hsame : RemapUpheld s (s.mapRemap id) := .of_same rfl
  refine .mapRemap ?_
  show RemapUpheld s { s with remap := s.remap.lookahead n k cls }
  unfold Remap.lookahead
  split
  next hlook =>
    split
    next => exact issue_upheld hlook
    next => exact hsame
  next => exact hsame
  next => exact hsame
  next => exact hsame

theorem setInUse_upheld (i : Instr) (use : Option Nat) (s : State) :
    Upheld i s (s.mapRemap fun r => { r with inUse := use }) := .mapRemap (.of_cache rfl rfl rfl id)

theorem takeFaulted_upheld (i : Instr) (k : Key) (s : State) : Upheld i s (s.mapRemap fun r => r.takeFaulted k) :=
  .mapRemap (.of_cache rfl rfl rfl fun h => Nat.le_trans List.eraseP_sublist.length_le h)

theorem freeSlotOf_upheld (i : Instr) (slot : Fin 2) (s : State) : Upheld i s (s.mapRemap fun r => r.freeSlotOf slot) := by
  match slot with
  | 0 => exact .mapRemap (.of_cache rfl rfl rfl id)
  | 1 => exact .mapRemap (.of_cache rfl rfl rfl id)

theorem frameStartRemap_upheld (i : Instr) (s : State) : Upheld i s (s.mapRemap frameStartRemap) :=
  .mapRemap (.of_cache rfl rfl rfl fun _ => Nat.zero_le 2)

/-- R68: the entries that a take-effect keeps stand in their places. -/
theorem takeEffect_upheld (i : Instr) (l : Layout) (s : State) : Upheld i s (s.mapRemap (takeEffect l)) := by
  refine .mapRemap ⟨id, fun h => by simpa [takeEffect] using h, fun h => ?_⟩
  rw [remapSound_iff] at h ⊢
  obtain ⟨h32, hlow, hhigh, hkeys⟩ := h
  have hpins : pinnedPairs l ≤ 32 := by
    unfold pinnedPairs
    split
    next => exact Nat.min_le_right _ _
    next => exact Nat.zero_le _
  have hkept : ∀ a k, ((takeEffect l s.remap).entry a).key = some k → (s.remap.entry a).key = some k := by
    intro a k ha
    simp only [Remap.entry, takeEffect, List.getD_eq_getElem?_getD, List.getElem?_mapIdx] at ha ⊢
    cases he : s.remap.entries[a]? with
    | none => simp [he] at ha; cases ha
    | some e =>
      simp only [he, Option.map_some, Option.getD_some] at ha ⊢
      split at ha
      next =>
        unfold keepDesignated at ha
        split at ha
        next => exact ha
        next => cases ha
      next => exact ha
  have hpointer : (takeEffect l s.remap).pinned ≤ (takeEffect l s.remap).pointer ∧ (takeEffect l s.remap).pointer ≤ 39 := by
    simp only [takeEffect]
    split <;> omega
  exact ⟨hpins, hpointer.1, hpointer.2, fun a b k ha hb => hkeys a b k (hkept a k ha) (hkept b k hb)⟩

theorem mapFault_upheld (i : Instr) (k : Key) (tile : FaultTile) (s : State) : Upheld i s (mapFault k tile s) := by
  have hcounted : Upheld i s (s.mapRemap fun r => { r with mapFaults := satAdd r.mapFaults 1 }) :=
    .mapRemap (.of_cache rfl rfl rfl id)
  unfold mapFault
  dsimp only
  split
  next => exact hcounted
  next => exact (hcounted.trans (.mapRemap (.of_cache rfl rfl rfl id))).trans (raiseNotice_upheld i _ _)

/-! ## Lookups and rendering -/

theorem setWork_upheld (i : Instr) (w : Work) (s : State) : Upheld i s (setWork w s) :=
  .of_compositor (setWork_keeps w s) rfl rfl

theorem sendLookahead_upheld (i : Instr) (l : Layout) (n : Nat) (s : State) : Upheld i s (sendLookahead l n s) := by
  unfold sendLookahead
  split
  next => exact .refl i s
  next =>
    split
    next => exact .refl i s
    next => exact lookahead_upheld i n _ _ s

theorem startDrawing_upheld (i : Instr) (l : Layout) (n : Nat) (even odd : MapRecord) (use : Option Nat) (s : State) :
    Upheld i s (startDrawing l n even odd use s) :=
  ((setInUse_upheld i use s).trans (setWork_upheld i _ _)).trans (sendLookahead_upheld i l _ _)

theorem lookupPair_upheld (i : Instr) (l : Layout) (n : Nat) (w : PairPlace) (s : State) :
    Upheld i s (lookupPair l n w s) := by
  unfold lookupPair
  split
  next => exact startDrawing_upheld i l n _ _ _ s
  next =>
    dsimp only
    split
    next => exact startDrawing_upheld i l n _ _ _ s
    next => exact setWork_upheld i _ s
    next => exact (takeFaulted_upheld i _ s).trans (startDrawing_upheld i l n _ _ _ _)
    next hlook =>
      unfold missPair
      split
      next => exact (Upheld.mapRemap (issue_upheld hlook)).trans (setWork_upheld i _ _)
      next => exact setWork_upheld i _ s

theorem beginPair_upheld (i : Instr) (n : Nat) (s : State) : Upheld i s (beginPair n s) := by
  unfold beginPair
  split
  next => exact setWork_upheld i _ s
  next =>
    split
    next => exact setWork_upheld i _ s
    next => exact lookupPair_upheld i _ n _ s

theorem reportedArbiter_claims (dwell : Nat) (a : Arbiter) : (reportedArbiter dwell a).claims = a.claims := by
  unfold reportedArbiter
  split
  next => split <;> rfl
  next => rfl

theorem firstFrameReport_upheld (i : Instr) (s : State) : Upheld i s (firstFrameReport s) := by
  have hreport : Upheld i s (s.mapCompositor fun k => { k with reportPending := false }) :=
    .of_compositor (mapCompositor_keeps s _) rfl rfl
  have hmove : ∀ u : State, Upheld i u (u.mapArbiter (reportedArbiter s.loaded.ports.dwell)) := fun u =>
    .mapArbiter fun j => by rw [reportedArbiter_claims]
  have hmoved := ((hreport.trans (raiseNotice_upheld i .viewChanged _)).trans
    (offerRecord_upheld i (.view s.compositor.inEffect (winningSource s.arbiter)) _)).trans (hmove _)
  unfold firstFrameReport
  dsimp only
  split
  next => exact hmoved.trans (decisionEvent_upheld i _)
  next => exact hmoved

theorem reportIfPending_upheld (i : Instr) (s : State) : Upheld i s (reportIfPending s) := by
  unfold reportIfPending
  split
  next => exact firstFrameReport_upheld i s
  next => exact .refl i s

theorem nextPair_upheld (i : Instr) (n : Nat) (s : State) : Upheld i s (nextPair n s) := by
  unfold nextPair
  split
  next => exact setWork_upheld i _ s
  next =>
    split
    next => exact beginPair_upheld i _ s
    next => exact (setWork_upheld i _ s).trans (reportIfPending_upheld i _)

/-- What writes the output store in its canonical form and leaves the picture sent. -/
theorem Upheld.of_store {i : Instr} {s : State} {f : Compositor → Compositor}
    (hs : sparseWf blackPixel s.compositor.store = true → sparseWf blackPixel (f s.compositor).store = true)
    (he : (f s.compositor).sent = s.compositor.sent) : Upheld i s (s.mapCompositor f) :=
  .of_block (mapCompositor_keeps s f) fun h => ⟨hs h.1, (congrArg _ he).trans h.2⟩

theorem writeTile_wf {store : List (Nat × Pixel)} (w : PairPlace) (side : TileSide) (f : Nat → Nat → Pixel)
    (h : sparseWf blackPixel store = true) : sparseWf blackPixel (writeTile store w side f) = true :=
  sparseWriteAll_wf h

theorem renderPair_upheld (i : Instr) (snap : Snapshot) (ref : LayoutRef) (w : PairPlace) (even odd : MapRecord)
    (s : State) : Upheld i s (renderPair snap ref w even odd s) :=
  .of_store (fun h => writeTile_wf w .odd _ (writeTile_wf w .even _ h)) rfl

theorem finishPair_upheld (i : Instr) (s : State) : Upheld i s (finishPair s) := by
  unfold finishPair
  split
  next =>
    split
    next => exact (renderPair_upheld i _ _ _ _ _ s).trans (nextPair_upheld i _ _)
    next => exact .refl i s
  next => exact .refl i s

/-! ## Refill completion -/

theorem issueWaiting_upheld (i : Instr) (s : State) : Upheld i s (issueWaiting s) := by
  unfold issueWaiting
  split
  next n _ => exact beginPair_upheld i n s
  next => exact .refl i s
  next => exact .refl i s
  next => exact .refl i s

theorem filling_of_not_orphan {r : Remap} {f : Refill} (h : r.orphan f = false) : (r.entry f.entry).key = some f.key := by
  unfold Remap.orphan at h
  split at h
  next k cls he => rw [he, CacheEntry.key, Decidable.of_not_not (of_decide_eq_false h)]
  next => cases h
  next => cases h

theorem completeValid_upheld (i : Instr) {f : Refill} {s : State} (even odd : MapRecord)
    (h : s.remap.orphan f = false) : Upheld i s (completeValid f even odd s) := by
  have hvalid : Upheld i s (s.mapRemap fun r =>
      { r with entries := r.entries.set f.entry (.valid f.key (s.remap.entry f.entry).classOf even odd) }) := by
    refine .mapRemap (.of_set rfl rfl (fun _ => id) id fun hkeys k a hk ha => ?_)
    cases hk
    exact hkeys _ _ _ ha (filling_of_not_orphan h)
  unfold completeValid
  dsimp only
  split
  next => exact hvalid.trans (startDrawing_upheld i _ _ _ _ _ _)
  next => exact hvalid

theorem storeFaulted_length (f : FaultedPair) (l : List FaultedPair) (h : l.length ≤ 2) :
    (storeFaulted f l).length ≤ 2 := by
  unfold storeFaulted
  split <;> simp <;> omega

theorem completeFaulted_upheld (i : Instr) (f : Refill) (even odd : MapRecord) (s : State) :
    Upheld i s (completeFaulted f even odd s) := by
  have hempty : Upheld i s (s.mapRemap fun r =>
      { r with entries := r.entries.set f.entry .empty, faulted := storeFaulted ⟨f.key, even, odd⟩ r.faulted }) :=
    .mapRemap (.of_set rfl rfl (fun _ => id) (storeFaulted_length _ _) fun _ k a hk => by cases hk)
  have hfault := hempty.trans (mapFault_upheld i f.key (faultTile even odd) _)
  unfold completeFaulted
  dsimp only
  split
  next => exact (hfault.trans (takeFaulted_upheld i _ _)).trans (startDrawing_upheld i _ _ _ _ _ _)
  next => exact hfault

theorem completeFetched_upheld (i : Instr) {f : Refill} {s : State} (even odd : MapRecord)
    (h : s.remap.orphan f = false) : Upheld i s (completeFetched f even odd s) := by
  unfold completeFetched
  split
  next => exact completeFaulted_upheld i f even odd s
  next => exact completeValid_upheld i even odd h

theorem completeRefill_upheld {i : Instr} {f : Refill} {s t : State} (h : completeRefill f s = .next t) :
    Upheld i s t := by
  unfold completeRefill at h
  split at h
  next => cases h; exact issueWaiting_upheld i s
  next ho =>
    split at h
    next => cases h; exact (completeFetched_upheld i _ _ (Bool.eq_false_iff.mpr ho)).trans (issueWaiting_upheld i _)
    next => cases h

/-! ## The output frame start -/

theorem writeEarly_upheld (i : Instr) (written : Option TileSide) (s : State) : Upheld i s (writeEarly written s) := by
  unfold writeEarly
  split
  next =>
    split
    next => exact .of_store (writeTile_wf _ _ _) rfl
    next => exact .refl i s
  next => exact .refl i s

theorem holdTiles_upheld (i : Instr) (tiles : List (PairPlace × TileSide)) (s : State) :
    Upheld i s (holdTiles tiles s) := by
  have hfold : ∀ store : List (Nat × Pixel), sparseWf blackPixel store = true →
      sparseWf blackPixel (tiles.foldl (fun st t => writeTile st t.1 t.2 fun _ _ => colourOf s.loaded.palette 0) store)
        = true := by
    induction tiles with
    | nil => exact fun _ => id
    | cons t tiles ih => exact fun store h => ih _ (writeTile_wf t.1 t.2 _ h)
  unfold holdTiles
  refine .of_store (fun h => ?_) rfl
  dsimp only
  split
  next => exact hfold _ h
  next => exact h

theorem endFrame_upheld (i : Instr) (written : Option TileSide) (s : State) : Upheld i s (endFrame written s) := by
  unfold endFrame
  split
  next => exact reportIfPending_upheld i s
  next => exact ((writeEarly_upheld i written s).trans (holdTiles_upheld i _ _)).trans (reportIfPending_upheld i _)

/-- A list is in canonical form just when its addresses rise strictly and no value is the default. -/
theorem sparseWfFrom_iff {α : Type} [DecidableEq α] (d : α) (lo : Nat) (m : List (Nat × α)) :
    sparseWfFrom d lo m = true ↔ (∀ p ∈ m, lo ≤ p.1 ∧ p.2 ≠ d) ∧ m.Pairwise fun p q => p.1 < q.1 := by
  induction m generalizing lo with
  | nil => simp [sparseWfFrom]
  | cons p m ih =>
    obtain ⟨a, v⟩ := p
    rw [sparseWfFrom, Bool.and_eq_true, Bool.and_eq_true, decide_eq_true_eq, decide_eq_true_eq, ih]
    simp only [List.mem_cons, forall_eq_or_imp, List.pairwise_cons]
    constructor
    · rintro ⟨⟨hlo, hv⟩, hall, hpair⟩
      exact ⟨⟨⟨hlo, hv⟩, fun q hq => ⟨by have := (hall q hq).1; omega, (hall q hq).2⟩⟩, fun q hq => (hall q hq).1, hpair⟩
    · rintro ⟨⟨hhead, hall⟩, hrise, hpair⟩
      exact ⟨hhead, fun q hq => ⟨hrise q hq, (hall q hq).2⟩, hpair⟩

/-- R78: the bar's rows rise, and so do the pixels of each. -/
theorem startingPicture_wf : sparseWf blackPixel startingPicture = true := by
  refine (sparseWfFrom_iff _ _ _).mpr ⟨fun p hp => ⟨Nat.zero_le _, ?_⟩, ?_⟩
  · obtain ⟨row, hrow, hp⟩ := List.mem_flatten.mp hp
    obtain ⟨r, _, rfl⟩ := List.mem_map.mp hrow
    obtain ⟨c, _, rfl⟩ := List.mem_map.mp hp
    exact (by decide : whitePixel ≠ blackPixel)
  · refine List.pairwise_flatten.mpr ⟨fun row hrow => ?_, ?_⟩
    · obtain ⟨r, _, rfl⟩ := List.mem_map.mp hrow
      refine List.pairwise_map.mpr (List.pairwise_lt_range.imp fun h => ?_)
      simp only [screenAddress]
      omega
    · refine List.pairwise_map.mpr (List.pairwise_lt_range.imp fun h p hp q hq => ?_)
      obtain ⟨c, hc, rfl⟩ := List.mem_map.mp hp
      obtain ⟨d, hd, rfl⟩ := List.mem_map.mp hq
      rw [List.mem_range] at hc hd
      simp only [screenAddress]
      omega

theorem sendPicture_upheld (i : Instr) (s : State) : Upheld i s (sendPicture s) :=
  .of_block (mapCompositor_keeps s _) fun h => ⟨h.1, h.1⟩

theorem placeStarting_upheld (i : Instr) (s : State) : Upheld i s (placeStarting s) := by
  unfold placeStarting
  generalize hp : startingPicture = picture
  exact .of_store (fun _ => hp ▸ startingPicture_wf) rfl

theorem closeFrame_upheld (i : Instr) (written : Option TileSide) (s : State) : Upheld i s (closeFrame written s) := by
  unfold closeFrame
  split
  next => exact (endFrame_upheld i written s).trans (sendPicture_upheld i _)
  next => exact (placeStarting_upheld i s).trans (sendPicture_upheld i _)

theorem noteShown_upheld (i : Instr) (l : LayoutRef) (s : State) : Upheld i s (noteShown l s) := by
  unfold noteShown
  split
  next => exact .refl i s
  next => exact oweBroadcasts_upheld i s

theorem adoptLayout_upheld (i : Instr) (t : SwitchTarget) (s : State) : Upheld i s (adoptLayout t s) := by
  unfold adoptLayout
  dsimp only
  generalize backgroundEntries _ _ = l
  exact .of_store sparseWriteAll_wf rfl

theorem adoptTarget_upheld (i : Instr) (t : SwitchTarget) (s : State) : Upheld i s (s.mapArbiter (adoptTarget t)) :=
  .mapArbiter fun j => (grantSource_level _ _ j).trans rfl

theorem adopt_upheld (i : Instr) (t : SwitchTarget) (s : State) : Upheld i s (adopt t s) :=
  (((noteShown_upheld i _ s).trans (adoptLayout_upheld i t _)).trans (takeEffect_upheld i _ _)).trans
    (adoptTarget_upheld i t _)

theorem adoptStep_upheld (i : Instr) (s : State) : Upheld i s (adoptStep s) := by
  unfold adoptStep
  dsimp only
  split
  next => exact (frameStartRemap_upheld i s).trans (adopt_upheld i _ _)
  next => exact frameStartRemap_upheld i s

/-- What puts every camera through the slot rule. -/
theorem slotRule_all_upheld (i : Instr) (use : Camera → Bool) (s : State) :
    Upheld i s { s with intake := s.intake.mapIdx fun c k => slotRule s.ms (use c) k } := by
  refine .of_block (b := .intake) (fun b hb => ?_) fun c => ?_
  · cases b <;> first | exact absurd (by decide) hb | rfl
  · simpa using slotRule_upheld s.ms (use c) (s.intake.get c)

theorem fixSnapshot_upheld (i : Instr) (s : State) : Upheld i s (fixSnapshot s) :=
  (Upheld.of_compositor (mapCompositor_keeps s _) rfl rfl).trans (.of_compositor (mapCompositor_keeps _ _) rfl rfl)

theorem beginFrame_upheld (i : Instr) (s : State) : Upheld i s (beginFrame s) := by
  unfold beginFrame
  split
  next l _ _ =>
    exact ((slotRule_all_upheld i (fun c => l.cameras.getLsbD c.val) s).trans (fixSnapshot_upheld i _)).trans
      (beginPair_upheld i 0 _)
  next => exact slotRule_all_upheld i (fun _ => false) s
  next => exact slotRule_all_upheld i (fun _ => false) s

theorem countDwell_upheld (i : Instr) (s : State) : Upheld i s (countDwell s) := by
  unfold countDwell
  split
  next =>
    split
    next => exact (Upheld.mapArbiter fun _ => rfl).trans (decisionEvent_upheld i _)
    next => exact .mapArbiter fun _ => rfl
  next => exact .refl i s

theorem dwellIf_upheld (i : Instr) (b : Bool) (s : State) : Upheld i s (dwellIf b s) := by
  unfold dwellIf
  split
  next => exact countDwell_upheld i s
  next => exact .refl i s

theorem countdownIf_upheld (i : Instr) (b : Bool) (before : Quad TriggerState) (s : State) :
    Upheld i s (countdownIf b before s) := by
  unfold countdownIf
  split
  next => exact countTriggers_upheld i before s
  next => exact .refl i s

theorem frameBegun_upheld (written : Option TileSide) (s : State) :
    Upheld (.outputFrameStart written) s (frameBegun s) := by
  have h : KeepsBut [.frame, .draws] s (frameBegun s) := fun b hb => by
    cases b <;> first | exact absurd (by decide) hb | rfl
  refine .of_keepsBut h ?_ (.of_keepsBut h (by decide))
  simp only [List.mem_cons, List.not_mem_nil, or_false, forall_eq_or_imp, forall_eq]
  exact ⟨.inr (.inr ⟨written, rfl⟩), trivial⟩

theorem outputFrame_upheld (written : Option TileSide) (s : State) :
    Upheld (.outputFrameStart written) s (outputFrame written s) := by
  have hevents : Upheld (.outputFrameStart written) s (frameEvents written s) :=
    (((((((frameBegun_upheld written s).trans (countdownIf_upheld _ _ _ _)).trans (closeFrame_upheld _ written _)).trans
      (dwellIf_upheld _ _ _)).trans (adoptStep_upheld _ _)).trans (beginFrame_upheld _ _)).trans
      (dwellIf_upheld _ _ _)).trans (countdownIf_upheld _ _ _ _)
  exact (hevents.trans (embedMark_upheld _ _)).trans (.of_compositor (mapCompositor_keeps _ _) rfl rfl)

end Sys2Proof.Machine
end

section
/-! PROOFS. What every command keeps: the links of the masters, the requests, the load and the resets; and with them every command. -/

namespace Sys2Proof.Machine

/-! ## The links of the masters -/

theorem servesNone_of_takes {i : Instr} (h : takesRequests i = true) : servesNone i ≠ true := by
  unfold servesNone
  split
  next => decide
  next => rw [h]; decide

theorem setQueue_upheld {i : Instr} (hi : servesNone i ≠ true) {m : Master} {q : List Request} {s : State}
    (h : (∀ n, (s.ports.queues.get n).length ≤ 4) → q.length ≤ 4) : Upheld i s (setQueue m q s) := by
  refine .of_ports (setQueue_keeps m q s) ⟨fun e n => ?_, id, fun e => absurd e hi⟩
  by_cases hn : n = m
  · subst hn; simpa [setQueue] using h e
  · simpa [setQueue, PerMaster.get_set_other _ _ hn] using e n

/-- A CAN port changes, its transmit store apart. -/
theorem mapPort_upheld (i : Instr) {p : Port} {f : CanPort → CanPort} {s : State}
    (h : (f (s.ports.can.get p)).store = (s.ports.can.get p).store) : Upheld i s (mapPort p f s) := by
  refine .mapPorts (.of_same rfl rfl rfl fun x => ?_)
  by_cases hx : x = p
  · subst hx; simpa using h
  · simp [PerPort.get_set_other _ _ hx]

/-- A transmit store changes at a command that serves the queues. -/
theorem mapStore_upheld {i : Instr} (hi : servesNone i ≠ true) (p : Port) (f : CanPort → CanPort) (s : State) :
    Upheld i s (mapPort p f s) := .mapPorts ⟨id, id, fun e => absurd e hi⟩

theorem respond_upheld {i : Instr} (hi : servesNone i ≠ true) (m : Master) (r : Request) (code : ResponseCode)
    (l : List Byte) (x : FrameRole) (s : State) : Upheld i s (respond m r code l x s) := by
  unfold respond
  split
  next => exact .mapPorts ⟨fun h => by simpa using h, produceCab_count _, fun e => absurd e hi⟩
  next => exact mapStore_upheld hi _ _ s

/-- A broadcast joins the transmit store as no response to a request. -/
theorem sendBroadcast_upheld (i : Instr) (p : Port) (s : State) : Upheld i s (sendBroadcast p s) := by
  have hsets : Upheld i s (s.mapPorts fun q => { q with pendingSets := q.pendingSets.set (portMaster p) 0#16 }) :=
    .mapPorts (.of_same rfl rfl rfl fun _ => rfl)
  unfold sendBroadcast
  refine hsets.trans (.mapPorts ⟨id, id, fun _ => .inl ⟨rfl, fun m => ?_, id⟩⟩)
  cases m <;> cases p <;>
    simp [answersOwed, masterPort, PerPort.set, PerPort.get, List.countP_append, FrameRole.isAnswer]

theorem joinBus_upheld (i : Instr) (p : Port) (s : State) : Upheld i s (joinBus p s) := by
  have hactive : Upheld i s (mapPort p (fun q => { q with state := .active, txErrors := 0, rxErrors := 0 }) s) :=
    mapPort_upheld i rfl
  exact hactive.trans (sendBroadcast_upheld i p _)

theorem goBusOff_upheld (p : Port) (s : State) : Upheld (.busOff p) s (goBusOff p s) := by
  have hi : servesNone (.busOff p) ≠ true := by simp [servesNone]
  have hdraws : ∀ u : State, Upheld (.busOff p) u { u with draws := s.draws + 1 } := fun u =>
    .of_same fun b hb => by cases b <;> first | exact absurd (by decide) hb | rfl
  have hqueue : ∀ u : State, Upheld (.busOff p) u (setQueue (portMaster p) [] u) := fun u =>
    setQueue_upheld hi fun _ => Nat.zero_le 4
  exact ((mapStore_upheld hi p _ s).trans (hqueue _)).trans (hdraws _)

theorem setFramer_upheld (i : Instr) (x : Framer) (s : State) : Upheld i s (setFramer x s) :=
  .mapPorts (.of_same rfl rfl rfl fun _ => rfl)

theorem endCabFrame_upheld (i : Instr) (s : State) : Upheld i s (endCabFrame s) := setFramer_upheld i _ s

theorem breakFrame_upheld (i : Instr) (s : State) : Upheld i s (breakFrame s) :=
  .mapPorts (.of_same rfl rfl rfl fun _ => rfl)

theorem countWrongData_upheld (i : Instr) (s : State) : Upheld i s (countWrongData s) :=
  .mapPorts (.of_same rfl rfl rfl fun _ => rfl)

/-! ## The requests' own rules -/

theorem lengthed_upheld {i : Instr} {n : Nat} {payload : List Byte} {s : State} {own : Answer}
    (h : Upheld i s own.state) : Upheld i s (lengthed n payload s own).state := by
  unfold lengthed
  split
  next => exact h
  next => exact .refl i s

theorem acceptClaim_upheld (i : Instr) (m : Master) (layout level lifetime : Nat) {s : State} (hm : s.mode = .running) :
    Upheld i s (acceptClaim m layout level lifetime s).state := by
  have hlevel : (writtenClaim m layout level (resolveLifetime m lifetime) s).level ≤
      slotMaximum s.loaded.ports (masterSlot m) := by
    have hmax : slotMaximum s.loaded.ports (masterSlot m) = s.loaded.ports.maxLevel.get m := by
      cases m <;> rfl
    rw [hmax]
    exact Nat.min_le_right _ _
  have hset := setClaim_upheld i (s := s) hm hlevel
  show Upheld i s (writeClaim m _ s)
  unfold writeClaim
  split
  next => exact hset.trans (decisionEvent_upheld i _)
  next => exact hset

theorem takeClaimView_upheld (i : Instr) (m : Master) (payload : List Byte) {s : State} (hm : s.mode ≠ .starting) :
    Upheld i s (takeClaimView m payload s).state := by
  unfold takeClaimView
  repeat' split
  · exact .refl i s
  · exact .refl i s
  · exact .refl i s
  · exact .refl i s
  next hservice _ =>
    refine acceptClaim_upheld i m _ _ _ ?_
    cases hmode : s.mode with
    | starting => exact absurd hmode hm
    | running => rfl
    | service => exact absurd hmode hservice

theorem takeDropView_upheld (i : Instr) (m : Master) (payload : List Byte) (s : State) :
    Upheld i s (takeDropView m payload s).state := by
  unfold takeDropView
  repeat' split
  · exact .refl i s
  · exact .refl i s
  · exact .refl i s
  · exact (dropClaim_upheld i _ s).trans (decisionEvent_upheld i _)

theorem collectOldest_upheld (i : Instr) (s : State) :
    Upheld i s (s.mapIncident fun k => { k with marks := collectOldest k.marks }) :=
  .mapIncident (mapFirst_upheld (fun m => !m.collected) (fun m => { m with collected := true }) (fun _ => rfl) rfl)

theorem takeCollectMark_upheld (i : Instr) (payload : List Byte) (s : State) :
    Upheld i s (takeCollectMark payload s).state := by
  refine lengthed_upheld ?_
  split
  next =>
    exact collectOldest_upheld i s
  next => exact .refl i s

theorem takeMarkIncident_upheld (i : Instr) (m : Master) (payload : List Byte) (s : State) :
    Upheld i s (takeMarkIncident m payload s).state := by
  refine lengthed_upheld ?_
  split
  next => exact fireMark_upheld i _ s
  next => exact fireMark_upheld i _ s

theorem takeAckWarning_upheld (i : Instr) (payload : List Byte) (s : State) :
    Upheld i s (takeAckWarning payload s).state := by
  refine lengthed_upheld ?_
  split
  next => exact (Upheld.of_alert (mapAlert_keeps s _) rfl rfl rfl).trans (rearm_upheld i _ _)
  next => exact .refl i s

theorem setHome_upheld (i : Instr) (n : Nat) (s : State) : Upheld i s (setHome n s) := by
  unfold setHome
  split
  next => exact .refl i s
  next => exact (Upheld.mapArbiter fun _ => rfl).trans (decisionEvent_upheld i _)

theorem setWarningLevel_upheld (i : Instr) (v : Level) (s : State) : Upheld i s (s.mapAlert (setWarningLevel v)) := by
  obtain ⟨hvehicle, hlevel, hoccupancy⟩ := clearSilence_fields { s.alert with warningLevel := v }
  exact .of_alert (mapAlert_keeps s _) (congrArg (fun v : Vehicle => v.speed.value) hvehicle) hlevel hoccupancy

theorem applyItem_upheld (i : Instr) (x : LiveItem) (s : State) : Upheld i s (applyItem x s) := by
  cases x with
  | home n => exact setHome_upheld i n s
  | switch k on => exact .of_compositor (mapCompositor_keeps s _) rfl rfl
  | warning v => exact (setWarningLevel_upheld i v s).trans (rearm_upheld i _ _)
  | width g phase n => exact .of_compositor (mapCompositor_keeps s _) rfl rfl

theorem takeSetLive_upheld (i : Instr) (payload : List Byte) (s : State) : Upheld i s (takeSetLive payload s).state := by
  have hfold : ∀ (l : List LiveItem) (u : State), Upheld i u (l.foldl (fun s x => applyItem x s) u) := by
    intro l
    induction l with
    | nil => exact .refl i
    | cons x l ih => exact fun u => (applyItem_upheld i x u).trans (ih _)
  unfold takeSetLive
  split
  next =>
    split
    next => exact hfold _ s
    next => exact .refl i s
  next => exact .refl i s

theorem clearCounters_upheld (i : Instr) (s : State) : Upheld i s (clearCounters s) := by
  have h : KeepsBut [.intake, .exposure, .compositor, .remap, .tracker, .arbiter, .incident, .ports] s (clearCounters s) :=
    fun b hb => by cases b <;> first | exact absurd (by decide) hb | rfl
  refine .of_keepsBut h ?_ (.of_same rfl rfl rfl rfl rfl)
  simp only [List.mem_cons, List.not_mem_nil, or_false, forall_eq_or_imp, forall_eq]
  refine ⟨fun c => ?_, trivial, id, .of_cache rfl rfl rfl id, .of_queue rfl id, trivial, .of_same rfl,
    .of_same rfl rfl rfl fun _ => rfl⟩
  exact (Quad.get_map CameraIntake.cleared s.intake c).symm ▸ .of_same rfl rfl rfl rfl

theorem takeGetCounters_upheld (i : Instr) (payload : List Byte) (s : State) :
    Upheld i s (takeGetCounters payload s).state := by
  refine lengthed_upheld ?_
  repeat' split
  · exact .refl i s
  · exact clearCounters_upheld i s
  · exact .refl i s

theorem mayEnterService_iff (s : State) :
    mayEnterService s = true ↔ s.mode = .running ∧ s.alert.vehicle.speed.value = some 0 ∧
      s.alert.vehicle.gear.value ≠ some .reverse ∧ s.alert.level = .none := by
  simp only [mayEnterService, standing0, Bool.and_eq_true, decide_eq_true_eq, and_assoc]

theorem enterService_upheld {i : Instr} (hi : takesRequests i = true) {s : State} (h : mayEnterService s = true) :
    Upheld i s (enterService s) := by
  obtain ⟨hmode, hspeed, _, hlevel⟩ := (mayEnterService_iff s).mp h
  refine Upheld.trans ?_ (raiseNotice_upheld i .serviceEntered _)
  refine .of_keepsBut (bs := [.loader, .arbiter, .alert]) (fun b hb => ?_) (by simp [Block.upheld]) ?_
  · cases b <;> first | exact absurd (by decide) hb | rfl
  · exact {
      config := .inl rfl
      level := .inl rfl
      starting := fun e => absurd (hmode.symm.trans e) (by decide)
      restarted := fun e => absurd e (by simp [State.mode])
      running := fun e => absurd e (by simp [State.mode])
      service := fun _ => .inr ⟨hmode, hi⟩
      entered := fun _ _ => ⟨hlevel, hspeed, rfl⟩
      speed := fun _ => .inl rfl
      emptied := fun _ _ _ => rfl
      claims := fun _ => claimsSound_of_empty rfl }

theorem takeEnterService_upheld {i : Instr} (hi : takesRequests i = true) (payload : List Byte) (s : State) :
    Upheld i s (takeEnterService payload s).state := by
  refine lengthed_upheld ?_
  split
  next h => exact enterService_upheld hi h
  next => exact .refl i s

theorem takeRestart_state (payload : List Byte) (s : State) : (takeRestart payload s).state = s := by
  unfold takeRestart lengthed
  (repeat' split) <;> rfl

theorem takeLeaveService_state (payload : List Byte) (s : State) : (takeLeaveService payload s).state = s := by
  unfold takeLeaveService lengthed
  (repeat' split) <;> rfl

theorem flashAllowed_upheld {i : Instr} {unit a : Nat} {s : State} {own : Answer} (h : Upheld i s own.state) :
    Upheld i s (flashAllowed unit a s own).state := by
  unfold flashAllowed
  repeat' split
  · exact .refl i s
  · exact .refl i s
  · exact h
  · exact .refl i s

/-- The service state of the flash changes, not its contents. -/
theorem mapFlash_upheld (i : Instr) {f : Flash → Flash} {s : State} (h : (f s.flash).cells = s.flash.cells) :
    Upheld i s (s.mapFlash f) :=
  .of_block (mapFlash_keeps s f) ⟨.inl h, fun e => (congrArg (sparseWf erased) h).trans e⟩

theorem takeFlashRead_upheld (i : Instr) (payload : List Byte) (s : State) :
    Upheld i s (takeFlashRead payload s).state := by
  have hbegin : Upheld i s (s.mapFlash fun f => { f with op := .reading (u24At payload 0) }) := mapFlash_upheld i rfl
  have htaken : Upheld i s (s.mapFlash fun f => { f with buffer := none }) := mapFlash_upheld i rfl
  refine lengthed_upheld (flashAllowed_upheld ?_)
  split
  next =>
    split
    next => exact htaken
    next => exact hbegin
  next => exact hbegin

theorem takeFlashWrite_upheld (i : Instr) (payload : List Byte) (s : State) :
    Upheld i s (takeFlashWrite payload s).state := by
  have hbegin : Upheld i s (s.mapFlash fun f =>
      { f with op := .writing (u24At payload 0) (payload.drop 3), buffer := none }) := mapFlash_upheld i rfl
  exact lengthed_upheld (flashAllowed_upheld hbegin)

theorem takeFlashErase_upheld (i : Instr) (payload : List Byte) (s : State) :
    Upheld i s (takeFlashErase payload s).state := by
  have hbegin : Upheld i s (s.mapFlash fun f => { f with op := .erasing (u24At payload 0), buffer := none }) :=
    mapFlash_upheld i rfl
  exact lengthed_upheld (flashAllowed_upheld hbegin)

theorem takeGetNotices_upheld (i : Instr) (payload : List Byte) (s : State) :
    Upheld i s (takeGetNotices payload s).state := by
  have htaken : Upheld i s (s.mapPorts fun p => { p with pendingSets := p.pendingSets.set .cab 0#16 }) :=
    .mapPorts (.of_same rfl rfl rfl fun _ => rfl)
  exact lengthed_upheld htaken

theorem takeSetNoticeMask_upheld (i : Instr) (payload : List Byte) (s : State) :
    Upheld i s (takeSetNoticeMask payload s).state := by
  have hset : Upheld i s (s.mapPorts fun p => { p with enable := halfAt payload 0 }) :=
    .mapPorts (.of_same rfl rfl rfl fun _ => rfl)
  exact lengthed_upheld hset

theorem takeTakeLatches_upheld (i : Instr) (m : Master) (payload : List Byte) (s : State) :
    Upheld i s (takeTakeLatches m payload s).state := by
  have htaken : Upheld i s (s.mapAlert fun a => { a with latched := a.latched.set m 0#8 }) :=
    .of_alert (mapAlert_keeps s _) rfl rfl rfl
  exact lengthed_upheld htaken

theorem takeGetFault_upheld (i : Instr) (payload : List Byte) (s : State) :
    Upheld i s (takeGetFault payload s).state := by
  have htaken : Upheld i s (s.mapRemap fun r => { r with fault := { r.fault with held := false } }) :=
    .mapRemap (.of_cache rfl rfl rfl id)
  exact lengthed_upheld htaken

theorem takeGetStatus_upheld (i : Instr) (m : Master) (payload : List Byte) (s : State) :
    Upheld i s (takeGetStatus m payload s).state := lengthed_upheld (.refl i s)

theorem takeGetTracks_state (payload : List Byte) (s : State) : (takeGetTracks payload s).state = s := by
  unfold takeGetTracks lengthed
  dsimp only
  (repeat' split) <;> rfl

theorem takeProbeMap_state (payload : List Byte) (s : State) : (takeProbeMap payload s).state = s := by
  unfold takeProbeMap lengthed
  dsimp only
  (repeat' split) <;> rfl

theorem takeReadMapEntry_state (payload : List Byte) (s : State) : (takeReadMapEntry payload s).state = s := by
  unfold takeReadMapEntry lengthed
  (repeat' split) <;> rfl

/-- A request's own rule, outside STARTING but for GET_STATUS. -/
theorem takeOwn_upheld {i : Instr} (m : Master) (r : Request) {s : State}
    (hi : takesRequests i = true ∨ r.kind ≠ 0x21#8) (hm : s.mode ≠ .starting ∨ r.kind = 0x04#8) : Upheld i s (takeOwn m r s).state := by
  unfold takeOwn
  split
  next hk =>
    refine takeClaimView_upheld i m _ (hm.resolve_right fun e => ?_)
    rw [e] at hk
    exact absurd hk (by decide)
  next => exact takeDropView_upheld i m _ s
  next => exact takeTakeLatches_upheld i m _ s
  next => exact takeGetStatus_upheld i m _ s
  next => exact takeMarkIncident_upheld i m _ s
  next => exact takeAckWarning_upheld i _ s
  next => exact (takeGetTracks_state r.payload s).symm ▸ .refl i s
  next => exact takeGetNotices_upheld i _ s
  next => exact takeSetNoticeMask_upheld i _ s
  next => exact takeCollectMark_upheld i _ s
  next => exact takeSetLive_upheld i _ s
  next => exact takeGetCounters_upheld i _ s
  next => exact (takeProbeMap_state r.payload s).symm ▸ .refl i s
  next => exact (takeReadMapEntry_state r.payload s).symm ▸ .refl i s
  next => exact takeGetFault_upheld i _ s
  next => exact (takeRestart_state r.payload s).symm ▸ .refl i s
  next hk =>
    refine takeEnterService_upheld (hi.resolve_right fun e => e ?_) _ s
    exact BitVec.eq_of_toNat_eq hk
  next => exact (takeLeaveService_state r.payload s).symm ▸ .refl i s
  next => exact takeFlashRead_upheld i _ s
  next => exact takeFlashWrite_upheld i _ s
  next => exact takeFlashErase_upheld i _ s
  next => exact .refl i s

theorem judge_upheld {i : Instr} {r : Request} (hi : takesRequests i = true ∨ r.kind ≠ 0x21#8) (m : Master) (s : State) :
    Upheld i s (judge m r s).state := by
  unfold judge
  repeat' split
  · exact .refl i s
  · exact .refl i s
  · exact .refl i s
  next hstarting =>
    exact takeOwn_upheld m r hi (by by_cases h : s.mode = .starting <;> simp_all)

/-! ## Taking and serving -/

theorem takeRequest_upheld {i : Instr} (hi : takesRequests i = true) (m : Master) (r : Request) (s : State) :
    Upheld i s (takeRequest m r s) :=
  ((judge_upheld (.inl hi) m s).trans (respond_upheld (servesNone_of_takes hi) m r _ _ _ _)).trans (noticeIf_upheld i _ _)

theorem serve_upheld {i : Instr} (hi : takesRequests i = true) (m : Master) (s : State) : Upheld i s (serve m s) := by
  unfold serve
  split
  next => exact .refl i s
  next =>
    split
    next => exact .refl i s
    next r rest hq =>
      refine (setQueue_upheld (servesNone_of_takes hi) fun h => ?_).trans (takeRequest_upheld hi m r _)
      have := h m
      rw [hq, List.length_cons] at this
      omega

theorem arrive_upheld {i : Instr} (hi : takesRequests i = true) (m : Master) (r : Request) (s : State) :
    Upheld i s (arrive m r s) := by
  unfold arrive
  split
  next => exact respond_upheld (servesNone_of_takes hi) m r _ _ _ s
  next hfull => exact (setQueue_upheld (servesNone_of_takes hi) fun _ => by simp; omega).trans (serve_upheld hi m _)

theorem present_upheld {i : Instr} (hi : takesRequests i = true) (m : Master) (r : Request) (s : State) :
    Upheld i s (present m r s) := by
  unfold present
  split
  next => exact arrive_upheld hi m r s
  next => exact .refl i s

theorem afterSent_upheld {i : Instr} (hi : takesRequests i = true) (m : Master) (x : FrameRole) (s : State) :
    Upheld i s (afterSent m x s) := by
  cases x with
  | unasked => exact .refl i s
  | busy => exact .refl i s
  | answer => exact serve_upheld hi m s
  | restart => exact restartPart_upheld (takesRequests_ne_load hi) s

theorem beginSending_upheld {i : Instr} (hi : servesNone i ≠ true) (p : Ports) :
    PortsUpheld i p (beginSending { p with sending := none }) where
  service e := absurd e hi
  queues h := by rw [beginSending_only]; exact h
  notices h := Nat.le_trans (beginSending_count { p with sending := none }) h

theorem cabSent_upheld {i : Instr} (hi : takesRequests i = true) (s : State) : Upheld i s (cabSent s) := by
  unfold cabSent
  split
  next => exact .refl i s
  next => exact (Upheld.mapPorts (beginSending_upheld (servesNone_of_takes hi) s.ports)).trans (afterSent_upheld hi _ _ _)

theorem canSent_upheld {i : Instr} (hi : takesRequests i = true) (p : Port) (s : State) : Upheld i s (canSent p s) := by
  unfold canSent
  split
  next => exact .refl i s
  next => exact (mapStore_upheld (servesNone_of_takes hi) p _ s).trans (afterSent_upheld hi _ _ _)

theorem takeCabByte_upheld {i : Instr} (hi : takesRequests i = true) (b : Byte) (s : State) :
    Upheld i s (takeCabByte b s) := by
  unfold takeCabByte
  split
  next =>
    split
    next => exact setFramer_upheld i _ s
    next => exact .refl i s
  next =>
    unfold growCabFrame
    repeat' split
    · exact breakFrame_upheld i s
    · unfold takeCabFrame
      repeat' split
      · exact (endCabFrame_upheld i s).trans (countWrongData_upheld i _)
      · exact (endCabFrame_upheld i s).trans (present_upheld hi _ _ _)
      · exact breakFrame_upheld i s
    · exact setFramer_upheld i _ s

theorem takeCabBytes_upheld {i : Instr} (hi : takesRequests i = true) (l : List Byte) (s : State) :
    Upheld i s (takeCabBytes l s) := by
  induction l generalizing s with
  | nil => exact .refl i s
  | cons b l ih => exact (takeCabByte_upheld hi b s).trans (ih _)

theorem takeCanBytes_upheld {i : Instr} (hi : takesRequests i = true) (p : Port) (l : List Byte) (s : State) :
    Upheld i s (takeCanBytes p l s) := by
  unfold takeCanBytes
  split
  next => exact .refl i s
  next => exact present_upheld hi _ _ s

/-! ## The load -/

theorem takePorts_upheld (i : Instr) {s : State} (hm : s.mode = .starting) : Upheld i s (takePorts s) := by
  refine Upheld.trans (Upheld.trans ?_ (joinBus_upheld i .body _)) (joinBus_upheld i .chassis _)
  refine .of_keepsBut (bs := [.loaded, .loader, .ports]) (fun b hb => ?_) ?_ ?_
  · cases b <;> first | exact absurd (by decide) hb | rfl
  · simp only [List.mem_cons, List.not_mem_nil, or_false, forall_eq_or_imp, forall_eq]
    exact ⟨fun _ => id, trivial, .of_same rfl rfl rfl fun _ => rfl⟩
  · exact {
      config := .inr (.inl hm)
      starting := fun _ => .inl hm
      restarted := fun _ => .inl hm
      running := fun e => absurd (hm.symm.trans e) (by decide)
      service := fun e => absurd (hm.symm.trans e) (by decide)
      entered := fun e => absurd (hm.symm.trans e) (by decide)
      speed := fun _ => .inl rfl
      level := .inl rfl
      emptied := fun e _ _ => e
      claims := fun e => claimsSound_of_empty (((claimsSound_iff s).mp e).2 (by rw [hm]; decide)) }

/-- The load's results put in place: from STARTING the part is RUNNING, with an empty claim table still. -/
theorem installLoad_upheld (r : LoadResult) {s : State} (hm : s.mode = .starting) :
    Upheld .loadCompletion s (installLoad r s) := by
  refine .of_keepsBut (bs := [.loaded, .loader, .motion, .tracker, .alert, .arbiter, .compositor]) (fun b hb => ?_) ?_ ?_
  · cases b <;> first | exact absurd (by decide) hb | rfl
  · simp only [List.mem_cons, List.not_mem_nil, or_false, forall_eq_or_imp, forall_eq]
    exact ⟨absurd rfl, trivial, trivial, .of_queue rfl id, id, trivial, id⟩
  · exact {
      config := .inr (.inr rfl)
      starting := fun _ => .inr rfl
      restarted := fun e => absurd e (by simp [installLoad, State.mode])
      running := fun _ => .inr ⟨hm, rfl⟩
      service := fun e => absurd e (by simp [installLoad, State.mode])
      entered := fun e => absurd (hm.symm.trans e) (by decide)
      speed := fun _ => .inl rfl
      level := .inl rfl
      emptied := fun e _ _ => e
      claims := fun e => claimsSound_of_empty (((claimsSound_iff s).mp e).2 (by rw [hm]; decide)) }

theorem entryNotices_upheld (i : Instr) (c : Camera) (s : State) : Upheld i s (entryNotices c s) := by
  have hlost : Upheld i s (if (s.intake.get c).link = .live then s else raiseNotice .cameraLost s) := by
    split
    next => exact .refl i s
    next => exact raiseNotice_upheld i _ s
  unfold entryNotices
  dsimp only
  split
  next => exact hlost.trans (raiseNotice_upheld i _ _)
  next => exact hlost

theorem enterRunning_upheld (i : Instr) (s : State) : Upheld i s (enterRunning s) := by
  have hfell : Upheld i s (if s.loader.fellBack then raiseNotice .configFallback s else s) := by
    split
    next => exact raiseNotice_upheld i _ s
    next => exact .refl i s
  unfold enterRunning
  dsimp only
  exact ((((((hfell.trans (entryNotices_upheld i 0 _)).trans (entryNotices_upheld i 1 _)).trans
    (entryNotices_upheld i 2 _)).trans (entryNotices_upheld i 3 _)).trans (rearm_upheld i _ _))).trans
    (decisionEvent_upheld i _)

theorem completeLoad_upheld {s : State} (hm : s.mode = .starting) : Upheld .loadCompletion s (completeLoad s) := by
  unfold completeLoad
  dsimp only
  split
  next => exact (installLoad_upheld _ hm).trans (enterRunning_upheld _ _)
  next => exact ((takePorts_upheld _ hm).trans (installLoad_upheld _ hm)).trans (enterRunning_upheld _ _)

/-! ## The power-on reset -/

theorem flashCut_wf (isNew : Nat → Bool) {f : Flash} (h : sparseWf erased f.cells = true) :
    sparseWf erased (flashCut isNew f) = true := by
  unfold flashCut
  split
  next => exact h
  next => exact h
  next => exact sparseWriteAll_wf h
  next => exact sparseWriteAll_wf h

theorem powerOn_upheld (s : State) : Upheld .powerOnReset s (powerOn s) := by
  obtain ⟨hloaded, htracker, halert, hremap, hcompositor, hports⟩ :=
    Block.upheld_of_start (i := .powerOnReset) (s := s) (t := powerOn s)
  refine ⟨fun b _ => ?_, .of_start (by decide) rfl rfl rfl⟩
  cases b
  case loaded => exact hloaded rfl
  case tracker => exact htracker rfl rfl
  case alert => exact halert rfl
  case remap => exact hremap rfl rfl rfl rfl
  case compositor => exact hcompositor rfl rfl
  case ports => exact hports rfl rfl rfl rfl
  case intake =>
    exact fun c => (Quad.get_map CameraIntake.poweredOn s.intake c).symm ▸
      (restarted_intake _).trans (.of_same rfl rfl rfl rfl)
  case incident => exact ⟨fun _ => Nat.zero_le 8, fun _ => rfl⟩
  case pending => exact rfl
  case ms => exact .inr rfl
  case frame => exact .inr (.inl rfl)
  case flash => exact ⟨.inr (.inr (.inr rfl)), flashCut_wf _⟩
  case loader | exposure | motion | arbiter | draws => trivial

end Sys2Proof.Machine
end

section
/-! PROOFS. Every command keeps what the statements over all commands say, and those statements (O48 to O58). -/

namespace Sys2Proof.Machine

/-! ## Every command -/

theorem flashReadCompletion_upheld {i : Instr} (hi : i ≠ .loadCompletion) (a : Nat) (s : State) :
    Upheld i s (endFlashOp (s.mapFlash fun f => { f with buffer := some (a, readBytes f.cells a 128) })) :=
  (mapFlash_upheld i rfl).trans (endFlashOp_upheld hi _)

/-- A write or an erase that completes changes the flash and keeps its canonical form. -/
theorem flashCompletion_upheld {i : Instr} (hi : i = .flashWriteCompletion ∨ i = .flashEraseCompletion)
    {f : List Host.Cell → List Host.Cell} (hf : ∀ m, sparseWf erased m = true → sparseWf erased (f m) = true) (s : State) :
    Upheld i s (endFlashOp (s.mapFlash fun k => { k with cells := f k.cells })) := by
  have hcells : Upheld i s (s.mapFlash fun k => { k with cells := f k.cells }) :=
    .of_block (mapFlash_keeps s _) ⟨.inr (hi.imp_right .inl), hf _⟩
  exact hcells.trans (endFlashOp_upheld (by rcases hi with rfl | rfl <;> decide) _)

/-- A present state, or what a command makes of it: an outcome of a command that answers one of the two. -/
theorem upheld_of_ite {i : Instr} {s t u : State} {p : Prop} [Decidable p]
    (h : (if p then .next u else .next s : Host.Outcome State Fault Refusal) = .next t) (hu : p → Upheld i s u) :
    Upheld i s t := by
  split at h
  next hp => cases h; exact hu hp
  next => cases h; exact .refl i s

theorem sendRequest_upheld {i : Instr} (hi : takesRequests i = true) {m : Master} {kind tag : Byte} {payload : List Byte}
    {s t : State} (h : sendRequest m kind tag payload s = .next t) : Upheld i s t := by
  cases h
  exact present_upheld hi m _ s

/-- Every command that answers a next state keeps, block by block, what the statements over all commands say. -/
theorem exec_upheld {i : Instr} {s t : State} (h : exec i s = .next t) : Upheld i s t := by
  cases i <;> simp only [exec] at h
  case powerOnReset => cases h; exact powerOn_upheld s
  case partRestart => cases h; exact restartPart_upheld (by decide) s
  case portsTaken => exact upheld_of_ite h fun hm => takePorts_upheld _ hm.1
  case loadCompletion => exact upheld_of_ite h completeLoad_upheld
  case lockLost c => cases h; exact loseLock_upheld _ c s
  case lockGained c => cases h; exact gainLock_upheld _ c s
  case cameraFrameStart c => cases h; exact startCameraFrame_upheld _ c s
  case headerArrival c number sequence gain => cases h; exact takeHeader_upheld _ c _ s
  case frameCompletion c pixels =>
    unfold execFrameCompletion at h
    split at h
    next j _ => cases h; exact completeFrame_upheld _ c j (framePicture_wf pixels) s
    next => cases h; exact .refl _ s
  case stallTimerExpiry c => exact upheld_of_ite h fun _ => leaveLive_upheld _ (by decide)
  case lostTimerExpiry c => exact upheld_of_ite h fun hd => expireLost_upheld _ hd
  case rangeReport data => exact upheld_of_ite h fun _ => takeReadings_upheld _ _ _ s
  case vehicleStatus data =>
    unfold execVehicleStatus at h
    split at h
    next =>
      split at h
      next v _ => cases h; exact (changeVehicle_upheld rfl v s).trans (autoExit_upheld (by simp) _)
      next => cases h; exact .refl _ s
    next => cases h; exact .refl _ s
  case bodyStatus data =>
    unfold execBodyStatus at h
    split at h
    next =>
      split at h
      next v _ => cases h; exact changeVehicle_upheld rfl v s
      next => cases h; exact .refl _ s
    next => cases h; exact .refl _ s
  case stalenessTimerExpiry field =>
    refine upheld_of_ite h fun _ => ?_
    unfold expireField
    split
    next => exact (goStale_upheld rfl field s).trans (autoExit_upheld (by simp) _)
    next => exact goStale_upheld rfl field s
  case wrongMasterData m kind =>
    refine upheld_of_ite h fun _ => Upheld.trans ?_ (countWrongData_upheld _ _)
    split
    next => exact endCabFrame_upheld _ s
    next => exact .refl _ s
  case ignoredCanFrame => cases h; exact .refl _ s
  case trackerTimerExpiry => exact upheld_of_ite h fun _ => trackerExpiry_upheld _ _ _ s
  case trackerUpdateCompletion =>
    unfold execTrackerUpdateCompletion at h
    split at h
    next u _ => cases h; exact completeUpdate_upheld u s
    next => cases h; exact .refl _ s
  case lingerTimerExpiry => exact upheld_of_ite h fun _ => expireLinger_upheld _ s
  case outputFrameStart written => cases h; exact outputFrame_upheld written s
  case pairRendered => cases h; exact finishPair_upheld _ s
  case refillCompletion slot =>
    unfold execRefillCompletion at h
    split at h
    next => exact (freeSlotOf_upheld _ slot s).trans (completeRefill_upheld h)
    next => cases h; exact .refl _ s
  case claimExpiry m => exact upheld_of_ite h fun _ => lapseClaim_upheld _ m s
  case cabFrameBroken => exact upheld_of_ite h fun _ => breakFrame_upheld _ s
  case cabInterbyteTimeout => exact upheld_of_ite h fun _ => breakFrame_upheld _ s
  case requestArrival a =>
    cases a with
    | cabBytes l => cases h; exact takeCabBytes_upheld rfl l s
    | canFrame p l => cases h; exact takeCanBytes_upheld rfl p l s
  case cabFrameSent => cases h; exact cabSent_upheld rfl s
  case canFrameTransmitted p => exact upheld_of_ite h fun _ => canSent_upheld rfl p s
  case busOff p => exact upheld_of_ite h fun _ => goBusOff_upheld p s
  case busOffRecovery p => exact upheld_of_ite h fun _ => joinBus_upheld _ p s
  case statusBroadcast p => exact upheld_of_ite h fun _ => sendBroadcast_upheld _ p s
  case unknownKind m kind tag payload =>
    unfold execUnknownKind at h
    split at h
    next => exact sendRequest_upheld rfl h
    next => cases h; exact .refl _ s
  case flashReadCompletion =>
    unfold execFlashReadCompletion at h
    split at h <;> cases h
    next a _ => exact flashReadCompletion_upheld (by decide) a s
    all_goals exact .refl _ s
  case flashWriteCompletion =>
    unfold execFlashWriteCompletion at h
    split at h <;> cases h
    next a data _ =>
      exact flashCompletion_upheld (.inl rfl) (f := fun m => flashWritten m a data) (fun _ => sparseWriteAll_wf) s
    all_goals exact .refl _ s
  case flashEraseCompletion =>
    unfold execFlashEraseCompletion at h
    split at h <;> cases h
    next a _ => exact flashCompletion_upheld (.inr rfl) (f := fun m => flashErased m a) (fun _ => sparseWriteAll_wf) s
    all_goals exact .refl _ s
  case cabStartByteReceived => cases h; exact takeCabByte_upheld rfl _ s
  all_goals exact sendRequest_upheld rfl h

/-- A step runs a command, or counts a millisecond (log 1). -/
theorem step_cases {s t : State} (h : step s = .next t) :
    (∃ i rest, s.pending = i :: rest ∧ exec i { s with pending := rest } = .next t) ∨ t = tick s := by
  unfold step at h
  split at h
  next => cases h; exact .inr rfl
  next i rest hp => exact .inl ⟨i, rest, hp, h⟩

/-- What holds of every command and reads neither queue nor counter holds of every step. -/
theorem step_induction {P : State → State → Prop} (hexec : ∀ i s t, exec i s = .next t → P s t)
    (hpending : ∀ s t rest, P { s with pending := rest } t → P s t) (htick : ∀ s, P s (tick s)) {s t : State}
    (h : step s = .next t) : P s t := by
  rcases step_cases h with ⟨i, rest, _, he⟩ | rfl
  · exact hpending s t rest (hexec i _ t he)
  · exact htick s

/-! ## Answers -/

/-- REFILL_COMPLETION answers a next state, or the fault for a pair outside the map area (log 25). -/
theorem execRefillCompletion_answers (slot : Fin 2) (s : State) :
    (∃ t, execRefillCompletion slot s = .next t) ∨
      ∃ f, s.remap.slot slot = some f ∧ fetchPair s.loaded f.key = none ∧
        execRefillCompletion slot s = .fault (.outsideMapArea f.key) := by
  unfold execRefillCompletion
  split
  next f hf =>
    unfold completeRefill
    split
    next => exact .inl ⟨_, rfl⟩
    next =>
      split
      next => exact .inl ⟨_, rfl⟩
      next hnone => exact .inr ⟨f, hf, hnone, rfl⟩
  next => exact .inl ⟨_, rfl⟩

/-- Every other command answers a next state. -/
theorem exec_answers {i : Instr} (hi : ∀ slot, i ≠ .refillCompletion slot) (s : State) : ∃ t, exec i s = .next t := by
  have hite : ∀ (p : Prop) [Decidable p] (u v : State),
      ∃ t, (if p then .next u else .next v : Host.Outcome State Fault Refusal) = .next t := by
    intro p _ u v
    split <;> exact ⟨_, rfl⟩
  cases i <;> simp only [exec]
  case refillCompletion slot => exact absurd rfl (hi slot)
  case portsTaken | loadCompletion | stallTimerExpiry | lostTimerExpiry | rangeReport | stalenessTimerExpiry
    | wrongMasterData | trackerTimerExpiry | lingerTimerExpiry | claimExpiry | cabFrameBroken | cabInterbyteTimeout
    | canFrameTransmitted | busOff | busOffRecovery | statusBroadcast => exact hite _ _ _
  case frameCompletion => unfold execFrameCompletion; split <;> exact ⟨_, rfl⟩
  case vehicleStatus => unfold execVehicleStatus; (repeat' split) <;> exact ⟨_, rfl⟩
  case bodyStatus => unfold execBodyStatus; (repeat' split) <;> exact ⟨_, rfl⟩
  case trackerUpdateCompletion => unfold execTrackerUpdateCompletion; split <;> exact ⟨_, rfl⟩
  case requestArrival a => cases a <;> exact ⟨_, rfl⟩
  case unknownKind => exact hite _ _ _
  case flashReadCompletion => unfold execFlashReadCompletion; split <;> exact ⟨_, rfl⟩
  case flashWriteCompletion => unfold execFlashWriteCompletion; split <;> exact ⟨_, rfl⟩
  case flashEraseCompletion => unfold execFlashEraseCompletion; split <;> exact ⟨_, rfl⟩
  all_goals exact ⟨_, rfl⟩

/-! ## The statements over all commands -/

/-- Settles O48: the outcomes command by command, the frame from what every command keeps. -/
theorem everyCommandAnswers : Obligations.EveryCommandAnswers := by
  intro i s
  refine ⟨?_, fun t h => ⟨(exec_upheld h).block .pending (by simp), (exec_upheld h).block .ms (by simp),
    (exec_upheld h).block .frame (by simp)⟩⟩
  by_cases hi : ∃ slot, i = .refillCompletion slot
  · obtain ⟨slot, rfl⟩ := hi
    rcases execRefillCompletion_answers slot s with ht | ⟨f, hf, hnone, hfault⟩
    · exact .inl ht
    · exact .inr ⟨slot, f, rfl, hf, hnone, hfault⟩
  · exact .inl (exec_answers (fun slot e => hi ⟨slot, e⟩) s)

/-- Settles O49. -/
theorem configurationStaysAsLoaded : Obligations.ConfigurationStaysAsLoaded := fun _ _ _ h =>
  ⟨(exec_upheld h).modes.config, ((exec_upheld h).block .flash (by simp)).1⟩

/-- Settles O50. -/
theorem operatingStateMovesAsStated : Obligations.OperatingStateMovesAsStated := fun _ _ _ h =>
  ⟨(exec_upheld h).modes.running, fun e => ((exec_upheld h).modes.service e).imp_right And.left,
    (exec_upheld h).modes.entered⟩

/-- Settles O51. -/
theorem alertLevelChangesOnlyAtUpdates : Obligations.AlertLevelChangesOnlyAtUpdates := fun _ _ _ h hne =>
  ((exec_upheld h).modes.level.resolve_left hne).imp_right fun ⟨hm, hl, _⟩ => ⟨hm, hl⟩

/-! ## The invariants -/

theorem memoryCanonical_iff (s : State) :
    memoryCanonical s = true ↔
      sparseWf erased s.flash.cells = true ∧ sparseWf erased s.loaded.mapCells = true ∧
        (sparseWf blackPixel s.compositor.store = true ∧ sparseWf blackPixel s.compositor.sent = true) ∧
          ∀ c j, sparseWf blankPixel ((s.intake.get c).slots.get j).picture = true := by
  simp only [memoryCanonical, Bool.and_eq_true, Quad.all_toList, Trio.all_toList, and_assoc]

/-- R172: the map area holds the section's bytes in canonical form, or none. -/
theorem loadSections_area {flash : List Host.Cell} (h : sparseWf erased flash = true) (ports : PortsConfig) :
    sparseWf erased (loadSections flash ports).loaded.mapCells = true := by
  show sparseWf erased ((parseMaps flash).getD ⟨0, []⟩).cells = true
  unfold parseMaps ensure
  split
  next e _ =>
    split
    next => exact filterShift_wf h (Nat.zero_le e.offset)
    next => rfl
  next => rfl

/-- The configuration after the load is what its sections give. -/
theorem completeLoad_loaded (s : State) : ∃ ports, (completeLoad s).loaded = (loadSections s.flash.cells ports).loaded := by
  have hentry : ∀ c u, (entryNotices c u).loaded = u.loaded := fun c u => by
    unfold entryNotices
    dsimp only
    (repeat' split) <;> rfl
  have henter : ∀ u, (enterRunning u).loaded = u.loaded := fun u => by
    unfold enterRunning
    dsimp only
    rw [(decisionEvent_keeps _) .loaded (by decide), (rearm_keeps _ _) .loaded (by decide), hentry, hentry, hentry, hentry]
    split <;> rfl
  unfold completeLoad
  dsimp only
  rw [henter]
  split
  next => exact ⟨_, rfl⟩
  next => exact ⟨_, rfl⟩

/-- Settles O52: each memory is written through the operations of the canonical form, and the map area is copied from
the flash in its order. -/
theorem memoryStaysCanonical : Obligations.MemoryStaysCanonical := by
  intro s t hs h
  refine step_induction (P := fun s t => memoryCanonical s = true → memoryCanonical t = true) (fun i s t he hs => ?_)
    (fun _ _ _ => id) (fun _ => id) h hs
  have hu := exec_upheld he
  rw [memoryCanonical_iff] at hs ⊢
  obtain ⟨hflash, harea, hscreen, hslots⟩ := hs
  refine ⟨(hu.block .flash (by simp)).2 hflash, ?_, hu.block .compositor (by simp) hscreen,
    fun c => (hu.block .intake (by simp) c).pictures (hslots c)⟩
  by_cases hi : i = .loadCompletion
  · subst hi
    simp only [exec, execLoadCompletion] at he
    split at he
    next =>
      cases he
      obtain ⟨ports, hl⟩ := completeLoad_loaded s
      exact hl ▸ loadSections_area hflash ports
    next => cases he; exact harea
  · exact hu.block .loaded (by simp) hi harea

theorem listsBounded_iff (s : State) :
    listsBounded s = true ↔
      (∀ m, (s.ports.queues.get m).length ≤ 4) ∧ s.ports.waiting.count .notice ≤ 1 ∧ s.tracker.queue.length ≤ 48 ∧
        s.tracker.tracks.length = 16 ∧ s.incident.marks.length ≤ 8 ∧ s.remap.faulted.length ≤ 2 ∧
          s.remap.entries.length = 40 ∧ s.alert.occupancy.length = 8 := by
  have hall : (∀ m, (s.ports.queues.get m).length ≤ 4) ↔
      s.ports.queues.cab.length ≤ 4 ∧ s.ports.queues.body.length ≤ 4 ∧ s.ports.queues.chassis.length ≤ 4 :=
    ⟨fun h => ⟨h .cab, h .body, h .chassis⟩, fun ⟨h0, h1, h2⟩ m => match m with | .cab => h0 | .body => h1 | .chassis => h2⟩
  simp only [listsBounded, Bool.and_eq_true, decide_eq_true_eq, hall, and_assoc]

/-- Settles O53. -/
theorem listsStayBounded : Obligations.ListsStayBounded := by
  intro s t hs h
  refine step_induction (P := fun s t => listsBounded s = true → listsBounded t = true) (fun i s t he hs => ?_)
    (fun _ _ _ => id) (fun _ => id) h hs
  have hu := exec_upheld he
  rw [listsBounded_iff] at hs ⊢
  obtain ⟨hqueues, hnotices, hsightings, htracks, hmarks, hfaulted, hentries, hoccupancy⟩ := hs
  have hports := hu.block .ports (by simp)
  have htracker := hu.block .tracker (by simp)
  have hremap := hu.block .remap (by simp)
  exact ⟨hports.queues hqueues, hports.notices hnotices, htracker.queue hsightings, htracker.tracks htracks,
    (hu.block .incident (by simp)).count hmarks, hremap.faulted hfaulted, hremap.entries hentries,
    hu.block .alert (by simp) hoccupancy⟩

/-- Settles O54. -/
theorem remapUnitStaysSound : Obligations.RemapUnitStaysSound := fun _ _ hs h =>
  step_induction (P := fun s t => remapSound s = true → remapSound t = true)
    (fun _ _ _ he => ((exec_upheld he).block .remap (by simp)).sound) (fun _ _ _ => id) (fun _ => id) h hs

/-- Settles O55. -/
theorem trackNumbersStayDistinct : Obligations.TrackNumbersStayDistinct := fun _ _ hs h =>
  step_induction (P := fun s t => tracksSound s = true → tracksSound t = true)
    (fun _ _ _ he => ((exec_upheld he).block .tracker (by simp)).numbers) (fun _ _ _ => id) (fun _ => id) h hs

/-- Settles O56. -/
theorem claimsStayWithinTheirMaximum : Obligations.ClaimsStayWithinTheirMaximum := fun _ _ hs h =>
  step_induction (P := fun s t => claimsSound s = true → claimsSound t = true)
    (fun _ _ _ he => (exec_upheld he).modes.claims) (fun _ _ _ => id) (fun _ => id) h hs

/-- Settles O57. -/
theorem markNumbersStayDistinct : Obligations.MarkNumbersStayDistinct := fun _ _ hs h =>
  step_induction (P := fun s t => marksSound s = true → marksSound t = true)
    (fun _ _ _ he => ((exec_upheld he).block .incident (by simp)).numbers) (fun _ _ _ => id) (fun _ => id) h hs

theorem linksSound_iff (s : State) : linksSound s = true ↔ ∀ c, timersSound (s.intake.get c) = true :=
  Quad.all_toList _ _

theorem slotsSound_iff (s : State) :
    slotsSound s = true ↔ ∀ c, slotCount .filling (s.intake.get c) ≤ 1 ∧ slotCount .reading (s.intake.get c) ≤ 1 := by
  simp only [slotsSound, Quad.all_toList, Bool.and_eq_true, decide_eq_true_eq]

/-- Settles O58. -/
theorem linksAndSlotsStaySound : Obligations.LinksAndSlotsStaySound := by
  intro s t hl hs h
  refine step_induction (P := fun s t => linksSound s = true ∧ slotsSound s = true → linksSound t = true ∧ slotsSound t = true)
    (fun i s t he hs => ?_) (fun _ _ _ => id) (fun _ => id) h ⟨hl, hs⟩
  have hu : ∀ c, CameraUpheld (s.intake.get c) (t.intake.get c) := (exec_upheld he).block .intake (by simp)
  rw [linksSound_iff, slotsSound_iff] at hs ⊢
  exact ⟨fun c => (hu c).timers (hs.1 c), fun c => (hu c).slots (hs.2 c)⟩

end Sys2Proof.Machine
end

section
/-! PROOFS. Every step keeps one response on its way while requests wait (O59), a step runs the front command (O47), and
the reset state meets the invariants (O60). -/

namespace Sys2Proof.Machine

/-! ## The service of a master -/

/-- One master's requests are served: one response at most is on its way, and one while its queue is not empty. -/
def ServesOne (m : Master) (p : Ports) : Prop :=
  answersOwed m p ≤ 1 ∧ (p.queues.get m = [] ∨ answersOwed m p = 1)

/-- Every master is served, and no cab frame waits while none is being sent. -/
def Serves (p : Ports) : Prop := (∀ m, ServesOne m p) ∧ CabIdle p

/-- Every master is served but perhaps `m`, of which one response at most is on its way. -/
def ServesBut (m : Master) (p : Ports) : Prop :=
  (∀ n, n ≠ m → ServesOne n p) ∧ answersOwed m p ≤ 1 ∧ CabIdle p

theorem outstanding_eq (m : Master) (s : State) : outstanding m s = answersOwed m s.ports := by
  cases m
  · simp only [outstanding, answersOwed, masterPort]
    rcases s.ports.sending with _ | f <;> simp
  all_goals rfl

theorem requestsServed_iff (s : State) : requestsServed s = true ↔ Serves s.ports := by
  have hone : ∀ m, servedSound m s = true ↔ ServesOne m s.ports := fun m => by
    simp only [servedSound, ServesOne, outstanding_eq, Bool.and_eq_true, Bool.or_eq_true, decide_eq_true_eq]
  have hall : (∀ m, ServesOne m s.ports) ↔
      ServesOne .cab s.ports ∧ ServesOne .body s.ports ∧ ServesOne .chassis s.ports :=
    ⟨fun h => ⟨h .cab, h .body, h .chassis⟩, fun ⟨h0, h1, h2⟩ m => match m with | .cab => h0 | .body => h1 | .chassis => h2⟩
  simp only [requestsServed, Serves, CabIdle, hall, Bool.and_eq_true, Bool.or_eq_true, decide_eq_true_eq, hone, and_assoc]

theorem answering_iff (m : Master) (s : State) : answering m s = true ↔ answersOwed m s.ports ≠ 0 := by
  cases m
  · simp only [answering, answersOwed, masterPort, Bool.or_eq_true, List.any_eq_true, ne_eq, Nat.add_eq_zero_iff,
      List.countP_eq_zero]
    constructor
    · rintro (h | ⟨w, hw, ha⟩) ⟨h1, h2⟩
      · simp [h] at h1
      · exact h2 w hw ha
    · refine fun h => Classical.byContradiction fun hn => ?_
      rw [not_or] at hn
      exact h ⟨by simp [hn.1], fun w hw ha => hn.2 ⟨w, hw, ha⟩⟩
  all_goals
    simp only [answering, answersOwed, masterPort, List.any_eq_true, ne_eq, List.countP_eq_zero, Classical.not_forall,
      Classical.not_not, exists_prop]

theorem ServesBut.of_serves {m : Master} {p : Ports} (h : Serves p) : ServesBut m p :=
  ⟨fun n _ => h.1 n, (h.1 m).1, h.2⟩

theorem Serves.of_kept {p q : Ports} (h : Serves p) (hk : ServiceKept p q) : Serves q := by
  rcases hk with hk | hk
  · exact ⟨fun m => by rw [ServesOne, hk.queues, hk.owed]; exact h.1 m, hk.idle h.2⟩
  · exact ⟨fun m => ⟨by rw [hk.owed]; exact Nat.zero_le 1, .inl (hk.queues m)⟩, hk.idle⟩

theorem ServesBut.of_kept {m : Master} {p q : Ports} (h : ServesBut m p) (hk : ServiceKept p q) : ServesBut m q := by
  rcases hk with hk | hk
  · exact ⟨fun n hn => by rw [ServesOne, hk.queues, hk.owed]; exact h.1 n hn, by rw [hk.owed]; exact h.2.1, hk.idle h.2.2⟩
  · exact .of_serves ⟨fun m => ⟨by rw [hk.owed]; exact Nat.zero_le 1, .inl (hk.queues m)⟩, hk.idle⟩

theorem owed_of_kept {m : Master} {p q : Ports} (h : answersOwed m p = 0) (hk : ServiceKept p q) : answersOwed m q = 0 := by
  rcases hk with hk | hk
  · exact (hk.owed m).trans h
  · exact hk.owed m

/-! ## Responses -/

theorem mapPort_owed {p : Port} {f : CanPort → CanPort} {s : State} {m : Master} :
    answersOwed m (mapPort p f s).ports =
      if m = portMaster p then (f (s.ports.can.get p)).store.countP fun f => f.role.isAnswer else answersOwed m s.ports := by
  cases m <;> cases p <;> rfl

/-- A response to a taken request is owed to its master; a BUSY is not. -/
theorem respond_owed (m n : Master) (r : Request) (code : ResponseCode) (l : List Byte) (x : FrameRole) (s : State) :
    answersOwed n (respond m r code l x s).ports =
      answersOwed n s.ports + if n = m ∧ x.isAnswer = true then 1 else 0 := by
  unfold respond
  cases m with
  | cab => exact produceCab_owed _ _ n
  | body | chassis =>
    simp only [masterPort, storeFrame, mapPort_owed, portMaster]
    cases n <;> simp [answersOwed, masterPort, List.countP_append, List.countP_cons]

theorem respond_idle {m : Master} {r : Request} {code : ResponseCode} {l : List Byte} {x : FrameRole} {s : State}
    (h : CabIdle s.ports) : CabIdle (respond m r code l x s).ports := by
  unfold respond
  split
  next => exact produceCab_idle _ h
  next => exact h

theorem respond_queues (m : Master) (r : Request) (code : ResponseCode) (l : List Byte) (x : FrameRole) (s : State) :
    (respond m r code l x s).ports.queues = s.ports.queues := by
  unfold respond
  split
  next => exact produceCab_queues _ _
  next => rfl

theorem lengthed_role {n : Nat} {payload : List Byte} {s : State} {own : Answer} (h : own.role.isAnswer = true) :
    (lengthed n payload s own).role.isAnswer = true := by
  unfold lengthed
  split
  next => exact h
  next => rfl

theorem flashAllowed_role {unit a : Nat} {s : State} {own : Answer} (h : own.role.isAnswer = true) :
    (flashAllowed unit a s own).role.isAnswer = true := by
  unfold flashAllowed
  (repeat' split) <;> first | exact h | rfl

/-- Whatever a request's own rule answers is the response to a taken request. -/
theorem takeOwn_role (m : Master) (r : Request) (s : State) : (takeOwn m r s).role.isAnswer = true := by
  unfold takeOwn
  split
  next => unfold takeClaimView; (repeat' split) <;> rfl
  next => unfold takeDropView; (repeat' split) <;> rfl
  next => exact lengthed_role rfl
  next => exact lengthed_role rfl
  next => exact lengthed_role (by split <;> rfl)
  next => exact lengthed_role (by split <;> rfl)
  next => exact lengthed_role (by split <;> rfl)
  next => exact lengthed_role rfl
  next => exact lengthed_role rfl
  next => exact lengthed_role (by split <;> rfl)
  next => unfold takeSetLive; (repeat' split) <;> rfl
  next => exact lengthed_role (by split <;> rfl)
  next => exact lengthed_role (by split <;> rfl)
  next => exact lengthed_role (by split <;> rfl)
  next => exact lengthed_role rfl
  next => exact lengthed_role (by split <;> rfl)
  next => exact lengthed_role (by split <;> rfl)
  next => exact lengthed_role (by (repeat' split) <;> rfl)
  next => exact lengthed_role (flashAllowed_role (by (repeat' split) <;> rfl))
  next => exact lengthed_role (flashAllowed_role rfl)
  next => exact lengthed_role (flashAllowed_role rfl)
  next => rfl

theorem judge_role (m : Master) (r : Request) (s : State) : (judge m r s).role.isAnswer = true := by
  unfold judge
  (repeat' split) <;> first | rfl | exact takeOwn_role m r s

/-- The effect of a request leaves the service of the masters. -/
theorem judge_serviceKept (m : Master) (r : Request) (s : State) : ServiceKept s.ports (judge m r s).state.ports := by
  have hkept : ∀ {u : State}, Upheld .partRestart s u → ServiceKept s.ports u.ports := fun h =>
    (h.block .ports (by simp)).service rfl
  by_cases hr : r.kind = 0x21#8
  · have henter : ServiceKept s.ports (takeEnterService r.payload s).state.ports := by
      unfold takeEnterService lengthed
      split
      next =>
        split
        next =>
          have hraise := raiseNotice_upheld .partRestart .serviceEntered
            { s with
              loader := { s.loader with mode := .service }
              arbiter := suspendClaims s.arbiter
              alert := { s.alert with linger := none } }
          exact (hraise.block .ports (by simp)).service rfl
        next => exact hkept (.refl _ s)
      next => exact hkept (.refl _ s)
    unfold judge
    repeat' split
    · exact hkept (.refl _ s)
    · exact hkept (.refl _ s)
    · exact hkept (.refl _ s)
    · have hown : takeOwn m r s = takeEnterService r.payload s := by
        unfold takeOwn
        rw [hr]
        rfl
      exact hown ▸ henter
  · exact hkept (judge_upheld (.inr hr) m s)

/-! ## Taking and serving (R163) -/

/-- A request of a master with no response on its way is taken, and its response is the one on its way. -/
theorem takeRequest_serves {m : Master} {r : Request} {s : State} (h : ServesBut m s.ports)
    (h0 : answersOwed m s.ports = 0) : Serves (takeRequest m r s).ports := by
  have hkept := judge_serviceKept m r s
  obtain ⟨hothers, _, hidle⟩ := h.of_kept hkept
  have hzero := owed_of_kept h0 hkept
  have hrole := judge_role m r s
  have hresponded : Serves (respond m r (judge m r s).code (judge m r s).results (judge m r s).role
      (judge m r s).state).ports := by
    refine ⟨fun n => ?_, respond_idle hidle⟩
    rw [ServesOne, respond_owed, respond_queues, hrole]
    by_cases hn : n = m
    · subst hn
      rw [hzero]
      simp
    · simpa [ServesOne, hn] using hothers n hn
  have hnotice := (noticeIf_upheld .partRestart (judge m r s).noticeAfter
    (respond m r (judge m r s).code (judge m r s).results (judge m r s).role (judge m r s).state)).block .ports (by simp)
  exact hresponded.of_kept (hnotice.service rfl)

theorem setQueue_owed (m n : Master) (q : List Request) (s : State) :
    answersOwed n (setQueue m q s).ports = answersOwed n s.ports := by
  cases n <;> rfl

theorem setQueue_servesBut {m : Master} {q : List Request} {s : State} (h : ServesBut m s.ports) :
    ServesBut m (setQueue m q s).ports := by
  obtain ⟨hothers, howed, hidle⟩ := h
  refine ⟨fun n hn => ?_, Nat.le_trans (Nat.le_of_eq (setQueue_owed m m q s)) howed, hidle⟩
  have hqueue : (setQueue m q s).ports.queues.get n = s.ports.queues.get n := PerMaster.get_set_other _ _ hn
  rw [ServesOne, setQueue_owed, hqueue]
  exact hothers n hn

theorem serve_serves {m : Master} {s : State} (h : ServesBut m s.ports) : Serves (serve m s).ports := by
  obtain ⟨hothers, howed, hidle⟩ := h
  have hall : ServesOne m s.ports → Serves s.ports := fun hm =>
    ⟨fun n => if hn : n = m then hn ▸ hm else hothers n hn, hidle⟩
  unfold serve
  split
  next ha =>
    have := (answering_iff m s).mp ha
    exact hall ⟨howed, .inr (by omega)⟩
  next ha =>
    have h0 : answersOwed m s.ports = 0 := Decidable.byContradiction fun hne => ha ((answering_iff m s).mpr hne)
    split
    next hq => exact hall ⟨howed, .inl hq⟩
    next r rest _ =>
      exact takeRequest_serves (setQueue_servesBut ⟨hothers, howed, hidle⟩) ((setQueue_owed m m rest s).trans h0)

theorem present_serves {m : Master} {r : Request} {s : State} (h : Serves s.ports) : Serves (present m r s).ports := by
  unfold present
  split
  next =>
    unfold arrive
    split
    next =>
      refine ⟨fun n => ?_, respond_idle h.2⟩
      rw [ServesOne, respond_owed, respond_queues]
      simpa [ServesOne, FrameRole.isAnswer] using h.1 n
    next => exact serve_serves (setQueue_servesBut (.of_serves h))
  next => exact h

/-- After a frame of a master is gone, with what it was owed. -/
theorem afterSent_serves {m : Master} {x : FrameRole} {p : Ports} {s : State} (hp : Serves p)
    (hq : s.ports.queues = p.queues) (hi : CabIdle s.ports)
    (ho : ∀ n, answersOwed n s.ports + (if n = m ∧ x.isAnswer = true then 1 else 0) = answersOwed n p) :
    Serves (afterSent m x s).ports := by
  have hsame : ∀ n, ¬ (n = m ∧ x.isAnswer = true) → ServesOne n s.ports := fun n hn => by
    have := ho n
    rw [if_neg hn, Nat.add_zero] at this
    rw [ServesOne, hq, this]
    exact hp.1 n
  have hstay : x.isAnswer = false → Serves s.ports := fun hx =>
    ⟨fun n => hsame n fun h => absurd (hx.symm.trans h.2) (by decide), hi⟩
  cases x with
  | unasked => exact hstay rfl
  | busy => exact hstay rfl
  | answer =>
    refine serve_serves ⟨fun n hn => hsame n fun h => hn h.1, ?_, hi⟩
    have := ho m
    have := (hp.1 m).1
    omega
  | restart =>
    refine ⟨fun n => ⟨?_, .inl ?_⟩, .inr rfl⟩
    · cases n <;> exact Nat.zero_le 1
    · cases n <;> rfl

theorem cabSent_serves {s : State} (h : Serves s.ports) : Serves (cabSent s).ports := by
  unfold cabSent
  split
  next => exact h
  next f hf =>
    refine afterSent_serves h ?_ (beginSending_idle _) fun n => ?_
    · show (beginSending { s.ports with sending := none }).queues = s.ports.queues
      rw [beginSending_only]
    · show answersOwed n (beginSending { s.ports with sending := none }) + _ = _
      rw [beginSending_owed]
      cases n <;> simp [answersOwed, masterPort, hf, Nat.add_comm]

theorem canSent_serves {p : Port} {s : State} (h : Serves s.ports) : Serves (canSent p s).ports := by
  unfold canSent
  split
  next => exact h
  next f rest hf =>
    refine afterSent_serves h rfl h.2 fun n => ?_
    rw [mapPort_owed]
    split
    next hn =>
      subst hn
      have howed : answersOwed (portMaster p) s.ports = (s.ports.can.get p).store.countP fun f => f.role.isAnswer := by
        cases p <;> rfl
      rw [howed, hf, List.countP_cons]
      simp
    next hn => simp [hn]

theorem takeCabByte_serves {b : Byte} {s : State} (h : Serves s.ports) : Serves (takeCabByte b s).ports := by
  have hkept : ∀ {u : State}, Upheld .partRestart s u → Serves u.ports := fun hu =>
    h.of_kept ((hu.block .ports (by simp)).service rfl)
  unfold takeCabByte
  split
  next =>
    split
    next => exact hkept (setFramer_upheld _ _ s)
    next => exact h
  next =>
    unfold growCabFrame takeCabFrame
    repeat' split
    · exact hkept (breakFrame_upheld _ s)
    · exact hkept ((endCabFrame_upheld _ s).trans (countWrongData_upheld _ _))
    · exact present_serves (hkept (endCabFrame_upheld _ s))
    · exact hkept (breakFrame_upheld _ s)
    · exact hkept (setFramer_upheld _ _ s)

theorem takeCabBytes_serves (l : List Byte) {s : State} (h : Serves s.ports) : Serves (takeCabBytes l s).ports := by
  unfold takeCabBytes
  induction l generalizing s with
  | nil => exact h
  | cons b l ih => exact ih (takeCabByte_serves h)

/-- BUS_OFF empties the queue and the transmit store of its port's master together (R162). -/
theorem goBusOff_serves {p : Port} {s : State} (h : Serves s.ports) : Serves (goBusOff p s).ports := by
  refine ⟨fun n => ?_, h.2⟩
  have howed : answersOwed n (goBusOff p s).ports = if n = portMaster p then 0 else answersOwed n s.ports := by
    show answersOwed n (setQueue _ _ _).ports = _
    rw [setQueue_owed, mapPort_owed]
    rfl
  rw [ServesOne, howed]
  split
  next hn => exact ⟨Nat.zero_le 1, .inl (hn ▸ PerMaster.get_set_same _ _ _)⟩
  next hn =>
    have hqueue : (goBusOff p s).ports.queues.get n = s.ports.queues.get n := PerMaster.get_set_other _ _ hn
    rw [hqueue]
    exact h.1 n

theorem serves_of_ite {s t u : State} {p : Prop} [Decidable p]
    (h : (if p then .next u else .next s : Host.Outcome State Fault Refusal) = .next t) (hs : Serves s.ports)
    (hu : Serves u.ports) : Serves t.ports := by
  split at h
  next => cases h; exact hu
  next => cases h; exact hs

theorem exec_serves {i : Instr} {s t : State} (h : exec i s = .next t) (hs : Serves s.ports) : Serves t.ports := by
  by_cases hi : servesNone i = true
  · exact hs.of_kept (((exec_upheld h).block .ports (by simp)).service hi)
  · have hrequest : ∀ {m kind tag payload}, sendRequest m kind tag payload s = .next t → Serves t.ports := by
      intro m kind tag payload e
      cases e
      exact present_serves hs
    cases i <;> simp only [exec] at h
    case busOff p => exact serves_of_ite h hs (goBusOff_serves hs)
    case requestArrival a =>
      cases a with
      | cabBytes l =>
        cases h
        exact takeCabBytes_serves l hs
      | canFrame p l =>
        cases h
        unfold takeCanBytes
        split
        next => exact hs
        next => exact present_serves hs
    case cabFrameSent => cases h; exact cabSent_serves hs
    case canFrameTransmitted p => exact serves_of_ite h hs (canSent_serves hs)
    case unknownKind =>
      unfold execUnknownKind at h
      split at h
      next => exact hrequest h
      next => cases h; exact hs
    case cabStartByteReceived => cases h; exact takeCabByte_serves hs
    all_goals first | exact hrequest h | exact absurd rfl hi

/-- Settles O59. -/
theorem requestsStayServed : Obligations.RequestsStayServed := fun _ _ hs h =>
  step_induction (P := fun s t => requestsServed s = true → requestsServed t = true)
    (fun _ _ _ he hs => (requestsServed_iff _).mpr (exec_serves he ((requestsServed_iff _).mp hs)))
    (fun _ _ _ => id) (fun _ => id) h hs

/-! ## The machine -/

/-- Settles O47. -/
theorem stepRunsTheFrontCommand : Obligations.StepRunsTheFrontCommand :=
  ⟨fun i rest s h => by rw [step, h], fun s h => by
    unfold step
    split
    next => exact congrArg Host.Outcome.next (by rw [tick, h])
    next hc => exact absurd (h.symm.trans hc) (List.cons_ne_nil _ _).symm⟩

/-- Settles O60: each invariant by evaluation of the reset state. -/
theorem resetSatisfiesTheInvariants : Obligations.ResetSatisfiesTheInvariants := by
  refine ⟨?_, ?_, ?_, ?_, ?_, ?_, ?_, ?_, ?_⟩ <;> decide

end Sys2Proof.Machine
end

section
/-! PROOFS. The camera links: lock, frame starts, headers, frame completions and the link timers (O1, O3 to O7). -/

namespace Sys2Proof.Machine

/-! ## What an event of a link does beside the link's own intake -/

/-- From `s` to `t` a camera's link or condition has changed: the record `r` is offered, the arms that read the
cameras are recomputed, and the notices `ks` are raised (R24, R50, R96). -/
structure CameraMoved (r : EventRecord) (ks : List NoticeKind) (s t : State) : Prop where
  record : t.incident = (offerRecord r s).incident
  arms : ArmsFollow readsCamera s t
  only : NoticesOnly s t
  raised : NoticesRaised ks s t

/-- The link of camera `c` has taken the state `l`. -/
abbrev LinkMoved (c : Camera) (l : LinkState) (ks : List NoticeKind) (s t : State) : Prop :=
  CameraMoved (.condition c l (s.exposure.get c).condition) ks s t

/-- What changes the intake alone before the move is part of the event. -/
theorem LinkMoved.of_mapIntake {c d : Camera} {l : LinkState} {ks : List NoticeKind} {s t : State}
    {f : CameraIntake → CameraIntake} (h : LinkMoved c l ks (s.mapIntake d f) t) : LinkMoved c l ks s t where
  record := h.record.trans (offerRecord_incident_congr rfl rfl rfl rfl rfl rfl rfl rfl)
  arms := h.arms.congr rfl rfl rfl rfl rfl rfl
  only := h.only
  raised := h.raised

theorem moveLink_moved {c : Camera} {l : LinkState} {s : State} (h : (s.intake.get c).link ≠ l) :
    LinkMoved c l [] s (moveLink c l s) :=
  ⟨moveLink_incident h, moveLink_arms h, (moveLink_ports c l s).1, (moveLink_ports c l s).2⟩

theorem leaveLive_moved {c : Camera} {l : LinkState} {s : State} (h : (s.intake.get c).link ≠ l) :
    LinkMoved c l (if s.mode ≠ .starting then [.cameraLost] else []) s (leaveLive c l s) :=
  ⟨leaveLive_incident h, leaveLive_arms h, (leaveLive_ports c l s).1, (leaveLive_ports c l s).2⟩

theorem enterLive_moved {c : Camera} {s : State} (h : (s.intake.get c).link ≠ .live) :
    LinkMoved c .live (if s.mode ≠ .starting then [.cameraBack] else []) s (enterLive c s) :=
  ⟨enterLive_incident h, enterLive_arms h, (enterLive_ports c s).1, (enterLive_ports c s).2⟩

/-! ## Lock (O1) -/

/-- The camera after a loss of lock: torn and in DOWN, with the lost timer `lost`. -/
def unlocked (k : CameraIntake) (lost : LostTimer) : CameraIntake :=
  { tearFrame k with lock := false, link := .down, stall := none, lost := lost }

theorem loseLock_intake (c : Camera) (s : State) :
    (loseLock c s).intake = s.intake.set c
      (unlocked (s.intake.get c)
        (if (s.intake.get c).link = .live then .running s.ms else (s.intake.get c).lost)) := by
  unfold loseLock
  split
  next => simp [unlocked, State.mapIntake]
  next => simp [unlocked, State.mapIntake, tearFrame_fields]

theorem loseLock_keeps (c : Camera) (s : State) :
    KeepsBut [.intake, .motion, .compositor, .incident, .ports] s (loseLock c s) := by
  unfold loseLock
  split
  next => exact (mapIntake_keeps s c _).chain (leaveLive_keeps c .down _)
  next => exact ((mapIntake_keeps s c _).chain (cs := [.intake]) (mapIntake_keeps _ c _)).chain (moveLink_keeps c .down _)

theorem loseLock_motion (c : Camera) (s : State) :
    (loseLock c s).motion = if (s.intake.get c).link = .live then resetCells c s.motion else s.motion := by
  unfold loseLock
  split
  next => simp
  next => simp

theorem ite_and_eq_ite_ite {α : Type} (p q : Prop) [Decidable p] [Decidable q] (a b : α) :
    (if p ∧ q then a else b) = if p then if q then a else b else b := by
  by_cases hp : p <;> simp [hp]

/-- A loss of lock moves every link that is not DOWN. -/
theorem loseLock_moved {c : Camera} {s : State} (h : (s.intake.get c).link ≠ .down) :
    LinkMoved c .down (if (s.intake.get c).link = .live ∧ s.mode ≠ .starting then [.cameraLost] else []) s
      (loseLock c s) := by
  by_cases hlive : (s.intake.get c).link = .live
  · rw [ite_and_eq_ite_ite, if_pos hlive, loseLock, if_pos hlive]
    exact (leaveLive_moved (c := c) (l := .down) (s := s.mapIntake c fun k => { tearFrame k with lock := false })
      (by simp [State.mapIntake, tearFrame_fields, hlive])).of_mapIntake
  · rw [ite_and_eq_ite_ite, if_neg hlive, loseLock, if_neg hlive]
    exact ((moveLink_moved (c := c) (l := .down)
      (s := (s.mapIntake c fun k => { tearFrame k with lock := false }).mapIntake c fun k => { k with stall := none })
      (by simpa [State.mapIntake, tearFrame_fields] using h)).of_mapIntake).of_mapIntake

/-- In DOWN a loss of lock changes the camera's intake alone. -/
theorem loseLock_down {c : Camera} {s : State} (h : (s.intake.get c).link = .down) :
    KeepsBut [.intake] s (loseLock c s) := by
  have hlive : (s.intake.get c).link ≠ .live := by rw [h]; decide
  unfold loseLock
  rw [if_neg hlive, moveLink_same (by simp [State.mapIntake, tearFrame_fields, h])]
  exact (mapIntake_keeps s c _).chain (mapIntake_keeps _ c _)

/-- What changes the slots of one camera but not their pictures keeps all memory. -/
theorem MemoryKept.of_link {c : Camera} {k : CameraIntake} {s t : State}
    (hk : KeepsBut [.intake, .motion, .compositor, .incident, .ports] s t)
    (hst : t.compositor.store = s.compositor.store) (hi : t.intake = s.intake.set c k)
    (hp : ∀ i, (k.slots.get i).picture = ((s.intake.get c).slots.get i).picture) : MemoryKept s t :=
  .of_camera (hk .flash (by decide)) (hk .loaded (by decide)) hst (.of_set hi)
    fun i => by rw [hi, Quad.get_set_same]; exact hp i

/-! ## Lock gained -/

theorem sendCommand_eq (k : CameraIntake) :
    sendCommand k =
      { k with
        sendBuffer := none
        sentGain := if k.sendBuffer.isSome then k.sendBuffer else k.sentGain } := by
  unfold sendCommand
  split
  next h =>
    rw [h]
    rcases k with ⟨⟩
    cases h
    rfl
  next g h => simp [h]

theorem gainLock_intake (c : Camera) (s : State) :
    (gainLock c s).intake = s.intake.set c
      { sendCommand { s.intake.get c with lock := true } with
        link := if (s.intake.get c).link = .down then .search else (s.intake.get c).link } := by
  unfold gainLock
  split
  next => simp [State.mapIntake]
  next => simp [State.mapIntake, sendCommand_eq]

theorem gainLock_keeps (c : Camera) (s : State) :
    KeepsBut [.intake, .compositor, .incident, .ports] s (gainLock c s) := by
  unfold gainLock
  split
  next => exact (mapIntake_keeps s c _).chain (moveLink_keeps c .search _)
  next => exact (mapIntake_keeps s c _).mono (by decide)

theorem gainLock_moved {c : Camera} {s : State} (h : (s.intake.get c).link = .down) :
    LinkMoved c .search [] s (gainLock c s) := by
  rw [gainLock, if_pos h]
  exact (moveLink_moved (c := c) (l := .search) (s := s.mapIntake c fun k => sendCommand { k with lock := true })
    (by simp [State.mapIntake, sendCommand_link, h])).of_mapIntake

theorem gainLock_up {c : Camera} {s : State} (h : (s.intake.get c).link ≠ .down) :
    KeepsBut [.intake] s (gainLock c s) := by
  rw [gainLock, if_neg h]
  exact mapIntake_keeps s c _

/-- Settles O1. -/
theorem lockEventsMoveTheLink : Obligations.LockEventsMoveTheLink := by
  refine ⟨fun c s => ⟨loseLock c s, rfl, ?_⟩, fun c s => ⟨gainLock c s, rfl, ?_⟩⟩
  · have hi := loseLock_intake c s
    have hk := loseLock_keeps c s
    have hslots : ((loseLock c s).intake.get c).slots = (tearFrame (s.intake.get c)).slots := by
      rw [hi, Quad.get_set_same]
      rfl
    have hmemory : (loseLock c s).compositor.store = s.compositor.store → MemoryKept s (loseLock c s) := fun h =>
      .of_link hk h hi (tearFrame_freed _).picture
    refine ⟨?_, hslots ▸ tearFrame_freed _, .of_set hi, loseLock_motion c s, ?_⟩
    · rw [hslots, hi, Quad.get_set_same, unlocked, tearFrame_only]
      simp
    by_cases hdown : (s.intake.get c).link = .down
    · have hsame := loseLock_down hdown
      have hcomp : (loseLock c s).compositor = s.compositor := hsame .compositor (by decide)
      have hports : (loseLock c s).ports = s.ports := hsame .ports (by decide)
      simp only [hdown, if_true, reduceCtorEq, false_and, if_false]
      exact ⟨hsame .incident (by decide), hcomp, .of_ports hports, .of_ports hports, hmemory (by rw [hcomp]), hk⟩
    · obtain ⟨hrecord, harms, honly, hraised⟩ := loseLock_moved hdown
      rw [if_neg hdown, if_neg hdown]
      exact ⟨hrecord, harms, honly, hraised, hmemory harms.store, hk⟩
  · have hi := gainLock_intake c s
    have hk := gainLock_keeps c s
    have hmemory : (gainLock c s).compositor.store = s.compositor.store → MemoryKept s (gainLock c s) := fun h =>
      .of_link (hk.mono (by decide)) h hi fun i => by rw [sendCommand_eq]
    refine ⟨by rw [hi, Quad.get_set_same, sendCommand_eq], .of_set hi, ?_⟩
    by_cases hdown : (s.intake.get c).link = .down
    · obtain ⟨hrecord, harms, honly, hraised⟩ := gainLock_moved hdown
      rw [if_pos hdown, if_pos hdown]
      exact ⟨hrecord, harms, honly, hraised, hmemory harms.store, hk⟩
    · have hsame := gainLock_up hdown
      have hcomp : (gainLock c s).compositor = s.compositor := hsame .compositor (by decide)
      have hports : (gainLock c s).ports = s.ports := hsame .ports (by decide)
      rw [if_neg hdown, if_neg hdown]
      exact ⟨hsame .incident (by decide), hcomp, .of_ports hports, .of_ports hports, hmemory (by rw [hcomp]), hk⟩

/-! ## Frame starts (O3) -/

theorem takeSlot_free {now : Word} {k : CameraIntake} {i : Fin 3} (h : freeSlot k.slots = some i) :
    takeSlot now k = { k with slots := k.slots.set i { k.slots.get i with state := .filling } } := by
  simp only [takeSlot, h]

theorem takeSlot_ready {now : Word} {k : CameraIntake} {i : Fin 3} (h : freeSlot k.slots = none)
    (hr : oldestReady now k.slots = some i) :
    takeSlot now k =
      { k with
        slots := k.slots.set i { k.slots.get i with state := .filling }
        dropped := if k.inUse then satAdd k.dropped 1 else k.dropped } := by
  simp only [takeSlot, h, hr]

theorem takeSlot_none {now : Word} {k : CameraIntake} (h : freeSlot k.slots = none) (hr : oldestReady now k.slots = none) :
    takeSlot now k = k := by
  simp only [takeSlot, h, hr]

theorem takeSlot_picture (now : Word) (k : CameraIntake) (i : Fin 3) :
    ((takeSlot now k).slots.get i).picture = (k.slots.get i).picture := by
  rcases takeSlot_slots now k with h | ⟨j, h⟩ <;> rw [h]
  rw [Trio.get_set]
  split
  next e => rw [e]
  next => rfl

/-- Settles O3. -/
theorem cameraFrameStartTakesASlot : Obligations.CameraFrameStartTakesASlot := by
  intro c s
  refine ⟨startCameraFrame c s, rfl, ?_⟩
  by_cases hdown : (s.intake.get c).link = .down
  · have hsame : startCameraFrame c s = s := if_pos hdown
    rw [hsame]
    exact ⟨fun _ => rfl, fun h => absurd hdown h, fun _ _ => rfl, fun _ _ _ => rfl, .refl _ s⟩
  have hstart : startCameraFrame c s = s.mapIntake c fun k => takeSlot s.ms (tearFrame k) := if_neg hdown
  have hc : (startCameraFrame c s).intake.get c = takeSlot s.ms (tearFrame (s.intake.get c)) := by
    rw [hstart]
    exact Quad.get_set_same _ _ _
  have hother : OtherCameras c s (startCameraFrame c s) := .of_set (by rw [hstart]; rfl)
  refine ⟨fun h => absurd h hdown, fun _ => ⟨(tearFrame (s.intake.get c)).slots, tearFrame_freed _, ?_⟩, hother,
    fun d i a => ?_, hstart ▸ mapIntake_keeps s c _⟩
  · have hdropped : (tearFrame (s.intake.get c)).dropped = (s.intake.get c).dropped := by rw [tearFrame_only]
    have huse : (tearFrame (s.intake.get c)).inUse = (s.intake.get c).inUse := by rw [tearFrame_only]
    rw [hc, ← hdropped, ← huse]
    have honly : takeSlot s.ms (tearFrame (s.intake.get c)) =
        { s.intake.get c with
          slots := (takeSlot s.ms (tearFrame (s.intake.get c))).slots
          dropped := (takeSlot s.ms (tearFrame (s.intake.get c))).dropped
          torn := (tearFrame (s.intake.get c)).torn } := by
      have htorn := tearFrame_only (s.intake.get c)
      conv => lhs; rw [takeSlot_only]
      generalize takeSlot s.ms (tearFrame (s.intake.get c)) = r
      generalize tearFrame (s.intake.get c) = k at htorn ⊢
      rw [htorn]
    rw [tearFrame_torn] at honly
    generalize tearFrame (s.intake.get c) = k at honly ⊢
    have hready := oldestReady_spec s.ms k.slots
    rcases freeSlot_spec k.slots with ⟨hnone, hno⟩ | ⟨i, hsome, hfree, hfirst⟩
    · refine ⟨fun i hi => absurd hi (hno i), fun _ hex => ?_, fun hneither => ?_, honly⟩
      · cases hr : oldestReady s.ms k.slots with
        | none =>
          rw [hr] at hready
          obtain ⟨j, hj⟩ := hex
          exact absurd hj (hready j)
        | some i =>
          rw [hr] at hready
          rw [takeSlot_ready hnone hr]
          exact ⟨i, hready.1, hready.2, rfl, rfl⟩
      · cases hr : oldestReady s.ms k.slots with
        | none =>
          rw [takeSlot_none hnone hr]
          exact ⟨rfl, rfl⟩
        | some i =>
          rw [hr] at hready
          exact absurd hready.1 (hneither i).2
    · rw [takeSlot_free hsome] at honly ⊢
      refine ⟨fun j hj hjfirst => ?_, fun h => absurd hfree (h i), fun h => absurd hfree (h i).1, honly⟩
      obtain rfl : j = i :=
        Fin.le_antisymm (Fin.not_lt.mp fun h => hjfirst i h hfree) (Fin.not_lt.mp fun h => hfirst j h hj)
      exact ⟨rfl, rfl⟩
  · by_cases hd : d = c
    · rw [hd, hc, takeSlot_picture, (tearFrame_freed _).picture]
    · rw [hother d hd]

/-! ## Headers (O4, O5) -/

theorem recordHeader_only (h : Header) (k : CameraIntake) :
    recordHeader h k = { k with header := some h, episode := false, slots := (recordHeader h k).slots } := by
  unfold recordHeader
  dsimp only
  split <;> rfl

theorem recordHeader_dropped (h : Header) (k : CameraIntake) : (recordHeader h k).dropped = k.dropped := by
  rw [recordHeader_only]

theorem recordHeader_slots (h : Header) (k : CameraIntake) (i : Fin 3) :
    (recordHeader h k).slots.get i =
      if fillingSlot k.slots = some i then { k.slots.get i with gain := h.gain } else k.slots.get i := by
  unfold recordHeader
  dsimp only
  split
  next hn => rw [hn, if_neg (by simp)]
  next j hj =>
    dsimp only
    rw [hj, Trio.get_set]
    by_cases hij : i = j
    · rw [if_pos hij, if_pos (by rw [hij]), hij]
    · rw [if_neg hij, if_neg fun e => hij (Option.some.inj e).symm]

theorem acceptHeader_search {c : Camera} {h : Header} {s : State} (hl : (s.intake.get c).link = .search) :
    acceptHeader c h s = enterLive c (s.mapIntake c (recordHeader h)) := by
  simp only [acceptHeader, hl]

theorem acceptHeader_tracked {c : Camera} {h : Header} {s : State} (hs : (s.intake.get c).link ≠ .search)
    (hd : (s.intake.get c).link ≠ .down) :
    acceptHeader c h s =
      s.mapIntake c fun k => recordHeader h { k with dropped := checkSequence k h.sequence } := by
  unfold acceptHeader
  dsimp only
  split
  next e => exact absurd e hd
  next e => exact absurd e hs
  next => rfl
  next => rfl

/-- Settles O4. -/
theorem headerWithTheRightNumberIsAccepted : Obligations.HeaderWithTheRightNumberIsAccepted := by
  intro c number sequence gain s hnumber hdown
  have hexec : exec (.headerArrival c number sequence gain) s = .next (acceptHeader c ⟨number, sequence, gain⟩ s) := by
    show Host.Outcome.next (takeHeader c _ s) = _
    rw [takeHeader, if_neg hdown, if_pos hnumber]
  refine ⟨_, hexec, ?_⟩
  by_cases hsearch : (s.intake.get c).link = .search
  · have hlink : ((s.mapIntake c (recordHeader ⟨number, sequence, gain⟩)).intake.get c).link ≠ .live := by
      rw [State.mapIntake, Quad.get_set_same, recordHeader_only]
      exact fun h => by cases hsearch.symm.trans h
    have hmoved := (enterLive_moved hlink).of_mapIntake
    have hi : (acceptHeader c ⟨number, sequence, gain⟩ s).intake = s.intake.set c
        { recordHeader ⟨number, sequence, gain⟩ (s.intake.get c) with
          link := .live, stall := some s.ms, lost := .stopped } := by
      rw [acceptHeader_search hsearch, enterLive_intake]
      simp [State.mapIntake]
    have hk : KeepsBut [.intake, .compositor, .incident, .ports] s (acceptHeader c ⟨number, sequence, gain⟩ s) := by
      rw [acceptHeader_search hsearch]
      exact (mapIntake_keeps s c _).chain (enterLive_keeps c _)
    have hpicture : ∀ i, ((recordHeader ⟨number, sequence, gain⟩ (s.intake.get c)).slots.get i).picture =
        ((s.intake.get c).slots.get i).picture := fun i => by
      rw [recordHeader_slots]
      split <;> rfl
    rw [← acceptHeader_search hsearch] at hmoved
    obtain ⟨hrecord, harms, honly, hraised⟩ := hmoved
    simp only [hsearch, if_true, ne_eq, not_true_eq_false, false_and, if_false, true_and]
    refine ⟨?_, ?_, ?_, .of_set hi, hrecord, harms, honly, hraised,
      .of_link (hk.mono (by decide)) harms.store hi hpicture, hk⟩
    · rw [hi, Quad.get_set_same]
      dsimp only
      rw [recordHeader_dropped]
      conv => lhs; rw [recordHeader_only]
    · intro i
      rw [hi, Quad.get_set_same]
      exact recordHeader_slots _ _ i
    · rw [hi, Quad.get_set_same, recordHeader_only]
      split <;> rfl
  · have ht := acceptHeader_tracked (h := ⟨number, sequence, gain⟩) hsearch hdown
    have hi : (acceptHeader c ⟨number, sequence, gain⟩ s).intake = s.intake.set c
        (recordHeader ⟨number, sequence, gain⟩
          { s.intake.get c with dropped := checkSequence (s.intake.get c) sequence }) := by
      rw [ht]
      rfl
    have hk : KeepsBut [.intake] s (acceptHeader c ⟨number, sequence, gain⟩ s) := ht ▸ mapIntake_keeps s c _
    have hcomp : (acceptHeader c ⟨number, sequence, gain⟩ s).compositor = s.compositor := hk .compositor (by decide)
    have hports : (acceptHeader c ⟨number, sequence, gain⟩ s).ports = s.ports := hk .ports (by decide)
    simp only [hsearch, if_false, ne_eq, not_false_eq_true, true_and, false_and]
    refine ⟨?_, ?_, ?_, .of_set hi, hk .incident (by decide), hcomp, .of_ports hports, .of_ports hports,
      .of_link (hk.mono (by decide)) (by rw [hcomp]) hi fun i => ?_, hk.mono (by decide)⟩
    · rw [hi, Quad.get_set_same]
      conv => lhs; rw [recordHeader_only]
      conv => rhs; rw [recordHeader_only]
    · intro i
      rw [hi, Quad.get_set_same]
      exact recordHeader_slots _ _ i
    · rw [hi, Quad.get_set_same, recordHeader_only]
      unfold checkSequence sequenceGap
      rfl
    · rw [recordHeader_slots]
      split <;> rfl

/-- The camera at an identity mismatch: its FILLING slot freed, the mismatch counted, the episode in progress. -/
def mismatched (k : CameraIntake) : CameraIntake :=
  { freeFilling k with mismatch := satAdd k.mismatch 1, episode := true }

/-- The state at an identity mismatch before CAMERA_MISMATCH is raised. -/
def afterMismatch (c : Camera) (s : State) : State :=
  match (s.intake.get c).link with
  | .live => leaveLive c .search (s.mapIntake c mismatched)
  | .stalled => moveLink c .search (s.mapIntake c mismatched)
  | .search => s.mapIntake c mismatched
  | .down => s.mapIntake c mismatched

theorem mismatchHeader_eq (c : Camera) (s : State) :
    mismatchHeader c s =
      if (s.intake.get c).episode then afterMismatch c s else intakeNotice .cameraMismatch (afterMismatch c s) := rfl

theorem mismatched_link (k : CameraIntake) : (mismatched k).link = k.link := (freeFilling_fields k).1

theorem afterMismatch_intake {c : Camera} {s : State} (hd : (s.intake.get c).link ≠ .down) :
    (afterMismatch c s).intake = s.intake.set c
      { mismatched (s.intake.get c) with
        link := .search
        stall := if (s.intake.get c).link = .live then none else (s.intake.get c).stall
        lost := if (s.intake.get c).link = .live then .running s.ms else (s.intake.get c).lost } := by
  obtain ⟨hlink, hstall, hlost⟩ := freeFilling_fields (s.intake.get c)
  unfold afterMismatch
  split
  next h => simp [State.mapIntake, h]
  next h => simp [State.mapIntake, mismatched, h, hstall, hlost]
  next h =>
    simp only [h, reduceCtorEq, if_false]
    rw [← hstall, ← hlost, ← h, ← hlink]
    rfl
  next h => exact absurd h hd

theorem afterMismatch_keeps (c : Camera) (s : State) :
    KeepsBut [.intake, .motion, .compositor, .incident, .ports] s (afterMismatch c s) := by
  unfold afterMismatch
  split
  next => exact (mapIntake_keeps s c _).chain (leaveLive_keeps c .search _)
  next => exact (mapIntake_keeps s c _).chain (moveLink_keeps c .search _)
  next => exact (mapIntake_keeps s c _).mono (by decide)
  next => exact (mapIntake_keeps s c _).mono (by decide)

theorem afterMismatch_motion (c : Camera) (s : State) :
    (afterMismatch c s).motion = if (s.intake.get c).link = .live then resetCells c s.motion else s.motion := by
  unfold afterMismatch
  split
  next h => simp [h]
  next h => simp [h]
  next h => simp [h]
  next h => simp [h]

/-- A mismatch moves a LIVE and a STALLED link. -/
theorem afterMismatch_moved {c : Camera} {s : State} (hs : (s.intake.get c).link ≠ .search)
    (hd : (s.intake.get c).link ≠ .down) :
    LinkMoved c .search (if (s.intake.get c).link = .live ∧ s.mode ≠ .starting then [.cameraLost] else []) s
      (afterMismatch c s) := by
  have hlink : ((s.mapIntake c mismatched).intake.get c).link ≠ .search := by
    rwa [State.mapIntake, Quad.get_set_same, mismatched_link]
  cases h : (s.intake.get c).link with
  | live =>
    simp only [afterMismatch, h]
    rw [ite_and_eq_ite_ite, if_pos trivial]
    exact (leaveLive_moved hlink).of_mapIntake
  | stalled =>
    simp only [afterMismatch, h]
    rw [if_neg (by simp)]
    exact (moveLink_moved hlink).of_mapIntake
  | search => exact absurd h hs
  | down => exact absurd h hd

theorem afterMismatch_search {c : Camera} {s : State} (h : (s.intake.get c).link = .search) :
    KeepsBut [.intake] s (afterMismatch c s) := by
  simp only [afterMismatch, h]
  exact mapIntake_keeps s c _

/-- Settles O5. -/
theorem headerWithAWrongNumberIsAMismatch : Obligations.HeaderWithAWrongNumberIsAMismatch := by
  intro c number sequence gain s
  refine ⟨takeHeader c ⟨number, sequence, gain⟩ s, rfl, fun h => if_pos h, fun hnumber hdown => ?_⟩
  have ht : takeHeader c ⟨number, sequence, gain⟩ s =
      if (s.intake.get c).episode then afterMismatch c s else intakeNotice .cameraMismatch (afterMismatch c s) := by
    rw [takeHeader, if_neg hdown, if_neg hnumber, mismatchHeader_eq]
  have hk := afterMismatch_keeps c s
  have hmode : (afterMismatch c s).mode = s.mode := congrArg Loader.mode (hk .loader (by decide))
  have hloaded : (afterMismatch c s).loaded = s.loaded := hk .loaded (by decide)
  -- what the notice of the episode leaves alone
  have hnotice : KeepsBut [.ports] (afterMismatch c s) (takeHeader c ⟨number, sequence, gain⟩ s) ∧
      NoticesOnly (afterMismatch c s) (takeHeader c ⟨number, sequence, gain⟩ s) ∧
      NoticesRaised (if (s.intake.get c).episode = false ∧ s.mode ≠ .starting then [.cameraMismatch] else [])
        (afterMismatch c s) (takeHeader c ⟨number, sequence, gain⟩ s) := by
    rw [ht, ite_and_eq_ite_ite]
    split
    next h =>
      rw [if_neg (by simp [h])]
      exact ⟨.refl _ _, .refl _, .refl _⟩
    next h =>
      rw [if_pos (by simpa using h), ← hmode]
      exact ⟨intakeNotice_keeps _ _, intakeNotice_ports _ _⟩
  obtain ⟨hsame, honly, hraised⟩ := hnotice
  generalize takeHeader c ⟨number, sequence, gain⟩ s = t at hsame honly hraised
  have hi : t.intake = _ := (hsame .intake (by decide)).trans (afterMismatch_intake hdown)
  have hkeeps : KeepsBut [.intake, .motion, .compositor, .incident, .ports] s t := hk.chain hsame
  have hcomp : t.compositor = (afterMismatch c s).compositor := hsame .compositor (by decide)
  have hincident : t.incident = (afterMismatch c s).incident := hsame .incident (by decide)
  have hmotion : t.motion = (afterMismatch c s).motion := hsame .motion (by decide)
  have hmemory : t.compositor.store = s.compositor.store → MemoryKept s t := fun h =>
    .of_link hkeeps h hi (freeFilling_freed _).picture
  refine ⟨?_, ?_, .of_set hi, hmotion.trans (afterMismatch_motion c s), ?_⟩
  · rw [hi, Quad.get_set_same, mismatched, freeFilling_only]
  · rw [hi, Quad.get_set_same]
    exact freeFilling_freed _
  by_cases hsearch : (s.intake.get c).link = .search
  · have hk1 := afterMismatch_search hsearch
    have hcomp1 : t.compositor = s.compositor := hcomp.trans (hk1 .compositor (by decide))
    have hports : (afterMismatch c s).ports = s.ports := hk1 .ports (by decide)
    rw [if_pos hsearch, if_pos hsearch]
    refine ⟨hincident.trans (hk1 .incident (by decide)), hcomp1, (NoticesOnly.of_ports hports).trans honly, ?_,
      hmemory (by rw [hcomp1]), hkeeps⟩
    rw [if_neg (by simp [hsearch])]
    exact (NoticesRaised.of_ports hports).trans hraised (by rw [hloaded])
  · obtain ⟨hrecord, harms, honly1, hraised1⟩ := afterMismatch_moved hsearch hdown
    have harms1 : ArmsFollow readsCamera s t :=
      harms.congr rfl rfl hcomp (by rw [hsame .intake (by decide)]) (hsame .exposure (by decide)) (hsame .alert (by decide))
    rw [if_neg hsearch, if_neg hsearch]
    exact ⟨hincident.trans hrecord, harms1, honly1.trans honly, hraised1.trans hraised (by rw [hloaded]),
      hmemory harms1.store, hkeeps⟩

/-! ## The link timers (O7) -/

theorem timerDue_some {now since : Word} {limit : Nat} :
    timerDue now (some since) limit = true ↔ limit ≤ (now - since).toNat := by
  rw [timerDue, elapsed, decide_eq_true_iff]

theorem lostDue_running {now since : Word} : lostDue now (.running since) = true ↔ 3000 ≤ (now - since).toNat :=
  timerDue_some

/-- Settles O7. -/
theorem linkTimersExpire : Obligations.LinkTimersExpire := by
  intro c s
  have hstay : lostDue s.ms (s.intake.get c).lost ≠ true → exec (.lostTimerExpiry c) s = .next s := fun h => if_neg h
  refine ⟨fun since hlive hstall hdue => ⟨leaveLive c .stalled s, ?_, ?_⟩, fun since hlost hdue => ?_,
    fun since hlost hdue => hstay ?_, fun hlost => hstay ?_⟩
  · exact if_pos ⟨hlive, by rw [hstall]; exact timerDue_some.mpr hdue⟩
  · have hlink : (s.intake.get c).link ≠ .stalled := by rw [hlive]; decide
    obtain ⟨hrecord, harms, honly, hraised⟩ := leaveLive_moved hlink
    have hi := leaveLive_intake c .stalled s
    have hk := leaveLive_keeps c .stalled s
    exact ⟨by rw [hi, Quad.get_set_same], .of_set hi, leaveLive_motion c _ s, hrecord, harms, honly, hraised,
      .of_link hk harms.store hi fun _ => rfl, hk⟩
  · exact if_pos (by rw [hlost]; exact lostDue_running.mpr hdue)
  · rw [hlost, ne_eq, lostDue_running]
    omega
  · rcases hlost with h | h <;> rw [h] <;> exact Bool.false_ne_true

end Sys2Proof.Machine
end

section
/-! PROOFS. The statistics of a frame over its metering windows (O8). -/

namespace Sys2Proof.Machine

theorem sumNat_eq_sum (l : List Nat) : sumNat l = l.sum := List.sum_eq_foldl.symm

/-- A sum of terms that are at most `b` each. -/
theorem sum_map_le {α : Type} {l : List α} {f : α → Nat} {b : Nat} (h : ∀ x ∈ l, f x ≤ b) :
    (l.map f).sum ≤ l.length * b := by
  induction l with
  | nil => exact Nat.zero_le _
  | cons x l ih =>
    obtain ⟨hx, hl⟩ := List.forall_mem_cons.mp h
    have hrest := ih hl
    simp only [List.map_cons, List.sum_cons, List.length_cons, Nat.succ_mul]
    omega

/-- The sum of indicators is a count. -/
theorem sum_map_ite {α : Type} (l : List α) (p : α → Prop) [DecidablePred p] :
    (l.map fun x => if p x then 1 else 0).sum = l.countP fun x => decide (p x) := by
  induction l with
  | nil => rfl
  | cons x l ih =>
    simp only [List.map_cons, List.sum_cons, ih, List.countP_cons, decide_eq_true_eq]
    omega

/-! ## One window -/

theorem lumaAt_le (picture : List (Nat × Pixel)) (u v : Nat) : lumaAt picture u v ≤ 255 :=
  Nat.lt_succ_iff.mp (sparseRead blankPixel picture (v * 1280 + u)).y.isLt

theorem windowMean_eq (picture : List (Nat × Pixel)) (u v : Nat) :
    windowMean picture u v =
      ((List.range 16).map fun j => ((List.range 16).map fun i => lumaAt picture (u + i) (v + j)).sum).sum / 256 := by
  simp only [windowMean, blockSum, sumNat_eq_sum]

theorem windowMean_le (picture : List (Nat × Pixel)) (u v : Nat) : windowMean picture u v ≤ 255 := by
  rw [windowMean_eq]
  have hrow : ∀ j, ((List.range 16).map fun i => lumaAt picture (u + i) (v + j)).sum ≤ 16 * 255 := fun j => by
    simpa using sum_map_le (l := List.range 16) (b := 255) fun i _ => lumaAt_le picture (u + i) (v + j)
  have := sum_map_le (l := List.range 16) fun j _ => hrow j
  simp only [List.length_range] at this
  omega

theorem natAbs_sub_eq (a b : Nat) : ((a : Int) - b).natAbs = max a b - min a b := by omega

theorem gradientSum_eq (picture : List (Nat × Pixel)) (u v : Nat) :
    gradientSum picture u v =
      ((List.range 16).map fun j => ((List.range 15).map fun i =>
        max (lumaAt picture (u + i + 1) (v + j)) (lumaAt picture (u + i) (v + j)) -
          min (lumaAt picture (u + i + 1) (v + j)) (lumaAt picture (u + i) (v + j))).sum).sum := by
  simp only [gradientSum, sumNat_eq_sum, natAbs_sub_eq]

theorem sharpness_le (picture : List (Nat × Pixel)) (u v : Nat) : gradientSum picture u v / 240 ≤ 255 := by
  rw [gradientSum_eq]
  have hstep : ∀ j i, max (lumaAt picture (u + i + 1) (v + j)) (lumaAt picture (u + i) (v + j)) -
      min (lumaAt picture (u + i + 1) (v + j)) (lumaAt picture (u + i) (v + j)) ≤ 255 := fun j i =>
    Nat.le_trans (Nat.sub_le _ _) (Nat.max_le.mpr ⟨lumaAt_le _ _ _, lumaAt_le _ _ _⟩)
  have hrow := fun j => sum_map_le (l := List.range 15) fun i _ => hstep j i
  have := sum_map_le (l := List.range 16) fun j _ => hrow j
  simp only [List.length_range] at this
  omega

theorem clipCount_eq (picture : List (Nat × Pixel)) (u v : Nat) :
    clipCount picture u v =
      ((List.range 16).map fun j =>
        (List.range 16).countP fun i => decide (250 ≤ lumaAt picture (u + i) (v + j))).sum := by
  simp only [clipCount, sumNat_eq_sum, sum_map_ite]

theorem clipCount_le (picture : List (Nat × Pixel)) (u v : Nat) : clipCount picture u v ≤ 256 := by
  rw [clipCount_eq]
  have := sum_map_le (l := List.range 16) (b := 16) fun j _ =>
    Nat.le_trans (List.countP_le_length (p := fun i => decide (250 ≤ lumaAt picture (u + i) (v + j))))
      (Nat.le_of_eq List.length_range)
  simpa using this

/-! ## All windows -/

theorem meterMean_eq (picture : List (Nat × Pixel)) (ws : List Window) :
    meterMean picture ws =
      ((ws.map fun w => w.weight * windowMean picture w.u w.v).sum + (ws.map Window.weight).sum / 2) /
        (ws.map Window.weight).sum := by
  simp only [meterMean, sumNat_eq_sum]

theorem meterSharpness_eq (picture : List (Nat × Pixel)) (ws : List Window) :
    meterSharpness picture ws =
      ((ws.map fun w => gradientSum picture w.u w.v / 240).sum + ws.length / 2) / ws.length := by
  simp only [meterSharpness, sumNat_eq_sum]

theorem meterClip_eq (picture : List (Nat × Pixel)) (ws : List Window) :
    meterClip picture ws = 256 * (ws.map fun w => clipCount picture w.u w.v).sum / (256 * ws.length) := by
  simp only [meterClip, sumNat_eq_sum]

/-- A rounded mean of values up to `b` is at most `b`. -/
theorem roundedMean_le {sum total b : Nat} (h : sum ≤ total * b) : (sum + total / 2) / total ≤ b := by
  rcases Nat.eq_zero_or_pos total with rfl | hpos
  · simp
  · refine Nat.lt_succ_iff.mp ((Nat.div_lt_iff_lt_mul hpos).mpr ?_)
    have : b.succ * total = total * b + total := by rw [Nat.succ_mul, Nat.mul_comm]
    omega

theorem meterMean_le (picture : List (Nat × Pixel)) (ws : List Window) : meterMean picture ws ≤ 255 := by
  rw [meterMean_eq]
  refine roundedMean_le ?_
  induction ws with
  | nil => exact Nat.le_refl 0
  | cons w ws ih =>
    simp only [List.map_cons, List.sum_cons, Nat.add_mul]
    exact Nat.add_le_add (Nat.mul_le_mul_left _ (windowMean_le _ _ _)) ih

theorem meterSharpness_le (picture : List (Nat × Pixel)) (ws : List Window) : meterSharpness picture ws ≤ 255 := by
  rw [meterSharpness_eq]
  exact roundedMean_le (sum_map_le fun w _ => sharpness_le _ _ _)

theorem meterClip_le (picture : List (Nat × Pixel)) (ws : List Window) : meterClip picture ws ≤ 256 := by
  rw [meterClip_eq]
  have := sum_map_le (l := ws) (f := fun w => clipCount picture w.u w.v) fun w _ => clipCount_le _ _ _
  refine Nat.div_le_of_le_mul ?_
  calc 256 * (ws.map fun w => clipCount picture w.u w.v).sum ≤ 256 * (ws.length * 256) := Nat.mul_le_mul_left _ this
    _ = 256 * ws.length * 256 := (Nat.mul_assoc _ _ _).symm

/-! ## The windows of a camera -/

/-- The whole-frame grid, window by window. -/
theorem gridWindows_eq : gridWindows = (List.range 160).map fun n => ⟨80 * (n % 16) + 32, 80 * (n / 16) + 32, 1⟩ := by
  decide

theorem inActiveZone_iff (zones : List Zone) (activity : ZoneSet) (x y : Int) :
    inActiveZone zones activity x y = true ↔
      ∃ z ∈ zones, activity.getLsbD z.index.val = true ∧ z.xMin ≤ x ∧ x ≤ z.xMax ∧ z.yMin ≤ y ∧ y ≤ z.yMax := by
  simp only [inActiveZone, List.any_eq_true, zoneContains, Bool.and_eq_true, decide_eq_true_eq, and_assoc]

/-- Settles O8. -/
theorem frameStatisticsFollowTheWindows : Obligations.FrameStatisticsFollowTheWindows := by
  intro picture zones activity cells luma mean sharp clipped weight stats
  have hmean : ∀ u v, windowMean picture u v = mean u v := windowMean_eq picture
  have hsharp : ∀ u v, gradientSum picture u v / 240 = sharp u v := fun u v =>
    congrArg (· / 240) (gradientSum_eq picture u v)
  have hclip : ∀ u v, clipCount picture u v = clipped u v := clipCount_eq picture
  refine ⟨fun hnone => ?_, fun hsome => ?_, meterMean_le _ _, meterSharpness_le _ _, meterClip_le _ _⟩
  · have hws : meteringWindows zones activity cells =
        (List.range 160).map fun n => ⟨80 * (n % 16) + 32, 80 * (n / 16) + 32, 1⟩ := by
      rw [hnone]
      exact gridWindows_eq
    simp only [stats, frameStats, hws, meterMean_eq, meterSharpness_eq, meterClip_eq, hmean, hsharp, hclip,
      List.map_map, Function.comp_def, List.length_map, List.length_range, Nat.one_mul, List.map_const',
      List.sum_replicate_nat, Nat.mul_one, and_self]
  · have hws : meteringWindows zones activity cells = cells.map (cellWindow zones activity) := by
      unfold meteringWindows
      split
      next => exact absurd rfl hsome
      next => rfl
    have hweight : ∀ k : MotionCell, (cellWindow zones activity k).weight = weight k.x k.y := fun k =>
      ite_congr (propext (inActiveZone_iff zones activity k.x k.y)) (fun _ => rfl) fun _ => rfl
    simp only [stats, frameStats, hws, meterMean_eq, meterSharpness_eq, meterClip_eq, hmean, hsharp, hclip,
      List.map_map, Function.comp_def, List.length_map, hweight]
    exact ⟨rfl, rfl, rfl⟩

end Sys2Proof.Machine
end

section
/-! PROOFS. Frame completions and the handover: the slot and the link, the gain command, the watch sets (O6, O10, O11). -/

namespace Sys2Proof.Machine

/-! ## The exposure record after stages 1 to 4 -/

theorem checkCommand_only (applied : Gain) (e : Exposure) :
    (checkCommand applied e).record =
      { e with
        gain := (checkCommand applied e).record.gain
        inFlight := (checkCommand applied e).record.inFlight
        gainMismatch := (checkCommand applied e).record.gainMismatch } := by
  unfold checkCommand
  split
  next => rfl
  next => (repeat' split) <;> rfl

/-- The exposure record after stages 1 to 3. -/
def gainStage (s : State) (c : Camera) (applied : Gain) (stats : Stats) : Exposure :=
  let k := checkCommand applied { s.exposure.get c with stats := some stats }
  if k.update then updateGain (s.loaded.targets.get c) stats.m (s.exposure.get c).condition k.record else k.record

theorem gainStage_only (s : State) (c : Camera) (applied : Gain) (stats : Stats) :
    gainStage s c applied stats =
      { s.exposure.get c with
        stats := some stats
        gain := (gainStage s c applied stats).gain
        inFlight := (gainStage s c applied stats).inFlight
        balance := (gainStage s c applied stats).balance
        gainMismatch := (gainStage s c applied stats).gainMismatch } := by
  have hcheck := checkCommand_only applied { s.exposure.get c with stats := some stats }
  unfold gainStage
  dsimp only
  generalize checkCommand applied { s.exposure.get c with stats := some stats } = k at hcheck ⊢
  split
  next =>
    have hupdate := updateGain_frame (s.loaded.targets.get c) stats.m (s.exposure.get c).condition k.record
    generalize updateGain (s.loaded.targets.get c) stats.m (s.exposure.get c).condition k.record = e at hupdate ⊢
    generalize k.record = r at hcheck hupdate
    rw [hupdate, hcheck]
  next =>
    generalize k.record = r at hcheck ⊢
    rw [hcheck]

theorem gainStage_stats (s : State) (c : Camera) (applied : Gain) (stats : Stats) :
    (gainStage s c applied stats).stats = some stats := by rw [gainStage_only]

theorem gainStage_watch (s : State) (c : Camera) (applied : Gain) (stats : Stats) :
    (gainStage s c applied stats).watch = (s.exposure.get c).watch := by rw [gainStage_only]

theorem gainStage_condition (s : State) (c : Camera) (applied : Gain) (stats : Stats) :
    (gainStage s c applied stats).condition = (s.exposure.get c).condition := by rw [gainStage_only]

section Stage

variable {s : State} {c : Camera} {applied : Gain} {stats : Stats} {k : GainCommand}

theorem gainStage_of_none (h : (s.exposure.get c).inFlight = none) :
    gainStage s c applied stats = updateGain (s.loaded.targets.get c) stats.m (s.exposure.get c).condition
      { s.exposure.get c with stats := some stats, gain := applied } := by
  simp [gainStage, checkCommand, h]

theorem gainStage_of_answered (h : (s.exposure.get c).inFlight = some k) (hk : k.index = applied) :
    gainStage s c applied stats = updateGain (s.loaded.targets.get c) stats.m (s.exposure.get c).condition
      { s.exposure.get c with stats := some stats, inFlight := none } := by
  simp [gainStage, checkCommand, h, hk]

theorem gainStage_of_waiting (h : (s.exposure.get c).inFlight = some k) (hk : k.index ≠ applied) (hw : k.waits + 1 < 6) :
    gainStage s c applied stats =
      { s.exposure.get c with stats := some stats, inFlight := some ⟨k.index, k.waits + 1⟩ } := by
  simp [gainStage, checkCommand, h, hk, hw]

theorem gainStage_of_abandoned (h : (s.exposure.get c).inFlight = some k) (hk : k.index ≠ applied) (hw : 6 ≤ k.waits + 1) :
    gainStage s c applied stats =
      { s.exposure.get c with
        stats := some stats
        gain := applied
        inFlight := none
        gainMismatch := satAdd (s.exposure.get c).gainMismatch 1 } := by
  simp [gainStage, checkCommand, h, hk, Nat.not_lt.mpr hw]

end Stage

/-- The fields that stage 3 writes depend on those alone. -/
theorem updateGain_congr {T m : Nat} {condition : Condition} {e f : Exposure} (hg : e.gain = f.gain)
    (hb : e.balance = f.balance) (hi : e.inFlight = f.inFlight) (hm : e.gainMismatch = f.gainMismatch) :
    (updateGain T m condition e).gain = (updateGain T m condition f).gain ∧
      (updateGain T m condition e).inFlight = (updateGain T m condition f).inFlight ∧
      (updateGain T m condition e).balance = (updateGain T m condition f).balance ∧
      (updateGain T m condition e).gainMismatch = f.gainMismatch := by
  have hgain : (updateGain T m condition e).gain = (updateGain T m condition f).gain := by
    rw [updateGain_gain, updateGain_gain, wantedGain, wantedGain, hg]
  exact ⟨hgain, by rw [updateGain_inFlight, updateGain_inFlight, hgain, hg, hi],
    by rw [updateGain_balance, updateGain_balance, hg, hb], by rw [updateGain_frame, hm]⟩

/-- What the check of the command in flight makes of the gain (R41, R42, R43). -/
def GainChecked (T m : Nat) (applied : Gain) (e f : Exposure) : Prop :=
  let updated := updateGain T m e.condition
    { e with gain := if e.inFlight = none then applied else e.gain, inFlight := none }
  match e.inFlight with
  | none =>
    f.gain = updated.gain ∧ f.inFlight = updated.inFlight ∧ f.balance = updated.balance ∧ f.gainMismatch = e.gainMismatch
  | some k =>
    (k.index = applied →
      f.gain = updated.gain ∧ f.inFlight = updated.inFlight ∧ f.balance = updated.balance ∧
        f.gainMismatch = e.gainMismatch) ∧
    (k.index ≠ applied → k.waits + 1 < 6 →
      f.gain = e.gain ∧ f.inFlight = some ⟨k.index, k.waits + 1⟩ ∧ f.balance = e.balance ∧
        f.gainMismatch = e.gainMismatch) ∧
    (k.index ≠ applied → 6 ≤ k.waits + 1 →
      f.gain = applied ∧ f.inFlight = none ∧ f.balance = e.balance ∧ f.gainMismatch = satAdd e.gainMismatch 1)

theorem gainStage_checked (s : State) (c : Camera) (applied : Gain) (stats : Stats) :
    GainChecked (s.loaded.targets.get c) stats.m applied (s.exposure.get c) (gainStage s c applied stats) := by
  unfold GainChecked
  cases hk : (s.exposure.get c).inFlight with
  | none =>
    rw [gainStage_of_none hk]
    exact updateGain_congr rfl rfl hk rfl
  | some k =>
    refine ⟨fun h => ?_, fun h hwaits => ?_, fun h hwaits => ?_⟩
    · rw [gainStage_of_answered hk h]
      exact updateGain_congr rfl rfl rfl rfl
    · rw [gainStage_of_waiting hk h hwaits]
      exact ⟨rfl, rfl, rfl, rfl⟩
    · rw [gainStage_of_abandoned hk h hwaits]
      exact ⟨rfl, rfl, rfl, rfl⟩

/-! ## The condition (stage 5) -/

theorem conditionOf_eq (sets : Quad WatchSet) (x : Quad WatchState) :
    conditionOf sets x =
      if watchAsserted (x.get 0) then (sets.get 0).action
      else if watchAsserted (x.get 1) then (sets.get 1).action
      else if watchAsserted (x.get 2) then (sets.get 2).action
      else if watchAsserted (x.get 3) then (sets.get 3).action
      else .normal := rfl

theorem conditionOf_first {sets : Quad WatchSet} {x : Quad WatchState} {w : Fin 4} (h : watchAsserted (x.get w) = true)
    (hfirst : ∀ v, v < w → watchAsserted (x.get v) = false) : conditionOf sets x = (sets.get w).action := by
  have hno : ∀ v, v < w → ¬ watchAsserted (x.get v) = true := fun v hv => by rw [hfirst v hv]; exact Bool.false_ne_true
  rw [conditionOf_eq]
  match w with
  | 0 => exact if_pos h
  | 1 => rw [if_neg (hno 0 (by decide)), if_pos h]
  | 2 => rw [if_neg (hno 0 (by decide)), if_neg (hno 1 (by decide)), if_pos h]
  | 3 => rw [if_neg (hno 0 (by decide)), if_neg (hno 1 (by decide)), if_neg (hno 2 (by decide)), if_pos h]

theorem conditionOf_none {sets : Quad WatchSet} {x : Quad WatchState} (h : ∀ w, watchAsserted (x.get w) = false) :
    conditionOf sets x = .normal := by
  have hno : ∀ v, ¬ watchAsserted (x.get v) = true := fun v => by rw [h v]; exact Bool.false_ne_true
  rw [conditionOf_eq, if_neg (hno 0), if_neg (hno 1), if_neg (hno 2), if_neg (hno 3)]

/-- The notices of a change of condition, in the order in which they are raised (R50). -/
def conditionKinds (old new : Condition) : List NoticeKind :=
  (if old ≠ .obscured ∧ new = .obscured then [.lensObscured] else []) ++
    (if old = .obscured ∧ new ≠ .obscured then [.lensClear] else []) ++
    (if old ≠ .lowLight ∧ new = .lowLight then [.lowLightOn] else [])

theorem conditionKinds_same (x : Condition) : conditionKinds x x = [] := by cases x <;> rfl

theorem raiseIf_keeps (b : Bool) (k : NoticeKind) (s : State) : KeepsBut [.ports] s (raiseIf b k s) := by
  unfold raiseIf
  split
  next => exact raiseNotice_keeps k s
  next => exact .refl _ s

theorem raiseIf_ports (p : Prop) [Decidable p] (k : NoticeKind) (s : State) :
    NoticesOnly s (raiseIf (decide p) k s) ∧ NoticesRaised (if p then [k] else []) s (raiseIf (decide p) k s) := by
  by_cases h : p
  · simp only [raiseIf, h, decide_true, if_true]
    exact ⟨raiseNotice_noticesOnly k s, raiseNotice_raised k s⟩
  · simp only [raiseIf, h, decide_false, if_false]
    exact ⟨.refl s, .refl s⟩

theorem conditionNotices_keeps (old new : Condition) (s : State) : KeepsBut [.ports] s (conditionNotices old new s) :=
  ((raiseIf_keeps _ _ s).chain (raiseIf_keeps _ _ _) (cs := [.ports])).chain (raiseIf_keeps _ _ _)

theorem conditionNotices_ports (old new : Condition) (s : State) :
    NoticesOnly s (conditionNotices old new s) ∧ NoticesRaised (conditionKinds old new) s (conditionNotices old new s) := by
  have hloaded : ∀ {b : Bool} {k : NoticeKind} {u : State}, (raiseIf b k u).loaded.ports = u.loaded.ports := fun {b k u} =>
    congrArg Loaded.ports (raiseIf_keeps b k u .loaded (by decide))
  have h1 := raiseIf_ports (old ≠ .obscured ∧ new = .obscured) .lensObscured s
  have h2 := raiseIf_ports (old = .obscured ∧ new ≠ .obscured) .lensClear
    (raiseIf (decide (old ≠ .obscured ∧ new = .obscured)) .lensObscured s)
  have h3 := raiseIf_ports (old ≠ .lowLight ∧ new = .lowLight) .lowLightOn
    (raiseIf (decide (old = .obscured ∧ new ≠ .obscured)) .lensClear
      (raiseIf (decide (old ≠ .obscured ∧ new = .obscured)) .lensObscured s))
  exact ⟨(h1.1.trans h2.1).trans h3.1, (h1.2.trans h2.2 hloaded).trans h3.2 (hloaded.trans hloaded)⟩

/-- The condition that stage 5 computes. -/
def newCondition (c : Camera) (s : State) : Condition := conditionOf s.loaded.watchSets (s.exposure.get c).watch

theorem recomputeCondition_keeps (c : Camera) (s : State) :
    KeepsBut [.exposure, .compositor, .incident, .ports] s (recomputeCondition c s) := by
  unfold recomputeCondition
  dsimp only
  split
  next => exact .refl _ s
  next =>
    exact (((mapExposure_keeps s c _).chain (rearm_keeps _ _) (cs := [.exposure, .compositor])).chain
      (conditionNotices_keeps _ _ _) (cs := [.exposure, .compositor, .ports])).chain (offerRecord_keeps _ _)

theorem recomputeCondition_exposure (c : Camera) (s : State) :
    (recomputeCondition c s).exposure = s.exposure.set c { s.exposure.get c with condition := newCondition c s } := by
  unfold recomputeCondition
  dsimp only
  split
  next h =>
    rw [show newCondition c s = (s.exposure.get c).condition from h]
    exact (Quad.set_get _ _).symm
  next =>
    rw [offerRecord_exposure, conditionNotices_keeps _ _ _ .exposure (by decide), rearm_exposure]
    rfl

theorem recomputeCondition_same {c : Camera} {s : State} (h : newCondition c s = (s.exposure.get c).condition) :
    recomputeCondition c s = s := if_pos h

/-- A change of the condition offers its record and raises its notices. -/
theorem recomputeCondition_moved {c : Camera} {s : State} (h : newCondition c s ≠ (s.exposure.get c).condition) :
    CameraMoved (.condition c (s.intake.get c).link (newCondition c s))
      (conditionKinds (s.exposure.get c).condition (newCondition c s)) s (recomputeCondition c s) := by
  have hk := recomputeCondition_keeps c s
  let u := rearm readsCamera (s.mapExposure c fun e => { e with condition := newCondition c s })
  let v := conditionNotices (s.exposure.get c).condition (newCondition c s) u
  have hkv : KeepsBut [.exposure, .compositor, .ports] s v :=
    ((mapExposure_keeps s c _).chain (rearm_keeps _ _) (cs := [.exposure, .compositor])).chain
      (conditionNotices_keeps _ _ _)
  have hkuv : KeepsBut [.ports] u v := conditionNotices_keeps _ _ _
  have hlink : (v.intake.get c).link = (s.intake.get c).link := by rw [hkv .intake (by decide)]
  have ht : recomputeCondition c s = offerRecord (.condition c (s.intake.get c).link (newCondition c s)) v := by
    rw [← hlink]
    exact if_neg h
  have hnotices := conditionNotices_ports (s.exposure.get c).condition (newCondition c s) u
  have hrecord := offerRecord_ports (.condition c (s.intake.get c).link (newCondition c s)) v
  have hku : KeepsBut [.exposure, .compositor] s u := (mapExposure_keeps s c _).chain (rearm_keeps _ _)
  have hports : u.ports = s.ports := hku .ports (by decide)
  have hloaded : v.loaded = s.loaded := hkv .loaded (by decide)
  have harms : ArmsFollow readsCamera s u := rearm_armsFollow readsCamera (s.mapExposure c _)
  rw [ht]
  refine ⟨offerRecord_incident_congr ?_ ?_ ?_ ?_ ?_ ?_ ?_ ?_, ?_, ((NoticesOnly.of_ports hports).trans hnotices.1).trans hrecord.1, ?_⟩
  · rw [hkv .loader (by decide)]
  · rw [hloaded]
  · exact hkv .incident (by decide)
  · exact hkv .frame (by decide)
  · exact hkv .ms (by decide)
  · exact hkv .alert (by decide)
  · rw [hkv .arbiter (by decide)]
  · rw [hkv .tracker (by decide)]
  · refine harms.congr rfl rfl ?_ ?_ ?_ ?_
    · rw [offerRecord_compositor, hkuv .compositor (by decide)]
    · rw [offerRecord_intake, hkuv .intake (by decide)]
    · rw [offerRecord_exposure, hkuv .exposure (by decide)]
    · rw [offerRecord_alert, hkuv .alert (by decide)]
  · have h1 : NoticesRaised (conditionKinds (s.exposure.get c).condition (newCondition c s)) s v :=
      (NoticesRaised.of_ports hports).trans hnotices.2 (by rw [hku .loaded (by decide)])
    simpa using h1.trans hrecord.2 (by rw [hloaded])

/-! ## The handover -/

theorem CameraMoved.of_before {r : EventRecord} {ks : List NoticeKind} {s u t : State} (h : CameraMoved r ks u t)
    (hk : KeepsBut [.intake, .exposure, .motion] s u) : CameraMoved r ks s t where
  record := h.record.trans (offerRecord_incident_congr (by rw [hk .loader (by decide)]) (by rw [hk .loaded (by decide)])
    (hk .incident (by decide)) (hk .frame (by decide)) (hk .ms (by decide)) (hk .alert (by decide))
    (by rw [hk .arbiter (by decide)]) (by rw [hk .tracker (by decide)]))
  arms := h.arms.congr (hk .compositor (by decide)).symm (hk .loader (by decide)).symm rfl rfl rfl rfl
  only := (NoticesOnly.of_ports (hk .ports (by decide))).trans h.only
  raised := (NoticesRaised.of_ports (hk .ports (by decide))).trans h.raised (by rw [hk .loaded (by decide)])

theorem CameraMoved.of_after {r : EventRecord} {ks : List NoticeKind} {s u t : State} (h : CameraMoved r ks s u)
    (hk : KeepsBut [.motion, .tracker] u t) : CameraMoved r ks s t := by
  have hports : t.ports = u.ports := hk .ports (by decide)
  refine ⟨(hk .incident (by decide)).trans h.record, h.arms.congr rfl rfl (hk .compositor (by decide))
    (by rw [hk .intake (by decide)]) (hk .exposure (by decide)) (hk .alert (by decide)), ?_, ?_⟩
  · exact h.only.trans (.of_ports hports)
  · intro m k hm
    rw [hports]
    exact h.raised m k hm

/-- The statistics that a handover of camera `c` takes (R36). -/
def handoverStats (c : Camera) (picture : List (Nat × Pixel)) (s : State) : Stats :=
  frameStats picture (meteringWindows s.loaded.zones s.alert.activity (cellsOf c s.motion))

/-- The camera after stages 1 to 4, a command issued being sent or waiting (R31). -/
def exposed (c : Camera) (applied : Gain) (stats : Stats) (s : State) : State :=
  let e := exposeFrame s c applied stats
  if commandIssued applied (s.exposure.get c) e then
    (s.mapExposure c fun _ => e).mapIntake c (placeCommand e.gain)
  else s.mapExposure c fun _ => e

theorem exposed_keeps (c : Camera) (applied : Gain) (stats : Stats) (s : State) :
    KeepsBut [.intake, .exposure] s (exposed c applied stats s) := by
  unfold exposed
  dsimp only
  split
  next => exact (mapExposure_keeps s c _).chain (mapIntake_keeps _ c _)
  next => exact (mapExposure_keeps s c _).mono (by decide)

theorem exposed_intake (c : Camera) (applied : Gain) (stats : Stats) (s : State) :
    (exposed c applied stats s).intake = s.intake.set c
      (if commandIssued applied (s.exposure.get c) (exposeFrame s c applied stats) then
        placeCommand (exposeFrame s c applied stats).gain (s.intake.get c)
      else s.intake.get c) := by
  unfold exposed
  dsimp only
  split
  next => rfl
  next => exact (Quad.set_get _ _).symm

theorem exposed_exposure (c : Camera) (applied : Gain) (stats : Stats) (s : State) :
    (exposed c applied stats s).exposure = s.exposure.set c (exposeFrame s c applied stats) := by
  unfold exposed
  dsimp only
  split <;> rfl

theorem placeCommand_link (g : Gain) (k : CameraIntake) : (placeCommand g k).link = k.link := by
  unfold placeCommand
  dsimp only
  split
  next => rfl
  next => exact sendCommand_link _

theorem exposed_link (c : Camera) (applied : Gain) (stats : Stats) (s : State) :
    ((exposed c applied stats s).intake.get c).link = (s.intake.get c).link := by
  rw [exposed_intake, Quad.get_set_same]
  split
  next => exact placeCommand_link _ _
  next => rfl

/-- What a handover of camera `c` does from `s` to `t`, outside STARTING (R29, R31, R35, R50). -/
structure HandedOver (c : Camera) (applied : Gain) (picture : List (Nat × Pixel)) (s t : State) : Prop where
  intake : t.intake = s.intake.set c
    (if commandIssued applied (s.exposure.get c) (exposeFrame s c applied (handoverStats c picture s)) then
      placeCommand (exposeFrame s c applied (handoverStats c picture s)).gain (s.intake.get c)
    else s.intake.get c)
  exposure : t.exposure = s.exposure.set c
    { exposeFrame s c applied (handoverStats c picture s) with
      condition := conditionOf s.loaded.watchSets (exposeFrame s c applied (handoverStats c picture s)).watch }
  motion : t.motion = (motionHandover c applied picture (s.exposure.get c).condition s).motion
  tracker : t.tracker = (motionHandover c applied picture (s.exposure.get c).condition s).tracker
  keeps : KeepsBut [.intake, .exposure, .motion, .tracker, .compositor, .incident, .ports] s t
  stands : (t.exposure.get c).condition = (s.exposure.get c).condition →
    KeepsBut [.intake, .exposure, .motion, .tracker] s t
  moves : (t.exposure.get c).condition ≠ (s.exposure.get c).condition →
    CameraMoved (.condition c (s.intake.get c).link (t.exposure.get c).condition)
      (conditionKinds (s.exposure.get c).condition (t.exposure.get c).condition) s t

theorem handOver_handedOver {c : Camera} {applied : Gain} {picture : List (Nat × Pixel)} {s : State}
    (hmode : s.mode ≠ .starting) : HandedOver c applied picture s (handOver c applied picture s) := by
  let stats := handoverStats c picture s
  let u := exposed c applied stats s
  let v := recomputeCondition c u
  have ht : handOver c applied picture s = motionHandover c applied picture (s.exposure.get c).condition v := if_neg hmode
  have hsu : KeepsBut [.intake, .exposure] s u := exposed_keeps c applied stats s
  have huv : KeepsBut [.exposure, .compositor, .incident, .ports] u v := recomputeCondition_keeps c u
  have hvt : KeepsBut [.motion, .tracker] v (handOver c applied picture s) := ht ▸ motionHandover_keeps c applied picture _ v
  have hloaded : u.loaded = s.loaded := hsu .loaded (by decide)
  have hexposed : u.exposure.get c = exposeFrame s c applied stats := by
    rw [show u.exposure = _ from exposed_exposure c applied stats s, Quad.get_set_same]
  have hold : (u.exposure.get c).condition = (s.exposure.get c).condition := by
    rw [hexposed]
    exact gainStage_condition s c applied stats
  have hexposure : (handOver c applied picture s).exposure = s.exposure.set c
      { exposeFrame s c applied stats with
        condition := conditionOf s.loaded.watchSets (exposeFrame s c applied stats).watch } := by
    rw [show (handOver c applied picture s).exposure = v.exposure from hvt .exposure (by decide),
      show v.exposure = _ from recomputeCondition_exposure c u, newCondition, hexposed, hloaded,
      show u.exposure = _ from exposed_exposure c applied stats s, Quad.set_set]
  have hnew : ((handOver c applied picture s).exposure.get c).condition = newCondition c u := by
    rw [hexposure, Quad.get_set_same, newCondition, hexposed, hloaded]
  have hmotion : v.motion = s.motion := (huv .motion (by decide)).trans (hsu .motion (by decide))
  have htracker : v.tracker = s.tracker := (huv .tracker (by decide)).trans (hsu .tracker (by decide))
  refine ⟨?_, hexposure, ?_, ?_, (hsu.chain huv (cs := [.intake, .exposure, .compositor, .incident, .ports])).chain hvt,
    fun h => ?_, fun h => ?_⟩
  · exact ((hvt .intake (by decide)).trans (huv .intake (by decide))).trans (exposed_intake c applied stats s)
  · rw [ht]
    simp only [motionHandover, hmotion]
  · rw [ht]
    simp only [motionHandover, hmotion, htracker]
  · rw [hnew, ← hold] at h
    have hv : v = u := recomputeCondition_same h
    rw [hv] at hvt
    exact hsu.chain hvt
  · rw [hnew, ← hold] at h
    have hmoved := ((recomputeCondition_moved h).of_before (hsu.mono (by decide))).of_after hvt
    rw [show (u.intake.get c).link = (s.intake.get c).link from exposed_link c applied stats s, hold] at hmoved
    rw [hnew]
    exact hmoved

end Sys2Proof.Machine
end

section
/-! PROOFS. Frame completions: the slot, the gain command, the watch sets and the motion cells (O6, O10, O11, O13). -/

namespace Sys2Proof.Machine

/-! ## The slot and the link at a frame completion -/

/-- The state in which the frame in slot `i` is handed over: the slot READY, the link LIVE and its stall timer
restarted (R22, R28). -/
def readied (c : Camera) (i : Fin 3) (picture : List (Nat × Pixel)) (s : State) : State :=
  let s1 := s.mapIntake c (completeSlot s.ms picture i)
  if (s.intake.get c).link = .stalled then enterLive c s1 else s1.mapIntake c fun k => { k with stall := some s.ms }

/-- The camera whose frame in slot `i` is handed over. -/
def readiedCamera (now : Word) (picture : List (Nat × Pixel)) (i : Fin 3) (k : CameraIntake) : CameraIntake :=
  { completeSlot now picture i k with
    link := .live
    stall := some now
    lost := if k.link = .stalled then .stopped else k.lost }

section Completion

variable {c : Camera} {i : Fin 3} {picture : List (Nat × Pixel)} {s : State}

theorem completeFrame_up (h : (s.intake.get c).link = .live ∨ (s.intake.get c).link = .stalled) :
    completeFrame c i picture s = handOver c ((s.intake.get c).slots.get i).gain picture (readied c i picture s) := by
  rcases h with h | h <;> simp [completeFrame, readied, h]

theorem readied_intake (h : (s.intake.get c).link = .live ∨ (s.intake.get c).link = .stalled) :
    (readied c i picture s).intake = s.intake.set c (readiedCamera s.ms picture i (s.intake.get c)) := by
  unfold readied readiedCamera
  rcases h with h | h <;> simp [h, State.mapIntake, completeSlot]

theorem readied_keeps (c : Camera) (i : Fin 3) (picture : List (Nat × Pixel)) (s : State) :
    KeepsBut [.intake, .compositor, .incident, .ports] s (readied c i picture s) := by
  unfold readied
  split
  next => exact (mapIntake_keeps s c _).chain (enterLive_keeps c _)
  next => exact ((mapIntake_keeps s c _).chain (mapIntake_keeps _ c _) (cs := [.intake])).mono (by decide)

theorem readied_live (h : (s.intake.get c).link = .live) : KeepsBut [.intake] s (readied c i picture s) := by
  rw [readied, if_neg (by rw [h]; decide)]
  exact (mapIntake_keeps s c _).chain (mapIntake_keeps _ c _)

theorem readied_moved (h : (s.intake.get c).link = .stalled) :
    LinkMoved c .live (if s.mode ≠ .starting then [.cameraBack] else []) s (readied c i picture s) := by
  rw [readied, if_pos h]
  exact (enterLive_moved (c := c) (s := s.mapIntake c (completeSlot s.ms picture i))
    (by simp [State.mapIntake, completeSlot, h])).of_mapIntake

/-- Outside STARTING the frame of a LIVE or STALLED link is handed over. -/
theorem completeFrame_handedOver (h : (s.intake.get c).link = .live ∨ (s.intake.get c).link = .stalled)
    (hmode : s.mode ≠ .starting) :
    HandedOver c ((s.intake.get c).slots.get i).gain picture (readied c i picture s) (completeFrame c i picture s) := by
  rw [completeFrame_up h]
  refine handOver_handedOver ?_
  rwa [State.mode, readied_keeps c i picture s .loader (by decide)]

theorem handoverStats_readied : handoverStats c picture (readied c i picture s) = handoverStats c picture s := by
  have hk := readied_keeps c i picture s
  rw [handoverStats, hk .loaded (by decide), hk .alert (by decide), hk .motion (by decide)]
  rfl

theorem exposeFrame_readied {applied : Gain} {stats : Stats} :
    exposeFrame (readied c i picture s) c applied stats = exposeFrame s c applied stats := by
  have hk := readied_keeps c i picture s
  rw [exposeFrame, hk .loaded (by decide), hk .exposure (by decide)]
  rfl

end Completion

theorem exec_frameCompletion {c : Camera} {i : Fin 3} {s : State} (pixels : List (Nat × Pixel))
    (h : fillingSlot (s.intake.get c).slots = some i) :
    exec (.frameCompletion c pixels) s = .next (completeFrame c i (framePicture pixels) s) := by
  show execFrameCompletion c pixels s = _
  simp only [execFrameCompletion, h]

/-! ## What a frame completion leaves alone, in every state -/

theorem ArmsOnly.refl (s : State) : ArmsOnly s s := ⟨rfl, fun _ => rfl⟩

theorem ArmsOnly.of_compositor {s t : State} (h : t.compositor = s.compositor) : ArmsOnly s t :=
  ⟨by rw [h], fun g => by rw [h]⟩

theorem ArmsOnly.trans {s t u : State} (h : ArmsOnly s t) (k : ArmsOnly t u) : ArmsOnly s u :=
  ⟨by rw [k.1, h.1], fun g => by rw [k.2 g, h.2 g]⟩

theorem HandedOver.ports {c : Camera} {applied : Gain} {picture : List (Nat × Pixel)} {s t : State}
    (h : HandedOver c applied picture s t) : ArmsOnly s t ∧ NoticesOnly s t := by
  by_cases hc : (t.exposure.get c).condition = (s.exposure.get c).condition
  · exact ⟨.of_compositor (h.stands hc .compositor (by decide)), .of_ports (h.stands hc .ports (by decide))⟩
  · exact ⟨(h.moves hc).arms.only, (h.moves hc).only⟩

theorem readied_ports {c : Camera} {i : Fin 3} {picture : List (Nat × Pixel)} {s : State}
    (h : (s.intake.get c).link = .live ∨ (s.intake.get c).link = .stalled) :
    ArmsOnly s (readied c i picture s) ∧ NoticesOnly s (readied c i picture s) := by
  rcases h with h | h
  · exact ⟨.of_compositor (readied_live h .compositor (by decide)), .of_ports (readied_live h .ports (by decide))⟩
  · exact ⟨(readied_moved h).arms.only, (readied_moved h).only⟩

/-- A gain command moves the send buffer and what was sent alone. -/
theorem placeCommand_eq {g : Gain} {k : CameraIntake} (h : k.link ≠ .down) :
    placeCommand g k = { k with sendBuffer := none, sentGain := some g } := by
  unfold placeCommand
  dsimp only
  rw [if_neg h]
  rfl

/-- The camera after the completion of a frame of a link that is up. -/
theorem completeFrame_intake {c : Camera} {i : Fin 3} {picture : List (Nat × Pixel)} {s : State}
    (h : (s.intake.get c).link = .live ∨ (s.intake.get c).link = .stalled) :
    ∃ sendBuffer sentGain, (completeFrame c i picture s).intake =
      s.intake.set c
        { readiedCamera s.ms picture i (s.intake.get c) with sendBuffer := sendBuffer, sentGain := sentGain } := by
  by_cases hmode : s.mode = .starting
  · refine ⟨_, _, (congrArg State.intake ?_).trans (readied_intake h)⟩
    rw [completeFrame_up h]
    exact if_pos ((congrArg Loader.mode (readied_keeps c i picture s .loader (by decide))).trans hmode)
  · have ht := (completeFrame_handedOver (i := i) (picture := picture) h hmode).intake
    rw [readied_intake h, Quad.set_set, Quad.get_set_same] at ht
    rw [ht]
    split
    next => exact ⟨_, _, by rw [placeCommand_eq (by simp [readiedCamera])]⟩
    next => exact ⟨_, _, rfl⟩

/-- The last entry of a list at an address. -/
theorem lastWrite_eq {α : Type} (l : List (Nat × α)) (a : Nat) :
    lastWrite l a = ((l.filter fun p => decide (p.1 = a)).getLast?).map Prod.snd := by
  induction l with
  | nil => rfl
  | cons p l ih =>
    obtain ⟨k, v⟩ := p
    rw [lastWrite, ih]
    by_cases h : k = a
    · rw [List.filter_cons_of_pos (by simpa using h), List.getLast?_cons]
      cases (l.filter fun p => decide (p.1 = a)).getLast? with
      | none => simp [h]
      | some x => rfl
    · rw [List.filter_cons_of_neg (by simpa using h)]
      cases (l.filter fun p => decide (p.1 = a)).getLast? with
      | none => simp [h]
      | some x => rfl

/-- What a pixel of a completed frame reads as (log 8). -/
theorem sparseRead_framePicture (pixels : List (Nat × Pixel)) (a : Nat) :
    sparseRead blankPixel (framePicture pixels) a =
      if a < 1024000 then (((pixels.filter fun p => decide (p.1 = a)).getLast?).map Prod.snd).getD blankPixel
      else blankPixel := by
  rw [framePicture, sparseRead_writeAll rfl]
  split
  next h =>
    rw [lastWrite_eq, List.filter_filter]
    have hfilter : (fun p : Nat × Pixel => decide (p.1 = a) && decide (p.1 < 1024000)) = fun p => decide (p.1 = a) := by
      funext p
      by_cases hp : p.1 = a
      · simp [hp, h]
      · simp [hp]
    rw [hfilter]
    rfl
  next h =>
    rw [lastWrite_none]
    · rfl
    · intro p hp he
      rw [List.mem_filter, decide_eq_true_eq] at hp
      exact h (he ▸ hp.2)

/-- Settles O6. -/
theorem frameCompletionReadiesTheSlot : Obligations.FrameCompletionReadiesTheSlot := by
  intro c pixels s
  cases hfilling : fillingSlot (s.intake.get c).slots with
  | none =>
    refine ⟨s, ?_, fun _ => rfl, fun _ h => absurd h (by simp), fun _ _ => rfl, .refl s, .refl s, .refl _ s⟩
    show execFrameCompletion c pixels s = _
    simp only [execFrameCompletion, hfilling]
  | some i =>
    refine ⟨_, exec_frameCompletion pixels hfilling, ?_⟩
    have hframe : ∀ a, _ := sparseRead_framePicture pixels
    have hslots : ∀ j, j ≠ i → ((completeSlot s.ms (framePicture pixels) i (s.intake.get c)).slots.get j) =
        (s.intake.get c).slots.get j := fun j hj => Trio.get_set_other _ _ hj
    have hslot : (completeSlot s.ms (framePicture pixels) i (s.intake.get c)).slots.get i =
        { (s.intake.get c).slots.get i with state := .ready, doneMs := s.ms, picture := framePicture pixels } :=
      Trio.get_set_same _ _ _
    have hready : (completeSlot s.ms (framePicture pixels) i (s.intake.get c)).slots.get i =
        { (s.intake.get c).slots.get i with
          state := .ready
          doneMs := s.ms
          picture := ((completeSlot s.ms (framePicture pixels) i (s.intake.get c)).slots.get i).picture } := by
      rw [hslot]
    have hup : (s.intake.get c).link = .live ∨ (s.intake.get c).link = .stalled ∨ (s.intake.get c).link = .search ∨
        (s.intake.get c).link = .down := by
      cases (s.intake.get c).link <;> simp
    rw [← or_assoc] at hup
    rcases hup with hup | hsearch | hdown
    · have hdown : (s.intake.get c).link ≠ .down := by rcases hup with h | h <;> rw [h] <;> decide
      have hsearch : (s.intake.get c).link ≠ .search := by rcases hup with h | h <;> rw [h] <;> decide
      obtain ⟨x, y, hi⟩ := completeFrame_intake (i := i) (picture := framePicture pixels) hup
      have hports : ArmsOnly s (completeFrame c i (framePicture pixels) s) ∧
          NoticesOnly s (completeFrame c i (framePicture pixels) s) ∧
          KeepsBut [.intake, .exposure, .motion, .tracker, .compositor, .incident, .ports] s
            (completeFrame c i (framePicture pixels) s) := by
        have hr := readied_ports (i := i) (picture := framePicture pixels) hup
        have hrk := readied_keeps c i (framePicture pixels) s
        by_cases hmode : s.mode = .starting
        · have ht : completeFrame c i (framePicture pixels) s = readied c i (framePicture pixels) s := by
            rw [completeFrame_up hup]
            exact if_pos ((congrArg Loader.mode (hrk .loader (by decide))).trans hmode)
          rw [ht]
          exact ⟨hr.1, hr.2, hrk.mono (by decide)⟩
        · have ht := completeFrame_handedOver (i := i) (picture := framePicture pixels) hup hmode
          exact ⟨hr.1.trans ht.ports.1, hr.2.trans ht.ports.2, hrk.chain ht.keeps⟩
      refine ⟨fun h => ?_, fun j hj _ => ?_, .of_set hi, hports⟩
      · rcases h with h | h
        · cases h
        · exact absurd h hdown
      · obtain rfl := Option.some.inj hj
        rw [hi, Quad.get_set_same]
        refine ⟨?_, hslots, hready, fun a => ?_, fun h => absurd h hsearch⟩
        · rcases hup with h | h <;> simp [readiedCamera, completeSlot, h]
        · exact (congrArg (fun q => sparseRead blankPixel q.picture a) hslot).trans (hframe a)
    · have ht : completeFrame c i (framePicture pixels) s =
          s.mapIntake c (completeSlot s.ms (framePicture pixels) i) := by
        simp only [completeFrame, hsearch]
      have hk : KeepsBut [.intake] s (completeFrame c i (framePicture pixels) s) := ht ▸ mapIntake_keeps s c _
      have hi : (completeFrame c i (framePicture pixels) s).intake =
          s.intake.set c (completeSlot s.ms (framePicture pixels) i (s.intake.get c)) := by rw [ht]; rfl
      refine ⟨fun h => ?_, fun j hj _ => ?_, .of_set hi, .of_compositor (hk .compositor (by decide)),
        .of_ports (hk .ports (by decide)), hk.mono (by decide)⟩
      · rcases h with h | h
        · cases h
        · exact nomatch hsearch.symm.trans h
      · obtain rfl := Option.some.inj hj
        rw [hi, Quad.get_set_same]
        refine ⟨?_, hslots, hready, fun a => ?_, fun _ => hk⟩
        · simp [completeSlot, hsearch]
        · exact (congrArg (fun q => sparseRead blankPixel q.picture a) hslot).trans (hframe a)
    · have ht : completeFrame c i (framePicture pixels) s = s := by simp only [completeFrame, hdown]
      rw [ht]
      exact ⟨fun _ => rfl, fun _ _ h => absurd hdown h, fun _ _ => rfl, .refl s, .refl s, .refl _ s⟩

/-! ## The gain command and the watch sets at a handover -/

section Handover

variable {c : Camera} {i : Fin 3} {picture : List (Nat × Pixel)} {s : State}

/-- The exposure records after the completion of a frame that is handed over. -/
theorem completeFrame_exposure (h : (s.intake.get c).link = .live ∨ (s.intake.get c).link = .stalled)
    (hmode : s.mode ≠ .starting) :
    (completeFrame c i picture s).exposure = s.exposure.set c
      { exposeFrame s c ((s.intake.get c).slots.get i).gain (handoverStats c picture s) with
        condition := conditionOf s.loaded.watchSets
          (exposeFrame s c ((s.intake.get c).slots.get i).gain (handoverStats c picture s)).watch } := by
  have hk := readied_keeps c i picture s
  have ht := (completeFrame_handedOver (i := i) (picture := picture) h hmode).exposure
  rwa [exposeFrame_readied, handoverStats_readied, hk .exposure (by decide), hk .loaded (by decide)] at ht

/-- The gain command of a handover is sent at once (R31). -/
theorem completeFrame_command (h : (s.intake.get c).link = .live ∨ (s.intake.get c).link = .stalled)
    (hmode : s.mode ≠ .starting) :
    (completeFrame c i picture s).intake.get c =
      if commandIssued ((s.intake.get c).slots.get i).gain (s.exposure.get c)
          ((completeFrame c i picture s).exposure.get c) then
        { readiedCamera s.ms picture i (s.intake.get c) with
          sendBuffer := none
          sentGain := some ((completeFrame c i picture s).exposure.get c).gain }
      else readiedCamera s.ms picture i (s.intake.get c) := by
  have hk := readied_keeps c i picture s
  have ht := (completeFrame_handedOver (i := i) (picture := picture) h hmode).intake
  rw [exposeFrame_readied, handoverStats_readied, hk .exposure (by decide), readied_intake h, Quad.set_set,
    Quad.get_set_same, placeCommand_eq (by simp [readiedCamera])] at ht
  rw [completeFrame_exposure h hmode, ht, Quad.get_set_same, Quad.get_set_same]
  rfl

end Handover

/-- Settles O10. -/
theorem handoverChecksTheCommandInFlight : Obligations.HandoverChecksTheCommandInFlight := by
  intro c pixels i applied stats s hfilling hgain hup hmode hstats
  refine ⟨_, exec_frameCompletion pixels hfilling, ?_⟩
  have hexposure := completeFrame_exposure (i := i) (picture := framePicture pixels) hup hmode
  have hcommand := completeFrame_command (i := i) (picture := framePicture pixels) hup hmode
  have hkeeps := (readied_keeps c i (framePicture pixels) s).chain (completeFrame_handedOver hup hmode).keeps
    (cs := [.intake, .exposure, .motion, .tracker, .compositor, .incident, .ports])
  have he : (completeFrame c i (framePicture pixels) s).exposure.get c =
      { exposeFrame s c applied stats with
        condition := conditionOf s.loaded.watchSets (exposeFrame s c applied stats).watch } := by
    rw [hexposure, Quad.get_set_same, hgain, hstats]
    rfl
  rw [hgain] at hcommand
  refine ⟨?_, ?_, fun d hd => ?_, ?_, ?_, hkeeps⟩
  · rw [he]
    exact gainStage_stats s c applied stats
  · rw [he]
    exact gainStage_checked s c applied stats
  · rw [hexposure, Quad.get_set_other _ _ hd]
  · rw [hcommand]
    split <;> rfl
  · rw [hcommand]
    split <;> rfl

/-- The arms read no more of a camera than its link and its condition. -/
theorem armValue_of_conditions {s t : State} {x : ArmSource} (hi : ∀ c, (t.intake.get c).link = (s.intake.get c).link)
    (he : ∀ c, (t.exposure.get c).condition = (s.exposure.get c).condition) (ha : t.alert = s.alert) :
    armValue t x = armValue s x := by
  have hfaulty : ∀ c, cameraFaulty t c = cameraFaulty s c := fun c => by rw [cameraFaulty, cameraFaulty, hi, he]
  cases x <;> simp [armValue, hfaulty, ha]

theorem ArmsFollow.of_conditions {r : ArmSource → Bool} {s t u : State} (h : ArmsFollow r s t)
    (hc : u.compositor = t.compositor) (hi : ∀ c, (u.intake.get c).link = (t.intake.get c).link)
    (he : ∀ c, (u.exposure.get c).condition = (t.exposure.get c).condition) (ha : u.alert = t.alert) :
    ArmsFollow r s u := by
  obtain ⟨honly, hgenerators⟩ := h
  exact ⟨by rw [hc]; exact honly, fun g => by rw [hc, armValue_of_conditions hi he ha]; exact hgenerators g⟩

/-- The later of two recomputations of the same arms stands. -/
theorem ArmsFollow.trans {r : ArmSource → Bool} {s t u : State} (h : ArmsFollow r s t) (k : ArmsFollow r t u)
    (hm : t.mode = s.mode) : ArmsFollow r s u := by
  obtain ⟨h1, h2⟩ := h
  obtain ⟨k1, k2⟩ := k
  refine ⟨by rw [k1, h1], fun g => ?_⟩
  rw [k2 g, h2 g, hm]
  split <;> rfl

/-- Settles O11. -/
theorem handoverMovesTheWatchSets : Obligations.HandoverMovesTheWatchSets := by
  refine ⟨fun c pixels i s hfilling hup hmode => ⟨_, exec_frameCompletion pixels hfilling, ?_⟩, fun w q x => ?_⟩
  · have hexposure := completeFrame_exposure (i := i) (picture := framePicture pixels) hup hmode
    have hover := completeFrame_handedOver (i := i) (picture := framePicture pixels) hup hmode
    have hrk := readied_keeps c i (framePicture pixels) s
    have hold : ((readied c i (framePicture pixels) s).exposure.get c).condition = (s.exposure.get c).condition := by
      rw [hrk .exposure (by decide)]
    have hlink : ((readied c i (framePicture pixels) s).intake.get c).link = .live := by
      rw [readied_intake hup, Quad.get_set_same]
      rfl
    have hloaded : (readied c i (framePicture pixels) s).loaded = s.loaded := hrk .loaded (by decide)
    have hwatch : ((completeFrame c i (framePicture pixels) s).exposure.get c).watch =
        moveWatches s.loaded.watchSets (handoverStats c (framePicture pixels) s)
          ((completeFrame c i (framePicture pixels) s).exposure.get c).balance (s.exposure.get c).watch := by
      rw [hexposure, Quad.get_set_same]
      exact congrArg (moveWatches _ _ _) (gainStage_watch _ _ _ _)
    have hstats : ((completeFrame c i (framePicture pixels) s).exposure.get c).stats =
        some (handoverStats c (framePicture pixels) s) := by
      rw [hexposure, Quad.get_set_same]
      exact gainStage_stats _ _ _ _
    have hcondition : ((completeFrame c i (framePicture pixels) s).exposure.get c).condition =
        conditionOf s.loaded.watchSets ((completeFrame c i (framePicture pixels) s).exposure.get c).watch := by
      rw [hexposure, Quad.get_set_same]
    generalize completeFrame c i (framePicture pixels) s = t at *
    refine ⟨fun stats hs w => ?_, fun w h hfirst => hcondition.trans (conditionOf_first h hfirst),
      fun h => hcondition.trans (conditionOf_none h), ?_⟩
    · obtain rfl := Option.some.inj (hstats.symm.trans hs)
      rw [hwatch, moveWatches, Quad.get_mapIdx]
      rfl
    have hkinds : ∀ ks, NoticesRaised ks (readied c i (framePicture pixels) s) t →
        ks = conditionKinds (s.exposure.get c).condition (t.exposure.get c).condition →
        NoticesRaised
          ((if (s.intake.get c).link = .stalled then [.cameraBack] else []) ++
            conditionKinds (s.exposure.get c).condition (t.exposure.get c).condition) s t := by
      rintro ks hks rfl
      rcases hup with h | h
      · rw [if_neg (by rw [h]; decide)]
        exact (NoticesRaised.of_ports (readied_live h .ports (by decide))).trans hks (by rw [hloaded])
      · have hmoved := (readied_moved (i := i) (picture := framePicture pixels) h).raised
        rw [if_pos hmode] at hmoved
        rw [if_pos h]
        exact hmoved.trans hks (by rw [hloaded])
    have hassoc : ∀ a b c d : List NoticeKind, a ++ b ++ c ++ d = a ++ (b ++ c ++ d) := fun a b c d => by
      simp only [List.append_assoc]
    rw [hassoc]
    by_cases hsame : (t.exposure.get c).condition = (s.exposure.get c).condition
    · have hstands := hover.stands (hsame.trans hold.symm)
      refine ⟨hkinds [] (.of_ports (hstands .ports (by decide))) (by rw [hsame, conditionKinds_same]), ?_, ?_⟩
      · rcases hup with h | h
        · rw [if_pos ⟨h, hsame⟩, hstands .compositor (by decide), readied_live h .compositor (by decide)]
        · rw [if_neg fun e => by cases h.symm.trans e.1]
          have harms := (readied_moved (i := i) (picture := framePicture pixels) h).arms
          refine harms.of_conditions (hstands .compositor (by decide)) (fun d => ?_) (fun d => ?_)
            (hstands .alert (by decide))
          · rw [hover.intake, Quad.get_set]
            split
            next e =>
              rw [e]
              split
              next => exact placeCommand_link _ _
              next => rfl
            next => rfl
          · by_cases hd : d = c
            · rw [hd, hsame, hold]
            · rw [hexposure, Quad.get_set_other _ _ hd, hrk .exposure (by decide)]
      · rw [hstands .incident (by decide)]
        dsimp only
        rw [if_pos hsame]
        rcases hup with h | h
        · rw [if_neg (by rw [h]; decide), readied_live h .incident (by decide)]
        · rw [if_pos h, (readied_moved h).record]
    · have hmoved := hover.moves fun e => hsame (e.trans hold)
      rw [hlink, hold] at hmoved
      refine ⟨hkinds _ hmoved.raised rfl, ?_, ?_⟩
      · rw [if_neg fun e => hsame e.2]
        rcases hup with h | h
        · exact (hmoved.of_before ((readied_live h).mono (by decide))).arms
        · exact (readied_moved h).arms.trans hmoved.arms (congrArg Loader.mode (hrk .loader (by decide)))
      · dsimp only
        rw [if_neg hsame]
        rcases hup with h | h
        · rw [if_neg (by rw [h]; decide)]
          exact (hmoved.of_before ((readied_live h).mono (by decide))).record
        · rw [if_pos h, hmoved.record]
          refine offerRecord_incident_congr ?_ ?_ (readied_moved h).record ?_ ?_ ?_ ?_ ?_
          · rw [hrk .loader (by decide), offerRecord_loader]
          · rw [hloaded, offerRecord_loaded]
          · rw [hrk .frame (by decide), offerRecord_frame]
          · rw [hrk .ms (by decide), offerRecord_ms]
          · rw [hrk .alert (by decide), offerRecord_alert]
          · rw [hrk .arbiter (by decide), offerRecord_arbiter]
          · rw [hrk .tracker (by decide), offerRecord_tracker]
  · intro entry release
    have hentry : entryTest w q = true ↔ entry := by
      simp only [entry, entryTest]
      cases w.direction <;> exact decide_eq_true_iff
    have hrelease : releaseTest w q = true ↔ release := by
      simp only [release, releaseTest]
      cases w.direction <;> exact decide_eq_true_iff
    rw [← hentry, ← hrelease]
    refine ⟨?_, ?_, ?_, ?_, ?_, ?_, ?_, ?_⟩
    · rintro rfl h
      exact if_pos h
    · rintro rfl h
      exact if_neg h
    · rintro n rfl h
      exact if_pos h
    · rintro n rfl h
      exact if_neg h
    · rintro rfl h
      exact if_pos h
    · rintro rfl h
      exact if_neg h
    · rintro n rfl h
      exact if_pos h
    · rintro n rfl h
      exact if_neg h

end Sys2Proof.Machine
end

section
/-! PROOFS. The motion cells at a handover: scores, and the four cells that post (O13). -/

namespace Sys2Proof.Machine

/-! ## The posting order, with the cells' indices -/

/-- A cell with its index joins a list ordered by score, highest first, behind those of equal score. -/
def insertIndexed (p : MotionCell × Nat) : List (MotionCell × Nat) → List (MotionCell × Nat)
  | [] => [p]
  | q :: l => if q.1.score < p.1.score then p :: q :: l else q :: insertIndexed p l

theorem insertIndexed_map (p : MotionCell × Nat) (l : List (MotionCell × Nat)) :
    (insertIndexed p l).map Prod.fst = insertByScore p.1 (l.map Prod.fst) := by
  induction l with
  | nil => rfl
  | cons q l ih =>
    simp only [insertIndexed, insertByScore, List.map_cons]
    split
    next => rfl
    next => rw [List.map_cons, ih]

theorem mem_insertIndexed {p x : MotionCell × Nat} {l : List (MotionCell × Nat)} :
    x ∈ insertIndexed p l ↔ x = p ∨ x ∈ l := by
  induction l with
  | nil => simp [insertIndexed]
  | cons q l ih =>
    simp only [insertIndexed]
    split
    next => simp only [List.mem_cons]
    next =>
      simp only [List.mem_cons, ih]
      exact or_left_comm

/-- Whether a cell posts before another: the higher score, or the lower index among equals (R103). -/
def PostsBefore (a b : MotionCell × Nat) : Prop := b.1.score < a.1.score ∨ b.1.score = a.1.score ∧ a.2 < b.2

theorem PostsBefore.trans {a b c : MotionCell × Nat} (h : PostsBefore a b) (k : PostsBefore b c) : PostsBefore a c := by
  unfold PostsBefore at *
  omega

/-- A cell behind all others in index keeps the order. -/
theorem insertIndexed_pairwise {p : MotionCell × Nat} {l : List (MotionCell × Nat)} (h : l.Pairwise PostsBefore)
    (hlast : ∀ q ∈ l, q.2 < p.2) : (insertIndexed p l).Pairwise PostsBefore := by
  induction l with
  | nil => exact List.pairwise_singleton _ _
  | cons q l ih =>
    obtain ⟨hq, hl⟩ := List.pairwise_cons.mp h
    simp only [insertIndexed]
    split
    next hlt =>
      refine List.pairwise_cons.mpr ⟨fun x hx => ?_, h⟩
      rcases List.mem_cons.mp hx with rfl | hx
      · exact .inl hlt
      · exact PostsBefore.trans (.inl hlt) (hq x hx)
    next hge =>
      refine List.pairwise_cons.mpr ⟨fun x hx => ?_, ih hl fun y hy => hlast y (List.mem_cons_of_mem _ hy)⟩
      rcases mem_insertIndexed.mp hx with rfl | hx
      · have := hlast q List.mem_cons_self
        unfold PostsBefore
        omega
      · exact hq x hx

/-- The cells of a list with their indices, in posting order. -/
def postingOrder (l : List (MotionCell × Nat)) : List (MotionCell × Nat) := l.foldl (fun x p => insertIndexed p x) []

theorem foldl_insertIndexed_map (l x : List (MotionCell × Nat)) :
    (l.foldl (fun x p => insertIndexed p x) x).map Prod.fst =
      (l.map Prod.fst).foldl (fun x k => insertByScore k x) (x.map Prod.fst) := by
  induction l generalizing x with
  | nil => rfl
  | cons p l ih => rw [List.foldl_cons, ih, insertIndexed_map, List.map_cons, List.foldl_cons]

theorem postingOrder_map (l : List (MotionCell × Nat)) :
    (postingOrder l).map Prod.fst = (l.map Prod.fst).foldl (fun x k => insertByScore k x) [] :=
  foldl_insertIndexed_map l []

theorem mem_foldl_insertIndexed {p : MotionCell × Nat} (l x : List (MotionCell × Nat)) :
    p ∈ l.foldl (fun x p => insertIndexed p x) x ↔ p ∈ l ∨ p ∈ x := by
  induction l generalizing x with
  | nil => simp
  | cons q l ih =>
    rw [List.foldl_cons, ih, mem_insertIndexed, List.mem_cons, or_left_comm, or_assoc]

theorem mem_postingOrder {p : MotionCell × Nat} {l : List (MotionCell × Nat)} : p ∈ postingOrder l ↔ p ∈ l :=
  (mem_foldl_insertIndexed l []).trans (by simp)

theorem foldl_insertIndexed_pairwise {l x : List (MotionCell × Nat)} (hl : l.Pairwise fun p q => p.2 < q.2)
    (hx : x.Pairwise PostsBefore) (hlast : ∀ p ∈ x, ∀ q ∈ l, p.2 < q.2) :
    (l.foldl (fun x p => insertIndexed p x) x).Pairwise PostsBefore := by
  induction l generalizing x with
  | nil => exact hx
  | cons q l ih =>
    obtain ⟨hq, hl⟩ := List.pairwise_cons.mp hl
    refine ih hl (insertIndexed_pairwise hx fun p hp => hlast p hp q List.mem_cons_self) fun p hp r hr => ?_
    rcases mem_insertIndexed.mp hp with rfl | hp
    · exact hq r hr
    · exact hlast p hp r (List.mem_cons_of_mem _ hr)

theorem postingOrder_pairwise {l : List (MotionCell × Nat)} (hl : l.Pairwise fun p q => p.2 < q.2) :
    (postingOrder l).Pairwise PostsBefore :=
  foldl_insertIndexed_pairwise hl List.Pairwise.nil fun _ hp => absurd hp List.not_mem_nil

/-! ## The posting cells of a camera -/

/-- The active cells of camera `c` with their indices. -/
def activeIndexed (c : Camera) (cells : List MotionCell) : List (MotionCell × Nat) :=
  cells.zipIdx.filter fun p => decide (p.1.camera = c) && p.1.active

theorem activeIndexed_map (c : Camera) (cells : List MotionCell) :
    (activeIndexed c cells).map Prod.fst = (cells.filter fun k => decide (k.camera = c)).filter MotionCell.active := by
  rw [List.filter_filter, activeIndexed]
  conv => rhs; rw [← List.zipIdx_map_fst 0 cells, List.filter_map]
  congr 2
  funext p
  exact Bool.and_comm _ _

theorem mem_activeIndexed {c : Camera} {cells : List MotionCell} {k : MotionCell} {n : Nat} :
    (k, n) ∈ activeIndexed c cells ↔ cells[n]? = some k ∧ k.camera = c ∧ k.active = true := by
  rw [activeIndexed, List.mem_filter, List.mem_zipIdx_iff_getElem?]
  simp

theorem activeIndexed_pairwise (c : Camera) (cells : List MotionCell) :
    (activeIndexed c cells).Pairwise fun p q => p.2 < q.2 := by
  refine List.Pairwise.filter _ ?_
  rw [← List.pairwise_map (f := Prod.snd) (R := (· < ·)), List.zipIdx_map_snd]
  exact List.pairwise_lt_range'

/-- The posting cells of a camera are the first four in posting order, named by their indices. -/
theorem postingCells_indices (c : Camera) (cells : List MotionCell) :
    ((((postingOrder (activeIndexed c cells)).take 4).map Prod.snd).filterMap fun n => cells[n]?) =
      postingCells (cells.filter fun k => decide (k.camera = c)) := by
  rw [postingCells, ← activeIndexed_map, ← postingOrder_map, ← List.map_take]
  have hmem : ∀ p ∈ (postingOrder (activeIndexed c cells)).take 4, cells[p.2]? = some p.1 := fun p hp =>
    (mem_activeIndexed.mp (mem_postingOrder.mp (List.mem_of_mem_take hp))).1
  generalize (postingOrder (activeIndexed c cells)).take 4 = l at hmem
  induction l with
  | nil => rfl
  | cons p l ih =>
    obtain ⟨hp, hl⟩ := List.forall_mem_cons.mp hmem
    rw [List.map_cons, List.filterMap_cons_some hp, List.map_cons, ih hl]

/-- Joining the sightings of cells one after another, as R104 says. -/
theorem joinAll_cells (cells : List MotionCell) (t : Tracker) :
    joinAll (cells.map cellSighting) t = cells.foldl (fun q k =>
      if q.queue.length < 48 then { q with queue := q.queue ++ [⟨k.x, k.y, .motion⟩] }
      else { q with queue := q.queue.drop 1 ++ [⟨k.x, k.y, .motion⟩], discarded := satAdd q.discarded 1 }) t := by
  unfold joinAll
  rw [List.foldl_map]
  congr 1
  funext q k
  exact joinQueue_eq_ite _ _

/-! ## The handover -/

theorem handoverScored_iff (c : Camera) (applied : Gain) (m : Motion) :
    handoverScored c applied m = true ↔
      m.lastGain.get c = some applied ∧ ∀ x ∈ m.cells, x.camera = c → x.previous ≠ none := by
  simp only [handoverScored, cellsOf, Bool.and_eq_true, decide_eq_true_eq, List.all_eq_true, List.mem_filter,
    and_imp, Option.isSome_iff_ne_none]

/-- The cells of a motion block after a handover. -/
def handedCells (c : Camera) (applied : Gain) (picture : List (Nat × Pixel)) (condition : Condition) (m : Motion) :
    List MotionCell :=
  m.cells.map fun k =>
    if k.camera = c then (if handoverScored c applied m then scoreCell picture condition else referenceCell picture) k
    else k

theorem motionHandover_motion (c : Camera) (applied : Gain) (picture : List (Nat × Pixel)) (condition : Condition)
    (s : State) :
    (motionHandover c applied picture condition s).motion =
      ⟨handedCells c applied picture condition s.motion, s.motion.lastGain.set c (some applied)⟩ := rfl

theorem motionHandover_tracker (c : Camera) (applied : Gain) (picture : List (Nat × Pixel)) (condition : Condition)
    (s : State) :
    (motionHandover c applied picture condition s).tracker =
      joinAll (if handoverScored c applied s.motion = true ∧ condition ≠ .obscured then
        (postingCells ((handedCells c applied picture condition s.motion).filter fun k => decide (k.camera = c))).map
          cellSighting
      else []) s.tracker := rfl

theorem handedCells_getElem? {c : Camera} {applied : Gain} {picture : List (Nat × Pixel)} {condition : Condition}
    {m : Motion} {n : Nat} {k l : MotionCell} (hk : m.cells[n]? = some k)
    (hl : (handedCells c applied picture condition m)[n]? = some l) :
    l = if k.camera = c then
        (if handoverScored c applied m then scoreCell picture condition else referenceCell picture) k
      else k := by
  rw [handedCells, List.getElem?_map, hk] at hl
  exact (Option.some.inj hl).symm

/-- Settles O13. -/
theorem handoverScoresTheMotionCells : Obligations.HandoverScoresTheMotionCells := by
  intro c pixels i applied s hfilling hgain hup hmode
  refine ⟨_, exec_frameCompletion pixels hfilling, ?_⟩
  have hover := completeFrame_handedOver (i := i) (picture := framePicture pixels) hup hmode
  have hrk := readied_keeps c i (framePicture pixels) s
  have hmotion := hover.motion
  have htracker := hover.tracker
  rw [motionHandover_motion, hrk .motion (by decide), hrk .exposure (by decide), hgain] at hmotion
  rw [motionHandover_tracker, hrk .motion (by decide), hrk .exposure (by decide), hrk .tracker (by decide), hgain]
    at htracker
  generalize completeFrame c i (framePicture pixels) s = t at *
  have hscored := handoverScored_iff c applied s.motion
  have hunscored : (s.motion.lastGain.get c ≠ some applied ∨ ∃ x ∈ s.motion.cells, x.camera = c ∧ x.previous = none) →
      ¬ handoverScored c applied s.motion = true := by
    rw [hscored]
    rintro (h | ⟨x, hx, hxc, hxp⟩) ⟨h1, h2⟩
    · exact h h1
    · exact h2 x hx hxc hxp
  refine ⟨by rw [hmotion]; exact Quad.get_set_same _ _ _, fun d hd => ?_, ?_, fun n k l hk hl => ?_, ?_⟩
  · rw [hmotion]
    exact Quad.get_set_other _ _ hd
  · rw [hmotion]
    exact List.length_map _
  · rw [hmotion] at hl
    have he := handedCells_getElem? hk hl
    refine ⟨fun h => he.trans (if_neg h), fun h => ?_, fun h hun => ?_, fun p h hlast hall hp => ?_⟩
    · rw [if_pos h] at he
      rw [he]
      split <;> rfl
    · rw [if_pos h, if_neg (hunscored hun)] at he
      rw [he]
      rfl
    · rw [if_pos h, if_pos (hscored.mpr ⟨hlast, hall⟩)] at he
      rw [he]
      have hprevious : k.previous.getD [] = p := by rw [hp]; rfl
      unfold scoreCell
      rw [hprevious]
      exact ⟨rfl, rfl, rfl, rfl⟩
  · by_cases hpost : handoverScored c applied s.motion = true ∧ (s.exposure.get c).condition ≠ .obscured
    · rw [if_pos hpost, ← postingCells_indices, joinAll_cells] at htracker
      have hcells : t.motion.cells = handedCells c applied (framePicture pixels) (s.exposure.get c).condition s.motion := by
        rw [hmotion]
      rw [← hcells] at htracker
      generalize hposts : (postingOrder (activeIndexed c t.motion.cells)).take 4 = posts at htracker
      have hall : ∀ p ∈ posts, p ∈ activeIndexed c t.motion.cells := fun p hp =>
        mem_postingOrder.mp (List.mem_of_mem_take (hposts ▸ hp))
      have hsplit : posts ++ (postingOrder (activeIndexed c t.motion.cells)).drop 4 = postingOrder _ :=
        hposts ▸ List.take_append_drop 4 _
      have horder := postingOrder_pairwise (activeIndexed_pairwise c t.motion.cells)
      rw [← hsplit, List.pairwise_append] at horder
      obtain ⟨hfirst, -, hrest⟩ := horder
      refine ⟨posts.map Prod.snd, htracker, fun h => ?_, fun _ _ _ => ?_⟩
      · rcases h with h | h | h
        · exact absurd hpost.1 (hunscored (.inl h))
        · exact absurd hpost.1 (hunscored (.inr h))
        · exact absurd h hpost.2
      have hbefore : ∀ {a b : MotionCell × Nat}, a ∈ activeIndexed c t.motion.cells →
          b ∈ activeIndexed c t.motion.cells → PostsBefore a b → ∀ x y : MotionCell,
          t.motion.cells[a.2]? = some x → t.motion.cells[b.2]? = some y →
          y.score < x.score ∨ y.score = x.score ∧ a.2 < b.2 := by
        intro a b ha hb hab x y hx hy
        obtain rfl := Option.some.inj ((mem_activeIndexed.mp ha).1.symm.trans hx)
        obtain rfl := Option.some.inj ((mem_activeIndexed.mp hb).1.symm.trans hy)
        exact hab
      refine ⟨?_, ?_, ?_, ?_⟩
      · rw [List.length_map, ← hposts]
        exact List.length_take_le _ _
      · rw [List.pairwise_map]
        exact hfirst.imp_of_mem fun ha hb hab => hbefore (hall _ ha) (hall _ hb) hab
      · intro n hn
        obtain ⟨p, hp, rfl⟩ := List.mem_map.mp hn
        exact ⟨p.1, mem_activeIndexed.mp (hall p hp)⟩
      · intro n k hk hkc hka hn
        have hmem : (k, n) ∈ postingOrder (activeIndexed c t.motion.cells) :=
          mem_postingOrder.mpr (mem_activeIndexed.mpr ⟨hk, hkc, hka⟩)
        rw [← hsplit, List.mem_append] at hmem
        rcases hmem with hmem | hmem
        · exact absurd (List.mem_map_of_mem hmem) hn
        · refine ⟨?_, fun m hm => ?_⟩
          · have := List.length_pos_of_mem hmem
            rw [List.length_drop] at this
            rw [List.length_map, ← hposts, List.length_take]
            omega
          · obtain ⟨p, hp, rfl⟩ := List.mem_map.mp hm
            exact hbefore (hall p hp) (mem_activeIndexed.mpr ⟨hk, hkc, hka⟩) (hrest p hp _ hmem)
    · rw [if_neg hpost] at htracker
      refine ⟨[], htracker, fun _ => rfl, fun h1 h2 h3 => absurd ⟨hscored.mpr ⟨h1, h2⟩, h3⟩ hpost⟩

end Sys2Proof.Machine
end

section
/-! PROOFS. Vehicle messages, staleness and the beginning of an update (O15, O16, O17), and one sighting (O18). -/

namespace Sys2Proof.Machine

/-! ## The vehicle state record (O15) -/

theorem changeVehicle_alert (v : Vehicle) (s : State) : (changeVehicle v s).alert = { s.alert with vehicle := v } := by
  unfold changeVehicle
  split
  next => rfl
  next => rw [offerRecord_alert]; rfl

theorem changeVehicle_keeps (v : Vehicle) (s : State) : KeepsBut [.alert, .incident, .ports] s (changeVehicle v s) := by
  unfold changeVehicle
  split
  next => exact (mapAlert_keeps s _).mono (by decide)
  next => exact (mapAlert_keeps s _).chain (offerRecord_keeps _ _)

theorem changeVehicle_taken (v : Vehicle) (s : State) : VehicleTaken v s (changeVehicle v s) := by
  have hk := changeVehicle_keeps v s
  refine ⟨changeVehicle_alert v s, ?_⟩
  by_cases h : vehicleReading v = vehicleReading s.alert.vehicle
  · have ht : changeVehicle v s = s.mapAlert fun a => { a with vehicle := v } := if_pos h
    rw [if_pos h]
    exact ⟨by rw [ht]; rfl, .of_ports (by rw [ht]; rfl), .of_ports (by rw [ht]; rfl), hk⟩
  · have ht : changeVehicle v s = offerRecord (.vehicle (vehicleReading v)) (s.mapAlert fun a => { a with vehicle := v }) :=
      if_neg h
    have hports := offerRecord_ports (.vehicle (vehicleReading v)) (s.mapAlert fun a => { a with vehicle := v })
    rw [← ht] at hports
    rw [if_neg h]
    refine ⟨?_, hports.1, hports.2, hk⟩
    conv => lhs; rw [ht]
    refine (offerRecord_incident_congr ?_ ?_ ?_ ?_ ?_ ?_ ?_ ?_).symm
    · exact congrArg Loader.mode (hk .loader (by decide))
    · exact congrArg Loaded.triggers (hk .loaded (by decide))
    · rfl
    · exact hk .frame (by decide)
    · exact hk .ms (by decide)
    · exact changeVehicle_alert v s
    · exact congrArg Arbiter.shown (hk .arbiter (by decide))
    · exact congrArg Tracker.tracks (hk .tracker (by decide))

theorem autoExit_stays {s : State} (h : s.mode ≠ .service ∨ s.alert.vehicle.speed.value = some 0) : autoExit s = s := by
  refine if_neg fun hexit => ?_
  rcases h with h | h
  · exact h hexit.1
  · exact absurd hexit.2 (by simp [standing0, h])

theorem autoExit_restarts {s : State} (h : s.mode = .service) (hspeed : s.alert.vehicle.speed.value ≠ some 0)
    (hidle : s.flash.op = .idle) : autoExit s = restartPart s := by
  rw [autoExit, if_pos ⟨h, by simp [standing0, hspeed]⟩, if_pos hidle]

theorem autoExit_waits {s : State} (h : s.mode = .service) (hspeed : s.alert.vehicle.speed.value ≠ some 0)
    (hbusy : s.flash.op ≠ .idle) : autoExit s = { s with flash := { s.flash with exitPending := true } } := by
  rw [autoExit, if_pos ⟨h, by simp [standing0, hspeed]⟩, if_neg hbusy]
  rfl

theorem speedOfField_eq_zero {n : Nat} : speedOfField n = some 0 ↔ n = 0 := by
  unfold speedOfField
  split
  next h => simp [h]
  next => rw [Option.some.injEq]; omega

theorem gearOfCode_none {n : Nat} (h : 3 < n) : gearOfCode n = none := by
  unfold gearOfCode
  split <;> first | rfl | omega

theorem indicatorOfCode_none {n : Nat} (h : n = 2 ∨ 3 < n) : indicatorOfCode n = none := by
  unfold indicatorOfCode
  split <;> first | rfl | omega

theorem liftOfCode_none {n : Nat} (h : n = 2 ∨ 3 < n) : liftOfCode n = none := by
  unfold liftOfCode
  split <;> first | rfl | omega

theorem dataTaken_of {p : Port} {s : State} (hport : portActive p s = true) (hmode : s.mode ≠ .starting) :
    dataTaken p s = true := (dataTaken_eq_true_iff p s).mpr ⟨hport, hmode⟩

theorem exec_vehicleStatus_none {data : List Byte} {s : State} (h : takeVehicleStatus s.ms data s.alert.vehicle = none) :
    exec (.vehicleStatus data) s = .next s := by
  show execVehicleStatus data s = _
  simp only [execVehicleStatus, h, ite_self]

theorem exec_bodyStatus_none {data : List Byte} {s : State} (h : takeBodyStatus s.ms data s.alert.vehicle = none) :
    exec (.bodyStatus data) s = .next s := by
  show execBodyStatus data s = _
  simp only [execBodyStatus, h, ite_self]

/-- Settles O15. -/
theorem vehicleMessagesWriteTheirFields : Obligations.VehicleMessagesWriteTheirFields := by
  refine ⟨fun data gear indicator s hport hmode hlength hgear hindicator => ?_,
    fun data lift s hport hmode hlength hlift => ?_, fun data s hbad => exec_vehicleStatus_none ?_,
    fun data s hbad => exec_bodyStatus_none ?_⟩
  · let v : Vehicle :=
      { s.alert.vehicle with
        speed := writeEntry s.ms (speedOfField (u16At data 0))
        gear := writeEntry s.ms gear
        indicator := writeEntry s.ms indicator }
    have htake : takeVehicleStatus s.ms data s.alert.vehicle = some v := by
      simp only [takeVehicleStatus, if_pos hlength, hgear, hindicator, v]
    have hexec : exec (.vehicleStatus data) s = .next (autoExit (changeVehicle v s)) := by
      show execVehicleStatus data s = _
      simp only [execVehicleStatus, dataTaken_of hport hmode, if_true, htake]
    have hk := changeVehicle_keeps v s
    have hmode' : (changeVehicle v s).mode = s.mode := congrArg Loader.mode (hk .loader (by decide))
    have hflash : (changeVehicle v s).flash = s.flash := hk .flash (by decide)
    have hspeed : (changeVehicle v s).alert.vehicle.speed.value = some 0 ↔ u16At data 0 = 0 := by
      rw [changeVehicle_alert]
      exact speedOfField_eq_zero
    refine ⟨_, _, hexec, changeVehicle_taken v s, fun h => autoExit_stays ?_, fun hs h hop => ?_, fun hs h hop => ?_⟩
    · rw [hmode', hspeed]
      exact h.imp_left fun h => by rw [h]; decide
    · exact autoExit_restarts (hmode'.trans hs) ((not_congr hspeed).mpr h) (hflash ▸ hop)
    · rw [autoExit_waits (hmode'.trans hs) ((not_congr hspeed).mpr h) (hflash ▸ hop), hflash]
  · refine ⟨_, ?_, changeVehicle_taken _ s⟩
    show execBodyStatus data s = _
    simp only [execBodyStatus, dataTaken_of hport hmode, if_true, takeBodyStatus, if_pos hlength, hlift]
    rfl
  · unfold takeVehicleStatus
    split
    next hlength =>
      rcases hbad with h | h | h
      · exact absurd hlength h
      · rw [gearOfCode_none h]
      · rw [indicatorOfCode_none h]
        split <;> simp_all
    next => rfl
  · unfold takeBodyStatus
    split
    next hlength =>
      rcases hbad with h | h
      · exact absurd hlength h
      · rw [liftOfCode_none h]
    next => rfl

/-! ## Staleness (O16) -/

theorem goStale_alert (f : VehicleField) (s : State) :
    (goStale f s).alert = { s.alert with vehicle := staleVehicle f s.alert.vehicle } := by
  unfold goStale
  dsimp only
  split
  next => rw [offerRecord_alert]; rfl
  next => rfl

theorem goStale_keeps (f : VehicleField) (s : State) : KeepsBut [.alert, .incident, .ports] s (goStale f s) := by
  unfold goStale
  dsimp only
  split
  next =>
    exact ((mapAlert_keeps s _).chain (raiseNotice_keeps _ _) (cs := [.alert, .ports])).chain (offerRecord_keeps _ _)
  next => exact (mapAlert_keeps s _).mono (by decide)

/-- R118, R119: the expiry of a known field raises VEHICLE_STALE and offers a VEHICLE record. -/
theorem goStale_offers (f : VehicleField) (s : State) :
    (if fieldKnown f s.alert.vehicle then
       (goStale f s).incident =
         (offerRecord (.vehicle (vehicleReading (goStale f s).alert.vehicle))
           { goStale f s with incident := s.incident }).incident
     else (goStale f s).incident = s.incident) ∧
    NoticesOnly s (goStale f s) ∧
    NoticesRaised (if fieldKnown f s.alert.vehicle then [.vehicleStale] else []) s (goStale f s) := by
  have hk := goStale_keeps f s
  have halert := goStale_alert f s
  by_cases h : fieldKnown f s.alert.vehicle = true
  · let u := s.mapAlert fun a => { a with vehicle := staleVehicle f a.vehicle }
    have ht : goStale f s = offerRecord (.vehicle (vehicleReading u.alert.vehicle)) (raiseNotice .vehicleStale u) :=
      if_pos h
    have hoffer := offerRecord_ports (.vehicle (vehicleReading u.alert.vehicle)) (raiseNotice .vehicleStale u)
    have honly : NoticesOnly s (raiseNotice .vehicleStale u) := raiseNotice_noticesOnly .vehicleStale u
    have hraised : NoticesRaised [.vehicleStale] s (raiseNotice .vehicleStale u) := raiseNotice_raised .vehicleStale u
    rw [← ht] at hoffer
    rw [if_pos h, if_pos h]
    refine ⟨?_, honly.trans hoffer.1, by simpa using hraised.trans hoffer.2 rfl⟩
    have hvehicle : (goStale f s).alert.vehicle = u.alert.vehicle := by rw [halert]; rfl
    rw [hvehicle]
    conv => lhs; rw [ht]
    refine (offerRecord_incident_congr ?_ ?_ ?_ ?_ ?_ ?_ ?_ ?_).symm
    · exact congrArg Loader.mode (hk .loader (by decide))
    · exact congrArg Loaded.triggers (hk .loaded (by decide))
    · rfl
    · exact hk .frame (by decide)
    · exact hk .ms (by decide)
    · exact halert
    · exact congrArg Arbiter.shown (hk .arbiter (by decide))
    · exact congrArg Tracker.tracks (hk .tracker (by decide))
  · have ht : goStale f s = s.mapAlert fun a => { a with vehicle := staleVehicle f a.vehicle } := if_neg h
    rw [if_neg h, if_neg h, ht]
    exact ⟨rfl, .of_ports rfl, .of_ports rfl⟩

/-- Settles O16. -/
theorem stalenessExpiryMakesTheFieldUnknown : Obligations.StalenessExpiryMakesTheFieldUnknown := by
  intro f since s htimer
  have hdue : timerDue s.ms (fieldTimer f s.alert.vehicle) (s.loaded.staleLimit + 1) = true ↔
      s.loaded.staleLimit < (s.ms - since).toNat := by
    rw [htimer, timerDue_some]
    exact Iff.rfl
  refine ⟨fun h => ⟨goStale f s, expireField f s, if_pos (hdue.mpr h), ?_, ?_⟩, fun h => if_neg ?_⟩
  · rw [goStale_alert]
    cases f <;> rfl
  · have hk := goStale_keeps f s
    have hmode : (goStale f s).mode = s.mode := congrArg Loader.mode (hk .loader (by decide))
    have hflash : (goStale f s).flash = s.flash := hk .flash (by decide)
    have hspeed : f = .speed → (goStale f s).alert.vehicle.speed.value ≠ some 0 := by
      rintro rfl
      rw [goStale_alert]
      exact (Option.some_ne_none 0).symm
    obtain ⟨hincident, honly, hraised⟩ := goStale_offers f s
    refine ⟨hincident, honly, hraised, hk, fun h => ?_, fun hf hs hop => ?_, fun hf hs hop => ?_⟩
    · unfold expireField
      split
      next hf => exact autoExit_stays (.inl (by rw [hmode]; exact h.resolve_left (Classical.not_not.mpr hf)))
      next => rfl
    · rw [expireField, if_pos hf]
      exact autoExit_restarts (hmode.trans hs) (hspeed hf) (hflash ▸ hop)
    · rw [expireField, if_pos hf, autoExit_waits (hmode.trans hs) (hspeed hf) (hflash ▸ hop), hflash]
  · rw [hdue]
    omega

/-! ## The beginning of an update (O17) -/

/-- Settles O17. -/
theorem trackerTimerBeginsAnUpdate : Obligations.TrackerTimerBeginsAnUpdate := by
  intro since s htimer hdue
  refine ⟨s.mapTracker (trackerExpiry s.ms (vehicleReading s.alert.vehicle)), ?_, mapTracker_keeps s _, fun u hu => ?_,
    fun hnone => ?_⟩
  · exact if_pos (by rw [htimer]; exact timerDue_some.mpr hdue)
  · simp only [State.mapTracker, trackerExpiry, hu]
  · simp only [State.mapTracker, trackerExpiry, hnone]
    rfl

/-! ## Picking a slot (O18) -/

/-- A slot picked in a list of candidates: each candidate that is better than the best so far becomes it. -/
def pickFrom (value : Candidate → Nat) (better : Option (Nat × Nat) → Candidate → Bool) :
    Nat → List (Option Candidate) → Option (Nat × Nat) → Option (Nat × Nat)
  | _, [], best => best
  | i, none :: l, best => pickFrom value better (i + 1) l best
  | i, some k :: l, best => pickFrom value better (i + 1) l (if better best k then some (value k, i) else best)

section Pick

variable {value : Candidate → Nat} {better : Option (Nat × Nat) → Candidate → Bool} {l : List (Option Candidate)}
  {best : Option (Nat × Nat)} {i : Nat}

/-- Nothing is picked where nothing is better. -/
theorem pickFrom_stays (h : ∀ (j : Nat) (x : Candidate), l[j]? = some (some x) → better best x = false) :
    pickFrom value better i l best = best := by
  induction l generalizing i with
  | nil => rfl
  | cons o l ih =>
    have htail := ih (i := i + 1) fun j x hj => h (j + 1) x hj
    cases o with
    | none => exact htail
    | some x =>
      rw [pickFrom, h 0 x rfl, if_neg Bool.false_ne_true]
      exact htail

/-- A candidate is picked that beats what came before it and that nothing after it beats. -/
theorem pickFrom_eq {n : Nat} {k : Candidate} (hk : l[n]? = some (some k)) (hbest : better best k = true)
    (hbefore : ∀ (j : Nat) (x : Candidate), j < n → l[j]? = some (some x) → ∀ b m, better b x = true →
      better (some (value x, m)) k = true)
    (hafter : ∀ (j : Nat) (x : Candidate), n < j → l[j]? = some (some x) → ∀ m, better (some (value k, m)) x = false) :
    pickFrom value better i l best = some (value k, i + n) := by
  induction l generalizing i n best with
  | nil => cases hk
  | cons o l ih =>
    cases n with
    | zero =>
      obtain rfl : o = some k := Option.some.inj hk
      rw [pickFrom, if_pos hbest]
      exact pickFrom_stays fun j x hj => hafter (j + 1) x (Nat.succ_pos j) hj _
    | succ n =>
      have htail : ∀ {best : Option (Nat × Nat)}, better best k = true →
          pickFrom value better (i + 1) l best = some (value k, i + (n + 1)) := fun hb => by
        rw [ih hk hb (fun j x hj => hbefore (j + 1) x (Nat.succ_lt_succ hj))
          (fun j x hj => hafter (j + 1) x (Nat.succ_lt_succ hj)), Nat.add_assoc, Nat.add_comm 1]
      cases o with
      | none => exact htail hbest
      | some x =>
        rw [pickFrom]
        refine htail ?_
        split
        next hx => exact hbefore 0 x (Nat.succ_pos n) rfl best i hx
        next => exact hbest

end Pick

/-- Whether a candidate is within the gate, or nearer than the best so far (R108). -/
def nearer (gate : Nat) (g : Sighting) (best : Option (Nat × Nat)) (k : Candidate) : Bool :=
  match best with
  | none => decide (groundDistance g.x g.y k.atX k.atY ≤ gate)
  | some b => decide (groundDistance g.x g.y k.atX k.atY < b.1)

theorem nearestFrom_eq_pickFrom (gate : Nat) (g : Sighting) (l : List (Option Candidate)) (i : Nat)
    (best : Option (Nat × Nat)) :
    nearestFrom gate g i l best =
      pickFrom (fun k => groundDistance g.x g.y k.atX k.atY) (nearer gate g) i l best := by
  induction l generalizing i best with
  | nil => rfl
  | cons o l ih => cases o <;> exact ih _ _

/-- Whether a candidate is replaceable, and has more misses than the best so far (R109). -/
def replacedFirst (best : Option (Nat × Nat)) (k : Candidate) : Bool :=
  replaceable k && match best with
    | none => true
    | some b => decide (b.1 < k.track.misses)

theorem replaceSlotFrom_eq_pickFrom (l : List (Option Candidate)) (i : Nat) (best : Option (Nat × Nat)) :
    replaceSlotFrom i l best = pickFrom (fun k => k.track.misses) replacedFirst i l best := by
  induction l generalizing i best with
  | nil => rfl
  | cons o l ih => cases o <;> exact ih _ _

theorem emptySlot_eq_some {slots : List (Option Candidate)} {i : Nat} (h : slots[i]? = some none)
    (hfirst : ∀ j : Nat, j < i → slots[j]? ≠ some none) : emptySlot slots = some i := by
  obtain ⟨hi, he⟩ := List.getElem?_eq_some_iff.mp h
  have hfind : slots.findIdx Option.isNone = i := by
    refine (List.findIdx_eq hi).mpr ⟨by rw [he]; rfl, fun j hj => ?_⟩
    have hj' := hfirst j hj
    rw [List.getElem?_eq_getElem (Nat.lt_trans hj hi)] at hj'
    cases hx : slots[j] with
    | none => exact absurd (congrArg some hx) hj'
    | some x => rfl
  simp only [emptySlot, hfind, if_pos hi]

theorem emptySlot_eq_none {slots : List (Option Candidate)} (h : ∀ j : Nat, slots[j]? ≠ some none) :
    emptySlot slots = none := by
  have hfind : slots.findIdx Option.isNone = slots.length := List.findIdx_eq_length.mpr fun o ho => by
    obtain ⟨j, hj⟩ := List.mem_iff_getElem?.mp ho
    cases o with
    | none => exact absurd hj (h j)
    | some x => rfl
  simp only [emptySlot, hfind, Nat.lt_irrefl, if_false]

/-- A new track in the slot that the creation rule names. -/
theorem startTrack_of_creationSlot {g : Sighting} {a : Association} {i : Nat} (h : creationSlot a.slots = some i) :
    ∃ n, startTrack g a =
      { a with slots := a.slots.set i (some ⟨newTrack n g, g.x, g.y, true, []⟩), lastNumber := n } := by
  refine ⟨freeNumber (a.slots.set i none) 16 (stepNumber a.lastNumber), ?_⟩
  simp only [startTrack, h, createTrack, List.set_set]

/-- Settles O18. -/
theorem sightingFindsItsTrack : Obligations.SightingFindsItsTrack := by
  intro gate g a
  refine ⟨fun i k hk hgate hfirst => ?_, fun hfar => ?_⟩
  · have hnearest : nearest gate g a.slots = some i := by
      rw [nearest, nearestFrom_eq_pickFrom, pickFrom_eq (best := none) hk (decide_eq_true hgate)
        (fun j x hj hx _ m _ => decide_eq_true ((hfirst j x hx).2 hj))
        (fun j x _ hx m => decide_eq_false (Nat.not_lt.mpr (hfirst j x hx).1)), Nat.zero_add]
      rfl
    have hmodify : a.slots.modify i (fun k => k.map (takeSighting g)) = a.slots.set i (some (takeSighting g k)) := by
      rw [List.modify_eq_set, hk]
      rfl
    simp only [associateOne, hnearest, hmodify]
  have hnearest : nearest gate g a.slots = none := by
    rw [nearest, nearestFrom_eq_pickFrom, pickFrom_stays fun j x hx => decide_eq_false (Nat.not_le.mpr (hfar j x hx))]
    rfl
  have hstart : associateOne gate g a = startTrack g a := by simp only [associateOne, hnearest]
  rw [hstart]
  refine ⟨fun i hi hfirst => startTrack_of_creationSlot ?_, fun i k hfull hk hr hfirst => startTrack_of_creationSlot ?_,
    fun hfull hno => ?_⟩
  · simp only [creationSlot, emptySlot_eq_some hi hfirst]
  · have hpick : replaceSlotFrom 0 a.slots none = some (k.track.misses, i) := by
      rw [replaceSlotFrom_eq_pickFrom, pickFrom_eq hk (by simp [replacedFirst, hr]) (fun j x hj hx b m hb => ?_)
        (fun j x _ hx m => ?_), Nat.zero_add]
      · have hx' : replaceable x = true := (Bool.and_eq_true _ _ ▸ hb).1
        simpa [replacedFirst, hr] using (hfirst j x hx hx').2 hj
      · by_cases hx' : replaceable x = true
        · simpa [replacedFirst, hx'] using (hfirst j x hx hx').1
        · simp [replacedFirst, hx']
    simp only [creationSlot, emptySlot_eq_none hfull, hpick, Option.map_some]
  · have hpick : replaceSlotFrom 0 a.slots none = none := by
      rw [replaceSlotFrom_eq_pickFrom]
      exact pickFrom_stays fun j x hx => by simp [replacedFirst, hno j x hx]
    simp only [startTrack, creationSlot, emptySlot_eq_none hfull, hpick, Option.map_none]

end Sys2Proof.Machine
end

section
/-! PROOFS. The end of a tracker update: what it publishes, and the alert claim (O22, O23). -/

namespace Sys2Proof.Machine

/-! ## Sets of zones -/

theorem zoneBit_getLsbD : ∀ i z : Fin 8, (1#8 <<< i.val).getLsbD z.val = decide (i = z) := by decide

theorem foldl_zoneSet_getLsbD {α : Type} (l : List α) (index : α → Fin 8) (p : α → Bool) (a : ZoneSet) (z : Fin 8) :
    (l.foldl (fun a x => if p x then a ||| (1#8 <<< (index x).val) else a) a).getLsbD z.val =
      (a.getLsbD z.val || l.any fun x => decide (index x = z) && p x) := by
  induction l generalizing a with
  | nil => simp
  | cons x l ih =>
    rw [List.foldl_cons, ih, List.any_cons, ← Bool.or_assoc]
    congr 1
    split
    next h => rw [BitVec.getLsbD_or, zoneBit_getLsbD, h, Bool.and_true]
    next h => rw [eq_false_of_ne_true h, Bool.and_false, Bool.or_false]

theorem activitySet_getLsbD (zones : List Zone) (v : VehicleReading) (z : Fin 8) :
    (activitySet zones v).getLsbD z.val = zones.any fun k => decide (k.index = z) && zoneActive v k := by
  rw [activitySet, foldl_zoneSet_getLsbD]
  simp

theorem occupancySet_getLsbD (levels : List Level) (z : Fin 8) :
    (occupancySet levels).getLsbD z.val = decide (levels.getD z.val .none ≠ .none) := by
  have hfold : occupancySet levels = ([0, 1, 2, 3, 4, 5, 6, 7] : List (Fin 8)).foldl (fun a i =>
      if (fun i : Fin 8 => decide (levels.getD i.val .none ≠ .none)) i then a ||| (1#8 <<< (id i).val) else a) 0#8 := by
    have hrange : List.range 8 = ([0, 1, 2, 3, 4, 5, 6, 7] : List (Fin 8)).map Fin.val := by decide
    rw [occupancySet, hrange, List.foldl_map]
    congr 1
    funext a i
    by_cases h : levels.getD i.val .none = .none
    · simp only [h, if_true, ne_eq, not_true_eq_false, decide_false, Bool.false_eq_true, if_false]
    · simp only [h, if_false, ne_eq, not_false_eq_true, decide_true, if_true, id]
  have hall : ∀ i : Fin 8, i ∈ ([0, 1, 2, 3, 4, 5, 6, 7] : List (Fin 8)) := by decide
  rw [hfold, foldl_zoneSet_getLsbD, BitVec.getLsbD_zero, Bool.false_or]
  by_cases h : levels.getD z.val .none = .none
  · rw [decide_eq_false (Classical.not_not.mpr h), List.any_eq_false]
    rintro i - hi
    simp only [id, Bool.and_eq_true, decide_eq_true_eq] at hi
    exact hi.2 (hi.1 ▸ h)
  · rw [decide_eq_true h, List.any_eq_true]
    exact ⟨z, hall z, by simp only [id, decide_true, Bool.true_and]; exact decide_eq_true h⟩

/-! ## Levels of the list -/

theorem highest_or (l : List Level) : highest l = .none ∨ highest l ∈ l := by
  by_cases h : highest l = .none
  · exact .inl h
  · exact .inr (highest_mem h)

/-- The highest of a list of tracks' levels is attained, or NONE. -/
theorem highest_map_or (l : List Track) (f : Track → Level) :
    highest (l.map f) = .none ∨ ∃ x ∈ l, f x = highest (l.map f) :=
  (highest_or (l.map f)).imp_right List.mem_map.mp

theorem mem_heldTracks {l : List (Option Track)} {x : Track} : x ∈ heldTracks l ↔ ∃ i : Nat, l[i]? = some (some x) := by
  rw [heldTracks, List.mem_filterMap]
  constructor
  · rintro ⟨o, ho, rfl⟩
    exact List.mem_iff_getElem?.mp ho
  · rintro ⟨i, hi⟩
    exact ⟨some x, List.mem_of_getElem? hi, rfl⟩

/-- Finding the first track of a list that satisfies a test. -/
theorem find?_heldTracks {p : Track → Bool} {l : List (Option Track)} {i : Nat} {x : Track} (h : l[i]? = some (some x))
    (hp : p x = true) (hfirst : ∀ (j : Nat) (y : Track), j < i → l[j]? = some (some y) → p y = false) :
    (heldTracks l).find? p = some x := by
  induction l generalizing i with
  | nil => cases h
  | cons o l ih =>
    cases i with
    | zero =>
      obtain rfl : o = some x := Option.some.inj h
      exact List.find?_cons_of_pos hp
    | succ i =>
      have htail : (heldTracks l).find? p = some x :=
        ih h fun j y hj => hfirst (j + 1) y (Nat.succ_lt_succ hj)
      cases o with
      | none => exact htail
      | some y =>
        have hy := hfirst 0 y (Nat.succ_pos i) rfl
        exact (List.find?_cons_of_neg (by rw [hy]; exact Bool.false_ne_true)).trans htail

/-- The highest track is the one of highest stored level in the lowest slot (R123). -/
theorem highestTrack_eq {l : List (Option Track)} {i : Nat} {x : Track} (h : l[i]? = some (some x))
    (hfirst : ∀ (j : Nat) (y : Track), l[j]? = some (some y) →
      y.stored.code ≤ x.stored.code ∧ (j < i → y.stored.code < x.stored.code)) : highestTrack l = some x := by
  have hmem : x.stored ∈ (heldTracks l).map Track.stored := List.mem_map_of_mem (mem_heldTracks.mpr ⟨i, h⟩)
  have hlevel : x.stored = systemLevel l := by
    refine Level.code_injective (Nat.le_antisymm (le_highest hmem) ?_)
    rcases highest_map_or (heldTracks l) Track.stored with hnone | ⟨y, hy, hs⟩
    · rw [systemLevel, hnone]
      exact Nat.zero_le _
    · obtain ⟨j, hj⟩ := mem_heldTracks.mp hy
      rw [systemLevel, ← hs]
      exact (hfirst j y hj).1
  refine find?_heldTracks h (decide_eq_true hlevel) fun j y hj hy => decide_eq_false fun e => ?_
  have := (hfirst j y hy).2 hj
  rw [e, hlevel] at this
  exact Nat.lt_irrefl _ this

theorem highestTrack_none {l : List (Option Track)} (h : ∀ (j : Nat) (y : Track), l[j]? ≠ some (some y)) :
    highestTrack l = none := by
  have hnone : heldTracks l = [] := List.eq_nil_iff_forall_not_mem.mpr fun x hx =>
    (mem_heldTracks.mp hx).elim fun j hj => h j x hj
  rw [highestTrack, hnone]
  rfl

/-! ## The stages of the end of an update -/

/-- The state before the alert claim is decided: the update published, the arms recomputed, the notices raised. -/
def beforeClaim (u : Update) (s : State) : State :=
  let a := associateUpdate s.loaded.gate s.tracker u
  let s1 := rearmLevels (publishUpdate u a s)
  levelNotice s.alert.level s1.alert.level (overflowNotice a s1)

theorem levelNotice_keeps (old new : Level) (s : State) : KeepsBut [.ports] s (levelNotice old new s) := by
  unfold levelNotice
  split
  next => exact raiseNotice_keeps _ s
  next =>
    split
    next => exact raiseNotice_keeps _ s
    next => exact .refl _ s

theorem overflowNotice_keeps (a : Association) (s : State) : KeepsBut [.ports] s (overflowNotice a s) := by
  unfold overflowNotice
  split
  next => exact raiseNotice_keeps _ s
  next => exact .refl _ s

theorem levelNotice_ports (old new : Level) (s : State) :
    NoticesOnly s (levelNotice old new s) ∧
      NoticesRaised ((if old.code < new.code then [.alertRise] else []) ++
        (if new.code < old.code then [.alertFall] else [])) s (levelNotice old new s) := by
  unfold levelNotice
  split
  next h =>
    rw [if_neg (Nat.lt_asymm h)]
    exact ⟨raiseNotice_noticesOnly _ s, raiseNotice_raised _ s⟩
  next =>
    split
    next => exact ⟨raiseNotice_noticesOnly _ s, raiseNotice_raised _ s⟩
    next => exact ⟨.refl s, .refl s⟩

theorem overflowNotice_ports (a : Association) (s : State) :
    NoticesOnly s (overflowNotice a s) ∧
      NoticesRaised (if 0 < a.overflow then [.trackOverflow] else []) s (overflowNotice a s) := by
  unfold overflowNotice
  split
  next => exact ⟨raiseNotice_noticesOnly _ s, raiseNotice_raised _ s⟩
  next => exact ⟨.refl s, .refl s⟩

section Completion

variable (u : Update) (s : State)

theorem beforeClaim_keeps : KeepsBut [.tracker, .alert, .compositor, .ports] s (beforeClaim u s) :=
  ((((publishUpdate_keeps u _ s).chain (rearm_keeps _ _) (cs := [.tracker, .alert, .compositor])).chain
    (overflowNotice_keeps _ _) (cs := [.tracker, .alert, .compositor, .ports])).chain (levelNotice_keeps _ _ _))

theorem beforeClaim_same :
    KeepsBut [.compositor, .ports] (publishUpdate u (associateUpdate s.loaded.gate s.tracker u) s) (beforeClaim u s) :=
  (((rearm_keeps _ _).chain (overflowNotice_keeps _ _) (cs := [.compositor, .ports])).chain (levelNotice_keeps _ _ _))

theorem beforeClaim_tracks :
    (beforeClaim u s).tracker.tracks =
      rateTracks s.loaded.zones u.vehicle (settleSlots (associateUpdate s.loaded.gate s.tracker u).slots) := by
  rw [beforeClaim_same u s .tracker (by decide)]
  rfl

theorem beforeClaim_alert :
    (beforeClaim u s).alert =
      clearSilence (publishAlert s.loaded.zones u.vehicle (beforeClaim u s).tracker.tracks s.alert) := by
  rw [beforeClaim_tracks, beforeClaim_same u s .alert (by decide)]
  rfl

theorem beforeClaim_arms : ArmsFollow (fun x => readsLevel x || readsWarning x) s (beforeClaim u s) := by
  have hp := publishUpdate_keeps u (associateUpdate s.loaded.gate s.tracker u) s
  have hn : KeepsBut [.ports] (rearmLevels (publishUpdate u (associateUpdate s.loaded.gate s.tracker u) s))
      (beforeClaim u s) :=
    (overflowNotice_keeps _ _).chain (levelNotice_keeps _ _ _)
  exact (rearm_armsFollow _ (publishUpdate u (associateUpdate s.loaded.gate s.tracker u) s)).congr
    (hp .compositor (by decide)).symm (hp .loader (by decide)).symm (hn .compositor (by decide))
    (by rw [hn .intake (by decide)]; rfl) (hn .exposure (by decide)) (hn .alert (by decide))

theorem beforeClaim_ports :
    NoticesOnly s (beforeClaim u s) ∧
      NoticesRaised ((if 0 < (associateUpdate s.loaded.gate s.tracker u).overflow then [.trackOverflow] else []) ++
        ((if s.alert.level.code < (beforeClaim u s).alert.level.code then [.alertRise] else []) ++
          (if (beforeClaim u s).alert.level.code < s.alert.level.code then [.alertFall] else [])))
        s (beforeClaim u s) := by
  let a := associateUpdate s.loaded.gate s.tracker u
  let p := rearmLevels (publishUpdate u a s)
  have hp : KeepsBut [.tracker, .alert, .compositor] s p := (publishUpdate_keeps u a s).chain (rearm_keeps _ _)
  have hports : p.ports = s.ports := hp .ports (by decide)
  have halert : (beforeClaim u s).alert = p.alert :=
    (levelNotice_keeps _ _ _ .alert (by decide)).trans (overflowNotice_keeps a p .alert (by decide))
  have hover := overflowNotice_ports a p
  have hlevel := levelNotice_ports s.alert.level p.alert.level (overflowNotice a p)
  rw [halert]
  refine ⟨((NoticesOnly.of_ports hports).trans hover.1).trans hlevel.1, ?_⟩
  refine ((NoticesRaised.of_ports hports).trans hover.2 (by rw [hp .loaded (by decide)])).trans hlevel.2 ?_
  rw [overflowNotice_keeps a p .loaded (by decide), hp .loaded (by decide)]

end Completion

theorem writeAlertClaim_keeps (held : Option Claim) (w : Wanted) (s : State) :
    KeepsBut [.arbiter] s (writeAlertClaim held w s) := changeClaim_keeps _ _ s

theorem setLinger_keeps (x : Option Word) (s : State) : KeepsBut [.alert] s (setLinger x s) := mapAlert_keeps s _

theorem applyWanted_keeps (wanted : Option Wanted) (s : State) : KeepsBut [.alert, .arbiter] s (applyWanted wanted s) := by
  unfold applyWanted
  split
  next => exact .refl _ s
  next => exact (writeAlertClaim_keeps _ _ s).mono (by decide)
  next =>
    split
    next => exact (setLinger_keeps _ s).mono (by decide)
    next => exact (writeAlertClaim_keeps _ _ s).chain (setLinger_keeps _ _)
  next =>
    split
    next => exact (setLinger_keeps _ s).mono (by decide)
    next => exact .refl _ s

/-- Deciding the alert claim changes no more of the alert evaluator than the linger. -/
theorem applyWanted_alert (wanted : Option Wanted) (s : State) :
    (applyWanted wanted s).alert = { s.alert with linger := (applyWanted wanted s).alert.linger } := by
  have hwrite : ∀ held w, (writeAlertClaim held w s).alert = s.alert := fun held w =>
    writeAlertClaim_keeps held w s .alert (by decide)
  unfold applyWanted
  split
  next => rfl
  next => rw [hwrite]
  next =>
    split
    next => rfl
    next => simp only [setLinger, State.mapAlert, hwrite]
  next => split <;> rfl

theorem decideAlertClaim_keeps (s : State) : KeepsBut [.alert, .arbiter] s (decideAlertClaim s) := by
  unfold decideAlertClaim
  split
  next => exact applyWanted_keeps _ s
  next => exact .refl _ s

theorem decideAlertClaim_alert (s : State) :
    (decideAlertClaim s).alert = { s.alert with linger := (decideAlertClaim s).alert.linger } := by
  unfold decideAlertClaim
  split
  next => exact applyWanted_alert _ s
  next => rfl

theorem offerLevel_keeps (old : Level) (s : State) : KeepsBut [.incident, .ports] s (offerLevel old s) := by
  unfold offerLevel
  split
  next => exact .refl _ s
  next => exact (oweBroadcasts_keeps s).chain (offerRecord_keeps _ _)

/-- What a change of S brings besides its notices (R123, R170). -/
theorem offerLevel_offers (old : Level) (s : State) :
    (if s.alert.level = old then (offerLevel old s).incident = s.incident
     else (offerLevel old s).incident =
       (offerRecord (levelRecord old s.alert.level (highestTrack s.tracker.tracks)) s).incident) ∧
    (offerLevel old s).ports =
      { s.ports with
        sending := (offerLevel old s).ports.sending
        waiting := (offerLevel old s).ports.waiting
        pendingSets := (offerLevel old s).ports.pendingSets
        can :=
          if s.alert.level = old then s.ports.can
          else ⟨{ s.ports.can.body with owed := true }, { s.ports.can.chassis with owed := true }⟩ } ∧
    NoticesRaised [] s (offerLevel old s) := by
  by_cases h : s.alert.level = old
  · have ht : offerLevel old s = s := if_pos h.symm
    rw [if_pos h, if_pos h, ht]
    exact ⟨rfl, rfl, .refl s⟩
  · have ht : offerLevel old s =
        offerRecord (levelRecord old s.alert.level (highestTrack s.tracker.tracks)) (oweBroadcasts s) :=
      if_neg (Ne.symm h)
    have hports := offerRecord_ports (levelRecord old s.alert.level (highestTrack s.tracker.tracks)) (oweBroadcasts s)
    rw [if_neg h, if_neg h, ht]
    refine ⟨offerRecord_incident_congr rfl rfl rfl rfl rfl rfl rfl rfl, hports.1, ?_⟩
    exact fun m k hk => hports.2 m k hk

theorem clearSilence_only (a : Alert) : clearSilence a = { a with silence := (clearSilence a).silence } := by
  unfold clearSilence
  split <;> rfl

theorem clearSilence_silence (a : Alert) :
    (clearSilence a).silence = (a.silence && decide (a.warningLevel.code ≤ a.level.code)) := by
  unfold clearSilence
  split
  next h => rw [decide_eq_false (Nat.not_le.mpr h), Bool.and_false]
  next h => rw [decide_eq_true (Nat.not_lt.mp h), Bool.and_true]

theorem ArmsFollow.of_armValue {r : ArmSource → Bool} {s t u : State} (h : ArmsFollow r s t)
    (hc : u.compositor = t.compositor) (hv : ∀ x, armValue u x = armValue t x) : ArmsFollow r s u := by
  obtain ⟨honly, hgenerators⟩ := h
  exact ⟨by rw [hc]; exact honly, fun g => by rw [hc, hv]; exact hgenerators g⟩

/-- No arm reads the linger. -/
theorem armValue_of_linger {s t : State} {x : ArmSource} {l : Option Word} (hi : t.intake = s.intake)
    (he : t.exposure = s.exposure) (ha : t.alert = { s.alert with linger := l }) : armValue t x = armValue s x := by
  cases x <;> simp [armValue, cameraFaulty, warningHolds, hi, he, ha]

/-- Settles O22. -/
theorem updateCompletionPublishes : Obligations.UpdateCompletionPublishes := by
  refine ⟨fun u s hu => ⟨completeUpdate u s, exec_trackerUpdateCompletion_of_running hu, ?_⟩, fun v z => ?_,
    fun l => ⟨highestTrack_none, fun i x => highestTrack_eq⟩⟩
  · let b := beforeClaim u s
    let d := decideAlertClaim b
    have hb : KeepsBut [.tracker, .alert, .compositor, .ports] s b := beforeClaim_keeps u s
    have hd : KeepsBut [.alert, .arbiter] b d := decideAlertClaim_keeps b
    have ht : KeepsBut [.incident, .ports] d (completeUpdate u s) := offerLevel_keeps _ d
    have htracks : (completeUpdate u s).tracker.tracks = b.tracker.tracks := by
      rw [ht .tracker (by decide), hd .tracker (by decide)]
    have halert : (completeUpdate u s).alert =
        { clearSilence (publishAlert s.loaded.zones u.vehicle b.tracker.tracks s.alert) with
          linger := (completeUpdate u s).alert.linger } := by
      rw [ht .alert (by decide), decideAlertClaim_alert, beforeClaim_alert]
    have hlevel : (completeUpdate u s).alert.level = systemLevel b.tracker.tracks := by
      rw [halert]
      exact (clearSilence_fields _).2.1
    have hpublished : ∀ {α : Type} (f : Alert → α), f (completeUpdate u s).alert =
        f { clearSilence (publishAlert s.loaded.zones u.vehicle b.tracker.tracks s.alert) with
          linger := (completeUpdate u s).alert.linger } := fun f => congrArg f halert
    have hoffers := offerLevel_offers s.alert.level d
    rw [show offerLevel s.alert.level d = completeUpdate u s from rfl] at hoffers
    obtain ⟨hincident, hports, hraised⟩ := hoffers
    have hdlevel : d.alert.level = (completeUpdate u s).alert.level := by rw [ht .alert (by decide)]
    have hblevel : b.alert.level = (completeUpdate u s).alert.level := by
      rw [← hdlevel, decideAlertClaim_alert]
    have hdports : d.ports = b.ports := hd .ports (by decide)
    have hbports := beforeClaim_ports u s
    have hoccupancy : (completeUpdate u s).alert.occupancy =
        occupancyLevels s.loaded.zones u.vehicle (completeUpdate u s).tracker.tracks := by
      rw [halert, htracks]
      exact (clearSilence_fields _).2.2
    have hzone : ∀ z : Fin 8, (completeUpdate u s).alert.occupancy.getD z.val .none =
        highest ((heldTracks (completeUpdate u s).tracker.tracks).map fun x =>
          contributionAt s.loaded.zones u.vehicle x z.val) := fun z => by
      rw [hoccupancy, occupancyLevels, List.getD_eq_getElem?_getD, List.getElem?_map, List.getElem?_range z.isLt]
      rfl
    rw [← htracks] at hlevel
    refine ⟨⟨completeUpdate_tracker u s, ?_⟩, fun x hx => ?_, ?_, fun z => ?_, ?_, fun z => ⟨fun x hx => ?_, ?_⟩,
      fun z m => ?_, ?_, ?_, ?_, ?_, ?_, ?_⟩
    · have hkinds := (hbports.2.trans (NoticesRaised.of_ports hdports) (by rw [hb .loaded (by decide)])).trans hraised
        (by rw [hd .loaded (by decide), hb .loaded (by decide)])
      rw [List.append_nil, List.append_nil, show (beforeClaim u s).alert.level = _ from hblevel] at hkinds
      rw [List.append_assoc]
      exact hkinds
    · rw [hlevel]
      exact le_highest (List.mem_map_of_mem hx)
    · rw [hlevel]
      exact highest_map_or _ _
    · rw [hpublished Alert.activity]
      show (clearSilence _).activity.getLsbD z.val = _
      rw [(clearSilence_only _)]
      exact activitySet_getLsbD _ _ z
    · rw [hoccupancy]
      rfl
    · rw [hzone]
      exact le_highest (List.mem_map_of_mem hx)
    · rw [hzone]
      exact highest_map_or _ _
    · rw [hpublished Alert.latched]
      show ((clearSilence _).latched.get m).getLsbD z.val = _
      rw [clearSilence_only]
      show ((s.alert.latched.map fun y => y ||| occupancySet _).get m).getLsbD z.val = _
      rw [PerMaster.get_map, BitVec.getLsbD_or, occupancySet_getLsbD, hoccupancy, htracks]
    · rw [hpublished Alert.silence, hlevel, htracks]
      exact clearSilence_silence _
    · generalize (completeUpdate u s).alert = a at halert ⊢
      rw [halert, clearSilence_only]
      rfl
    · rw [hdlevel] at hincident
      split
      next h =>
        rw [if_pos h] at hincident
        exact hincident.trans ((hd .incident (by decide)).trans (hb .incident (by decide)))
      next h =>
        rw [if_neg h, ← ht .tracker (by decide)] at hincident
        refine hincident.trans (offerRecord_incident_congr ?_ ?_ ?_ ?_ ?_ ?_ ?_ ?_).symm
        · exact congrArg Loader.mode (ht .loader (by decide))
        · exact congrArg Loaded.triggers (ht .loaded (by decide))
        · exact ((hd .incident (by decide)).trans (hb .incident (by decide))).symm
        · exact ht .frame (by decide)
        · exact ht .ms (by decide)
        · exact ht .alert (by decide)
        · exact congrArg Arbiter.shown (ht .arbiter (by decide))
        · exact congrArg Tracker.tracks (ht .tracker (by decide))
    · refine (beforeClaim_arms u s).of_armValue ?_ fun x => armValue_of_linger (l := d.alert.linger) ?_ ?_ ?_
      · exact (ht .compositor (by decide)).trans (hd .compositor (by decide))
      · exact (ht .intake (by decide)).trans (hd .intake (by decide))
      · exact (ht .exposure (by decide)).trans (hd .exposure (by decide))
      · exact (ht .alert (by decide)).trans (decideAlertClaim_alert b)
    · rw [hdlevel, hdports] at hports
      have honly : b.ports = _ := hbports.1
      generalize (completeUpdate u s).ports = q at hports ⊢
      generalize b.ports = r at hports honly
      rw [honly] at hports
      exact hports
    · exact (hb.chain hd (cs := [.tracker, .alert, .compositor, .ports, .arbiter])).chain ht
  · unfold zoneActive conditionMet
    rw [Bool.and_eq_true]
    refine and_congr_right' ?_
    split <;> (try split) <;> simp_all

/-! ## The alert claim (O23) -/

theorem changeClaim_arbiter (i : Fin 4) (c : Option Claim) (s : State) :
    (changeClaim i c s).arbiter =
      if s.mode = .running then decideArbiter { s.arbiter with claims := s.arbiter.claims.set i c }
      else { s.arbiter with claims := s.arbiter.claims.set i c } := by
  unfold changeClaim decisionEvent
  split
  next h => exact (if_pos h).symm
  next h => exact (if_neg h).symm

/-- The alert claim written for a wanted claim, `held` being the one before. -/
def wantedSlot (held : Option Claim) (w : Wanted) : Claim :=
  ⟨w.layout, w.level, none, match held with
    | some k => k.granted && decide (k.layout = w.layout)
    | none => false⟩

theorem writeAlertClaim_eq (held : Option Claim) (w : Wanted) (s : State) :
    writeAlertClaim held w s = changeClaim 3 (some (wantedSlot held w)) s := rfl

/-- Settles O23. -/
theorem alertClaimFollowsTheWantedClaim : Obligations.AlertClaimFollowsTheWantedClaim := by
  refine ⟨fun u s hu => ⟨completeUpdate u s, exec_trackerUpdateCompletion_of_running hu, ?_⟩, fun since s hl => ⟨fun h => ?_,
    fun h => ?_⟩⟩
  · let b := beforeClaim u s
    have hb : KeepsBut [.tracker, .alert, .compositor, .ports] s b := beforeClaim_keeps u s
    have ht : KeepsBut [.incident, .ports] (decideAlertClaim b) (completeUpdate u s) := offerLevel_keeps _ _
    have hd : KeepsBut [.alert, .arbiter] b (decideAlertClaim b) := decideAlertClaim_keeps b
    have hmode : b.mode = s.mode := congrArg Loader.mode (hb .loader (by decide))
    have harbiter : b.arbiter = s.arbiter := hb .arbiter (by decide)
    have hlinger : b.alert.linger = s.alert.linger := by
      rw [show b.alert = _ from beforeClaim_alert u s, clearSilence_only]
      rfl
    have hlevel : (completeUpdate u s).alert.level = systemLevel b.tracker.tracks := by
      rw [ht .alert (by decide), decideAlertClaim_alert, show b.alert = _ from beforeClaim_alert u s]
      exact (clearSilence_fields _).2.1
    have hwanted : wantedClaim b.loaded.zones b.tracker.tracks = wantedClaim s.loaded.zones b.tracker.tracks := by
      rw [hb .loaded (by decide)]
    rw [ht .arbiter (by decide), ht .alert (by decide), ht .tracker (by decide), hd .tracker (by decide)]
    rw [ht .alert (by decide)] at hlevel
    rw [hlevel]
    intro wanted
    change wantedClaim b.loaded.zones b.tracker.tracks = wanted at hwanted
    have hstands : s.mode ≠ .running → decideAlertClaim b = b := fun h => if_neg (hmode ▸ h)
    have happly : s.mode = .running → decideAlertClaim b = applyWanted wanted b := fun h => by
      rw [decideAlertClaim, if_pos (hmode.trans h), hwanted]
    rw [← harbiter, ← hlinger]
    refine ⟨fun h => ?_, fun h hc hw => ?_, fun h hc w hw => ?_, fun k h hc w hw => ?_, fun k h hc hw => ?_⟩
    · rw [hstands h]
      exact ⟨rfl, rfl⟩
    all_goals rw [happly h, hw]
    · simp only [applyWanted, hc, and_self]
    · simp only [applyWanted, hc, writeAlertClaim_eq]
      rw [changeClaim_arbiter, if_pos (hmode.trans h), changeClaim_alert]
      exact ⟨rfl, rfl⟩
    · by_cases hsame : k.layout = w.layout ∧ k.level = w.level
      · simp only [applyWanted, hc, if_pos hsame]
        exact ⟨rfl, fun _ => rfl, fun hn => absurd hsame (Classical.not_and_iff_not_or_not.mpr hn)⟩
      · simp only [applyWanted, hc, if_neg hsame, writeAlertClaim_eq]
        refine ⟨rfl, fun hs => absurd hs hsame, fun _ => ?_⟩
        show (changeClaim 3 (some (wantedSlot (some k) w)) b).arbiter = _
        rw [changeClaim_arbiter, if_pos (hmode.trans h)]
        rfl
    · simp only [applyWanted, hc]
      cases hlin : b.alert.linger with
      | none => exact ⟨rfl, by rw [if_pos rfl, ← hb .ms (by decide)]; rfl⟩
      | some x => exact ⟨rfl, by rw [hlin, if_neg (by simp)]⟩
  · have hexec : exec .lingerTimerExpiry s = .next (expireLinger s) := if_pos (by rw [hl]; exact timerDue_some.mpr h)
    rw [hexec, Host.Outcome.next.injEq]
    by_cases hrun : s.mode = .running
    · rw [if_pos hrun]
      exact if_pos hrun
    · rw [if_neg hrun]
      exact if_neg hrun
  · refine if_neg ?_
    rw [hl, timerDue_some]
    omega

end Sys2Proof.Machine
end

section
/-! PROOFS. The arbiter (chapter 8): the winner of a decision (R139) and the expiry of a claim (R136). -/

namespace Sys2Proof.Machine

/-! ### The claims held -/

/-- The held claims are the occupied slots, each with the source of its slot. -/
theorem mem_heldClaims (a : Arbiter) (src : Source) (c : Claim) :
    (src, c) ∈ heldClaims a ↔ ∃ i, src.slot = some i ∧ a.claims.get i = some c := by
  constructor
  · intro h
    simp only [heldClaims, List.mem_filterMap, List.mem_cons, List.not_mem_nil, or_false, Option.map_eq_some_iff,
      Prod.mk.injEq] at h
    obtain ⟨p, hp, d, hd, hsrc, hdc⟩ := h
    subst hsrc hdc
    rcases hp with hp | hp | hp | hp <;> subst hp
    · exact ⟨0, rfl, hd⟩
    · exact ⟨1, rfl, hd⟩
    · exact ⟨2, rfl, hd⟩
    · exact ⟨3, rfl, hd⟩
  · rintro ⟨i, hslot, hget⟩
    refine List.mem_filterMap.mpr ⟨(src, some c), ?_, rfl⟩
    rw [← hget]
    cases src <;> cases hslot <;> simp [Quad.get]

/-- Every slot of the claim table has its source. -/
theorem exists_source (i : Fin 4) : ∃ src : Source, src.slot = some i := by
  match i with
  | 0 => exact ⟨.cab, rfl⟩
  | 1 => exact ⟨.body, rfl⟩
  | 2 => exact ⟨.chassis, rfl⟩
  | 3 => exact ⟨.alert, rfl⟩

/-- The held claims stand in the order of their slots. -/
theorem heldClaims_ordered (a : Arbiter) :
    (heldClaims a).Pairwise fun p q => ∀ i j, p.1.slot = some i → q.1.slot = some j → i < j := by
  refine List.Pairwise.filterMap (R := fun p q => ∀ i j, p.1.slot = some i → q.1.slot = some j → i < j) _ ?_ ?_
  · rintro ⟨src, c⟩ ⟨src', c'⟩ h p hp q hq
    obtain ⟨_, _, rfl⟩ := Option.map_eq_some_iff.mp hp
    obtain ⟨_, _, rfl⟩ := Option.map_eq_some_iff.mp hq
    exact h
  · simp [Source.slot]

/-- The running maximum of a list of claims is at least where it started and at least each claim's level. -/
theorem le_foldl_level (l : List (Source × Claim)) (n : Nat) :
    n ≤ l.foldl (fun n p => max n p.2.level) n ∧ ∀ p ∈ l, p.2.level ≤ l.foldl (fun n p => max n p.2.level) n := by
  induction l generalizing n with
  | nil => simp
  | cons q l ih =>
    obtain ⟨hstart, hall⟩ := ih (max n q.2.level)
    refine ⟨Nat.le_trans (Nat.le_max_left _ _) hstart, fun p hp => ?_⟩
    rcases List.mem_cons.mp hp with rfl | hp
    · exact Nat.le_trans (Nat.le_max_right _ _) hstart
    · exact hall p hp

theorem level_le_topLevel {l : List (Source × Claim)} {p : Source × Claim} (h : p ∈ l) : p.2.level ≤ topLevel l :=
  (le_foldl_level l 0).2 p h

/-- The running maximum is where it started or the level of a claim. -/
theorem foldl_level_attained (l : List (Source × Claim)) (n : Nat) :
    l.foldl (fun n p => max n p.2.level) n = n ∨ ∃ p ∈ l, p.2.level = l.foldl (fun n p => max n p.2.level) n := by
  induction l generalizing n with
  | nil => exact .inl rfl
  | cons q l ih =>
    rcases ih (max n q.2.level) with h | ⟨p, hp, hlevel⟩
    · rcases Nat.le_total q.2.level n with hle | hle
      · exact .inl (h.trans (Nat.max_eq_left hle))
      · exact .inr ⟨q, List.mem_cons_self, (h.trans (Nat.max_eq_right hle)).symm⟩
    · exact .inr ⟨p, List.mem_cons_of_mem _ hp, hlevel⟩

theorem exists_level_eq_topLevel {l : List (Source × Claim)} (h : l ≠ []) : ∃ p ∈ l, p.2.level = topLevel l := by
  rcases foldl_level_attained l 0 with h0 | hp
  · obtain ⟨q, hq⟩ := List.exists_mem_of_ne_nil l h
    exact ⟨q, hq, Nat.le_antisymm (level_le_topLevel hq) (Nat.le_trans (Nat.le_of_eq h0) (Nat.zero_le _))⟩
  · exact hp

/-- The held claims of the highest level. -/
def topClaims (a : Arbiter) : List (Source × Claim) :=
  (heldClaims a).filter fun p => decide (p.2.level = topLevel (heldClaims a))

theorem mem_topClaims (a : Arbiter) (src : Source) (c : Claim) :
    (src, c) ∈ topClaims a ↔
      (∃ i, src.slot = some i ∧ a.claims.get i = some c) ∧ ∀ x d, a.claims.get x = some d → d.level ≤ c.level := by
  have hhighest : (src, c) ∈ heldClaims a →
      (c.level = topLevel (heldClaims a) ↔ ∀ x d, a.claims.get x = some d → d.level ≤ c.level) := by
    intro hmem
    constructor
    · intro htop x d hd
      obtain ⟨s, hs⟩ := exists_source x
      exact htop ▸ level_le_topLevel ((mem_heldClaims a s d).mpr ⟨x, hs, hd⟩)
    · intro hall
      obtain ⟨⟨s, d⟩, hd, htop⟩ := exists_level_eq_topLevel (List.ne_nil_of_mem hmem)
      obtain ⟨x, _, hx⟩ := (mem_heldClaims a s d).mp hd
      exact Nat.le_antisymm (level_le_topLevel hmem) (htop ▸ hall x d hx)
  rw [topClaims, List.mem_filter, decide_eq_true_iff, ← mem_heldClaims]
  exact and_congr_right hhighest

theorem topClaims_ne_nil {a : Arbiter} {i : Fin 4} {k : Claim} (h : a.claims.get i = some k) : topClaims a ≠ [] := by
  have hheld : heldClaims a ≠ [] := by
    obtain ⟨src, hsrc⟩ := exists_source i
    exact List.ne_nil_of_mem ((mem_heldClaims a src k).mpr ⟨i, hsrc, h⟩)
  obtain ⟨p, hp, htop⟩ := exists_level_eq_topLevel hheld
  exact List.ne_nil_of_mem (List.mem_filter.mpr ⟨hp, decide_eq_true htop⟩)

/-- The winner is the granted claim of the highest level. -/
theorem winner_of_granted {a : Arbiter} {p : Source × Claim}
    (h : (topClaims a).find? (fun p => p.2.granted) = some p) : winner a = ⟨p.2.layout, p.1, some p.2.level⟩ := by
  rw [topClaims] at h
  rw [winner, h]

/-- With no granted claim of the highest level the winner is the first of them. -/
theorem winner_of_first {a : Arbiter} {p : Source × Claim} {l : List (Source × Claim)}
    (h : (topClaims a).find? (fun p => p.2.granted) = none) (htop : topClaims a = p :: l) :
    winner a = ⟨p.2.layout, p.1, some p.2.level⟩ := by
  rw [topClaims] at h htop
  rw [htop] at h
  simp only [winner, htop, h]

theorem winner_of_none {a : Arbiter} (h : a.claims = Quad.all none) : winner a = ⟨a.home, .home, none⟩ := by
  have hheld : heldClaims a = [] := by simp [heldClaims, h, Quad.all]
  simp [winner, hheld]

/-- Settles O29: the winner is the granted one of the topmost claims, or else the first of them. -/
theorem winnerIsTheHighestClaim : Obligations.WinnerIsTheHighestClaim := by
  unfold Obligations.WinnerIsTheHighestClaim
  refine fun a => ⟨winner_of_none, fun i k hk => ?_⟩
  cases hfind : (topClaims a).find? (fun p => p.2.granted) with
  | some p =>
    obtain ⟨src, w⟩ := p
    obtain ⟨⟨j, hslot, hj⟩, hall⟩ := (mem_topClaims a src w).mp (List.mem_of_find?_eq_some hfind)
    have hgranted : w.granted = true := List.find?_some (p := fun p : Source × Claim => p.2.granted) hfind
    exact ⟨j, w, src, hj, hslot, winner_of_granted hfind, hall, fun hno => absurd hgranted (by simp [hno])⟩
  | none =>
    cases htop : topClaims a with
    | nil => exact absurd htop (topClaims_ne_nil hk)
    | cons p l =>
      obtain ⟨src, w⟩ := p
      obtain ⟨⟨j, hslot, hj⟩, hall⟩ := (mem_topClaims a src w).mp (htop ▸ List.mem_cons_self)
      refine ⟨j, w, src, hj, hslot, winner_of_first hfind htop, hall, fun _ x c hc hlevel => ?_⟩
      obtain ⟨s, hs⟩ := exists_source x
      have hsc : (s, c) ∈ topClaims a :=
        (mem_topClaims a s c).mpr ⟨⟨x, hs, hc⟩, fun y d hd => hlevel ▸ hall y d hd⟩
      refine ⟨by simpa using List.find?_eq_none.mp hfind _ hsc, ?_⟩
      have hord : (topClaims a).Pairwise fun p q => ∀ i j, p.1.slot = some i → q.1.slot = some j → i < j :=
        (heldClaims_ordered a).filter _
      rw [htop] at hsc hord
      rcases List.mem_cons.mp hsc with heq | hlater
      · obtain ⟨rfl, rfl⟩ := Prod.mk.inj heq
        exact Fin.le_of_eq (Option.some.inj (hslot.symm.trans hs))
      · exact Fin.le_of_lt (List.rel_of_pairwise_cons hord hlater j x hslot hs)

/-! ### The expiry of a claim -/

theorem claimDue_of_reached {now e : Word} {k : Claim} (hk : k.expiry = some e) (h : (now - e).toNat < 2147483648) :
    claimDue now (some k) = true := by
  simp only [claimDue, hk, reached, decide_eq_true_eq]
  exact h

theorem not_claimDue_of_ahead {now e : Word} {k : Claim} (hk : k.expiry = some e)
    (h : 2147483648 ≤ (now - e).toNat) : ¬ claimDue now (some k) = true := by
  simp only [claimDue, hk, reached, decide_eq_true_eq, Nat.not_lt]
  exact h

theorem decisionEvent_arbiter (s : State) :
    (decisionEvent s).arbiter = if s.mode = .running then decideArbiter s.arbiter else s.arbiter := by
  unfold decisionEvent
  split
  · rfl
  · rfl

theorem decisionEvent_ports_eq (s : State) : (decisionEvent s).ports = s.ports := by
  unfold decisionEvent
  split
  · rfl
  · rfl

/-- The claim's slot is empty and its lapse counted, before the notice and the decision. -/
def claimLeft (m : Master) (s : State) : State :=
  (setClaim (masterSlot m) none s).mapArbiter fun a => { a with lapses := a.lapses.set m (satAdd (a.lapses.get m) 1) }

theorem lapseClaim_arbiter (m : Master) (s : State) :
    (lapseClaim m s).arbiter =
      let a : Arbiter :=
        { s.arbiter with
          claims := s.arbiter.claims.set (masterSlot m) none
          lapses := s.arbiter.lapses.set m (satAdd (s.arbiter.lapses.get m) 1) }
      if s.mode = .running then decideArbiter a else a :=
  decisionEvent_arbiter (raiseNotice .claimLapsed (claimLeft m s))

theorem lapseClaim_keeps (m : Master) (s : State) : KeepsBut [.arbiter, .ports] s (lapseClaim m s) := by
  have hleft : KeepsBut [.arbiter] s (claimLeft m s) := (mapArbiter_keeps s _).chain (mapArbiter_keeps _ _) (by simp)
  have hraised := hleft.trans (raiseNotice_keeps .claimLapsed (claimLeft m s))
  exact hraised.chain (decisionEvent_keeps _) (by simp)

/-- Settles O31: a claim is due just when the counter has reached its expiry millisecond. -/
theorem claimExpiryRemovesTheClaim : Obligations.ClaimExpiryRemovesTheClaim := by
  unfold Obligations.ClaimExpiryRemovesTheClaim
  refine fun m s => ⟨fun k e hk he hdue => ?_, fun k e hk he hahead => ?_, fun k hk he => ?_, fun hk => ?_⟩
  · have hports : (lapseClaim m s).ports = (raiseNotice .claimLapsed (claimLeft m s)).ports := decisionEvent_ports_eq _
    have hnotice := (raiseNotice_noticesOnly .claimLapsed (claimLeft m s)).trans (.of_ports hports)
    have hraised := (raiseNotice_raised .claimLapsed (claimLeft m s)).trans (.of_ports hports) rfl
    exact ⟨lapseClaim m s, if_pos (hk ▸ claimDue_of_reached he hdue), lapseClaim_arbiter m s, hnotice, hraised,
      lapseClaim_keeps m s⟩
  · exact if_neg (hk ▸ not_claimDue_of_ahead he hahead)
  · exact if_neg (by simp [hk, claimDue, he])
  · exact if_neg (by simp [hk, claimDue])

end Sys2Proof.Machine
end

section
/-! PROOFS. Requests (R161 to R163): a response on its way, a request that is taken as it arrives, and the general checks. -/

namespace Sys2Proof.Machine

/-! ### A response on its way -/

/-- A produced cab frame is being sent or waits. -/
theorem produceCab_answered (f : CabFrame) (p : Ports) :
    (produceCab (.frame f) p).sending = some f ∨ CabWaiting.frame f ∈ (produceCab (.frame f) p).waiting := by
  simp only [produceCab, reduceCtorEq, false_and, if_false]
  cases hsending : p.sending with
  | some g => exact .inr (by simp [beginSending])
  | none =>
    match hwaiting : p.waiting with
    | [] => exact .inl (by simp [beginSending])
    | .frame g :: rest => exact .inr (by simp [beginSending])
    | .notice :: rest => exact .inr (by simp [beginSending])

/-- A response is on its way, and only frames to its master have changed. -/
theorem respond_answersWith (m : Master) (r : Request) (code : ResponseCode) (results : List Byte) (role : FrameRole)
    (s : State) : AnswersWith m r code results role s (respond m r code results role s) := by
  refine ⟨?_, ?_, respond_keeps m r code results role s⟩
  · cases m
    · exact produceCab_answered _ _
    · simp [Answered, respond, masterPort, storeFrame, mapPort, canResponse]
    · simp [Answered, respond, masterPort, storeFrame, mapPort, canResponse]
  · cases m
    · exact produceCab_only (.frame (cabResponse r code results role)) s.ports
    · simp [SendsOnly, respond, masterPort, storeFrame, mapPort]
    · simp [SendsOnly, respond, masterPort, storeFrame, mapPort]

/-! ### Requests that are taken as they arrive -/

theorem takeRequest_of_judge {m : Master} {r : Request} {s : State} {a : Answer} (h : judge m r s = a) :
    takeRequest m r s = noticeIf a.noticeAfter (respond m r a.code a.results a.role a.state) := by
  subst h
  rfl

/-- What a request is judged to answer is on its way once it is taken. -/
theorem takeRequest_answersWith {m : Master} {r : Request} {s u : State} {code : ResponseCode} {results : List Byte}
    {role : FrameRole} (h : judge m r s = ⟨code, results, role, u, false⟩) :
    AnswersWith m r code results role u (takeRequest m r s) := by
  rw [takeRequest_of_judge h]
  exact respond_answersWith m r code results role u

/-- A request that finds its queue empty and no response on its way is taken at once. -/
theorem present_takenAtOnce {m : Master} {s : State} (h : takenAtOnce m s) (r : Request) :
    present m r s = takeRequest m r s := by
  obtain ⟨hreceive, hqueue, hidle⟩ := h
  have hset : setQueue m [] (setQueue m [r] s) = s := by
    have hqueues : ((s.ports.queues.set m [r]).set m []) = s.ports.queues := by
      rw [PerMaster.set_set, ← hqueue, PerMaster.set_get]
    simp only [setQueue, State.mapPorts, hqueues]
  have hidle' : answering m (setQueue m [r] s) = false := by cases m <;> exact hidle
  have hnext : (setQueue m [r] s).ports.queues.get m = [r] := PerMaster.get_set_same _ _ _
  have hroom : ¬ 4 ≤ (s.ports.queues.get m).length := by simp [hqueue]
  rw [present, if_pos hreceive, arrive, if_neg hroom, hqueue, List.nil_append, serve, if_neg (by simp [hidle']), hnext]
  exact congrArg (takeRequest m r) hset

/-- A request row's command takes its request at once. -/
theorem sendRequest_takenAtOnce {m : Master} {s : State} (h : takenAtOnce m s) (kind tag : Byte) (payload : List Byte) :
    sendRequest m kind tag payload s = .next (takeRequest m ⟨kind, tag, payload⟩ s) :=
  congrArg Host.Outcome.next (present_takenAtOnce h _)

/-! ### The general checks (R163) -/

theorem judge_of_unknown {m : Master} {r : Request} {s : State} (h : isRequest r.kind = false) :
    judge m r s = refuse .unknownKind s := if_pos h

theorem judge_of_notPermitted {m : Master} {r : Request} {s : State} (h : isRequest r.kind = true)
    (hp : permitted m r.kind = false) : judge m r s = refuse .notPermitted s :=
  (if_neg (by simp [h])).trans (if_pos hp)

theorem judge_of_starting {m : Master} {r : Request} {s : State} (h : isRequest r.kind = true)
    (hp : permitted m r.kind = true) (hm : s.mode = .starting) (hk : r.kind ≠ 0x04#8) :
    judge m r s = refuse .wrongState s :=
  (if_neg (by simp [h])).trans ((if_neg (by simp [hp])).trans (if_pos ⟨hm, hk⟩))

/-- Past the general checks a request is judged by its own rule. -/
theorem judge_of_own {m : Master} {r : Request} {s : State} (h : isRequest r.kind = true)
    (hp : permitted m r.kind = true) (hm : s.mode = .starting → r.kind = 0x04#8) : judge m r s = takeOwn m r s :=
  (if_neg (by simp [h])).trans ((if_neg (by simp [hp])).trans (if_neg fun hs => hs.2 (hm hs.1)))

theorem permitted_low (m : Master) {kind : Byte} (h : m = .cab ∨ kind.toNat ≤ 5) : permitted m kind = true := by
  cases m <;> simp_all [permitted]

theorem not_permitted_high {m : Master} {kind : Byte} (hm : m ≠ .cab) (h : 6 ≤ kind.toNat) :
    permitted m kind = false := by
  cases m
  · exact absurd rfl hm
  · exact decide_eq_false (by omega)
  · exact decide_eq_false (by omega)

theorem lengthed_of_length {n : Nat} {payload : List Byte} {s : State} {own : Answer} (h : payload.length = n) :
    lengthed n payload s own = own := if_pos h

/-! ### The bytes of a request -/

theorem toByte_toNat (n : Nat) : (toByte n).toNat = n % 256 := BitVec.toNat_ofNat n 8

theorem getD_append_of_lt {α : Type} {l l' : List α} {i : Nat} {d : α} (h : i < l.length) :
    (l ++ l').getD i d = l.getD i d := by
  rw [List.getD_eq_getElem?_getD, List.getD_eq_getElem?_getD, List.getElem?_append_left h]

theorem byteAt_append_left {l l' : List Byte} {i : Nat} (h : i < l.length) : byteAt (l ++ l') i = byteAt l i := by
  rw [byteAt, byteAt, getD_append_of_lt h]

theorem byteAt_append_right (l l' : List Byte) (i : Nat) : byteAt (l ++ l') (l.length + i) = byteAt l' i := by
  rw [byteAt, byteAt, List.getD_eq_getElem?_getD, List.getD_eq_getElem?_getD,
    List.getElem?_append_right (Nat.le_add_right _ _), Nat.add_sub_cancel_left]

/-- The bytes that complete a cab frame, from any byte of it on, take the whole frame (R159). -/
theorem takeCabBytes_completes {whole : List Byte} (hlength : whole.length = byteAt whole 0 + 5)
    (hrange : byteAt whole 0 ≤ 200) (rest received : List Byte) (last : Word) (s : State)
    (hframer : s.ports.framer = .frame received last) (hrest : rest ≠ []) (hwhole : received ++ rest = whole) :
    ∃ x, takeCabBytes rest s = takeCabFrame whole (setFramer x s) := by
  induction rest generalizing received last s with
  | nil => exact absurd rfl hrest
  | cons b rest ih =>
    have hjoined : (received ++ [b]) ++ rest = whole := by rw [List.append_assoc]; exact hwhole
    have hfirst : byteAt (received ++ [b]) 0 = byteAt whole 0 := by
      rw [← hjoined]
      exact (byteAt_append_left (by simp)).symm
    have hbyte : takeCabByte b s = growCabFrame (received ++ [b]) s := by rw [takeCabByte, hframer]
    have hstart : takeCabBytes (b :: rest) s = takeCabBytes rest (takeCabByte b s) := rfl
    rw [hstart, hbyte, growCabFrame, hfirst, if_neg (by omega)]
    cases rest with
    | nil =>
      rw [List.append_nil] at hjoined
      rw [hjoined, if_pos (Nat.le_of_eq hlength.symm)]
      exact ⟨s.ports.framer, rfl⟩
    | cons c rest =>
      have hshort : ¬ byteAt whole 0 + 5 ≤ (received ++ [b]).length := by
        have := congrArg List.length hjoined
        rw [List.length_append, List.length_cons] at this
        omega
      rw [if_neg hshort]
      obtain ⟨x, hx⟩ := ih (received ++ [b]) s.ms (setFramer (.frame (received ++ [b]) s.ms) s) rfl (by simp) hjoined
      exact ⟨x, hx⟩

/-- The bytes of a cab frame after its start byte (R159). -/
def frameBytes (kind tag : Byte) (payload : List Byte) : List Byte :=
  let l := toByte payload.length :: kind :: tag :: payload
  l ++ [toByte ((crc16 l).toNat / 256), toByte (crc16 l).toNat]

theorem frameBytes_first {kind tag : Byte} {payload : List Byte} (h : payload.length ≤ 200) :
    byteAt (frameBytes kind tag payload) 0 = payload.length := by
  refine (toByte_toNat payload.length).trans (Nat.mod_eq_of_lt (by omega))

theorem frameBytes_length (kind tag : Byte) (payload : List Byte) :
    (frameBytes kind tag payload).length = payload.length + 5 := by
  simp [frameBytes]

theorem cabFrameWhole_frameBytes {kind tag : Byte} {payload : List Byte} (h : payload.length ≤ 200) :
    cabFrameWhole (frameBytes kind tag payload) = true := by
  have hcrc : ∀ (l : List Byte), crc16 ((l ++ [toByte ((crc16 l).toNat / 256), toByte (crc16 l).toNat]).take l.length) =
      BitVec.ofNat 16 (256 * byteAt (l ++ [toByte ((crc16 l).toNat / 256), toByte (crc16 l).toNat]) l.length +
        byteAt (l ++ [toByte ((crc16 l).toNat / 256), toByte (crc16 l).toNat]) (l.length + 1)) := by
    intro l
    rw [List.take_left, byteAt_append_right l _ 1]
    have h0 := byteAt_append_right l [toByte ((crc16 l).toNat / 256), toByte (crc16 l).toNat] 0
    rw [Nat.add_zero] at h0
    rw [h0]
    refine BitVec.eq_of_toNat_eq ?_
    have hlt := (crc16 l).isLt
    simp only [byteAt, List.getD_cons_zero, List.getD_cons_succ, toByte_toNat, BitVec.toNat_ofNat]
    omega
  have hlen : (frameBytes kind tag payload).length - 2 = (toByte payload.length :: kind :: tag :: payload).length := by
    simp [frameBytes]
  have hlen' : (frameBytes kind tag payload).length - 1 = (toByte payload.length :: kind :: tag :: payload).length + 1 := by
    simp [frameBytes]
  simp only [cabFrameWhole, Bool.and_eq_true, decide_eq_true_eq, receivedCrc, hlen, hlen']
  exact ⟨⟨Nat.le_trans (Nat.le_of_eq (frameBytes_first h)) h, by rw [frameBytes_length, frameBytes_first h]⟩, hcrc _⟩

theorem cabRequest_frameBytes {kind tag : Byte} {payload : List Byte} (h : payload.length ≤ 200) :
    cabRequest (frameBytes kind tag payload) = ⟨kind, tag, payload⟩ := by
  rw [cabRequest, frameBytes_first h]
  simp [frameBytes]

/-! ### The arrival of a request -/

theorem present_of_unheard {m : Master} {s : State} (h : canReceive m s = false) (r : Request) : present m r s = s :=
  if_neg (by simp [h])

theorem present_of_full {m : Master} {s : State} (h : canReceive m s = true) (hfull : 4 ≤ (s.ports.queues.get m).length)
    (r : Request) : present m r s = respond m r .busy [] .busy s :=
  (if_pos h).trans (if_pos hfull)

/-- A request that arrives while a response is on its way waits. -/
theorem present_of_answering {m : Master} {s : State} (h : canReceive m s = true)
    (hroom : (s.ports.queues.get m).length < 4) (ha : answering m s = true) (r : Request) :
    present m r s = setQueue m (s.ports.queues.get m ++ [r]) s := by
  have ha' : answering m (setQueue m (s.ports.queues.get m ++ [r]) s) = true := by cases m <;> exact ha
  rw [present, if_pos h, arrive, if_neg (by omega), serve, if_pos ha']

theorem unknownToMaster_iff (m : Master) (kind : Byte) :
    unknownToMaster m kind = true ↔ isRequest kind = false ∧ (m ≠ .cab ∨ isDataKind kind = false) := by
  simp only [unknownToMaster, Bool.and_eq_true, Bool.not_eq_true', Bool.and_eq_false_iff, decide_eq_false_iff_not, ne_eq]

/-- Settles O32: the whole frame's bytes, the queue by the cases of its arrival, and the checks in their order. -/
theorem requestsAreQueuedAndJudgedInOrder : Obligations.RequestsAreQueuedAndJudgedInOrder := by
  unfold Obligations.RequestsAreQueuedAndJudgedInOrder
  refine ⟨fun p kind tag payload s => ?_, fun p l s hl => ?_, ?_, ?_, ?_⟩
  · exact congrArg Host.Outcome.next (if_neg (by simp))
  · exact congrArg Host.Outcome.next (if_pos hl)
  · intro kind tag payload received rest last s hlength hkind hframer hrest l hwhole
    have hbytes : received ++ rest = frameBytes kind tag payload := hwhole
    have hsize : (frameBytes kind tag payload).length = byteAt (frameBytes kind tag payload) 0 + 5 := by
      rw [frameBytes_length, frameBytes_first hlength]
    obtain ⟨x, hx⟩ := takeCabBytes_completes hsize (by rw [frameBytes_first hlength]; exact hlength) rest received last s
      hframer hrest hbytes
    have htake : takeCabFrame (frameBytes kind tag payload) (setFramer x s) =
        present .cab ⟨kind, tag, payload⟩ (endCabFrame (setFramer x s)) := by
      rw [takeCabFrame, if_pos (cabFrameWhole_frameBytes hlength), cabRequest_frameBytes hlength,
        if_neg (by simp [hkind])]
    exact congrArg Host.Outcome.next (hx.trans htake)
  · refine fun m kind tag payload s => ⟨fun hkind hdata => ?_, fun hkind => ?_⟩
    · exact if_pos ((unknownToMaster_iff m kind).mpr ⟨hkind, hdata⟩)
    · refine if_neg fun hunknown => ?_
      obtain ⟨hno, hdata⟩ := (unknownToMaster_iff m kind).mp hunknown
      rcases hkind with hyes | ⟨hcab, hyes⟩
      · simp [hno] at hyes
      · rcases hdata with hne | hno'
        · exact hne hcab
        · simp [hno'] at hyes
  · intro m r s
    refine ⟨fun h => present_of_unheard h r, fun h hfull => ?_, fun h hroom ha => present_of_answering h hroom ha r,
      fun h => ?_⟩
    · rw [present_of_full h hfull]
      exact respond_answersWith m r .busy [] .busy s
    · rw [present_takenAtOnce h]
      exact ⟨fun hk => takeRequest_answersWith (judge_of_unknown hk),
        fun hk hm hhigh => takeRequest_answersWith (judge_of_notPermitted hk (not_permitted_high hm hhigh)),
        fun hk hp hne hm => takeRequest_answersWith (judge_of_starting hk (permitted_low m hp) hm hne)⟩

end Sys2Proof.Machine
end

section
/-! PROOFS. The claim requests (R133 to R135), the requests that clear what they return, and those that move the operating state. -/

namespace Sys2Proof.Machine

/-! ### A request's own rule -/

/-- A request of one of the five kinds open to every master, outside STARTING. -/
theorem judge_of_low {m : Master} {r : Request} {s : State} (hm : s.mode ≠ .starting) (hk : isRequest r.kind = true)
    (h5 : r.kind.toNat ≤ 5) : judge m r s = takeOwn m r s :=
  judge_of_own hk (permitted_low m (.inr h5)) fun h => absurd h hm

/-- A request of the cab unit, outside STARTING. -/
theorem judge_of_cab {r : Request} {s : State} (hm : s.mode ≠ .starting) (hk : isRequest r.kind = true) :
    judge .cab r s = takeOwn .cab r s :=
  judge_of_own hk rfl fun h => absurd h hm

/-! ### CLAIM_VIEW and DROP_VIEW -/

theorem u16At_bytes16 (h : Half) (l : List Byte) : u16At (bytes16 h ++ l) 0 = h.toNat := by
  have hlt := h.isLt
  have heq : u16At (bytes16 h ++ l) 0 = (toByte h.toNat).toNat + 256 * (toByte (h.toNat / 256)).toNat := rfl
  rw [heq, toByte_toNat, toByte_toNat]
  omega

/-- The lifetime of a claim in milliseconds, 0 for a claim without expiry (R134). -/
def lastingTime (m : Master) (n : Nat) : Nat :=
  if n = 0 then (if m = .cab then 0 else 1000) else if n < 100 then 100 else if n ≤ 5000 then n else 5000

theorem resolveLifetime_held (m : Master) (n : Nat) :
    (resolveLifetime m n).held = if lastingTime m n = 0 then none else some (lastingTime m n) := by
  unfold resolveLifetime lastingTime
  by_cases h0 : n = 0
  · by_cases hm : m = .cab <;> simp [h0, hm]
  · by_cases hlow : n < 100
    · simp [h0, hlow]
    · by_cases hhigh : n ≤ 5000 <;> simp [h0, hlow, hhigh]

theorem resolveLifetime_clamped (m : Master) (n : Nat) :
    (resolveLifetime m n).clamped = true ↔ (0 < n ∧ n < 100) ∨ 5000 < n := by
  unfold resolveLifetime
  by_cases h0 : n = 0
  · by_cases hm : m = .cab <;> simp [h0, hm]
  · by_cases hlow : n < 100
    · simp [h0, hlow]; omega
    · by_cases hhigh : n ≤ 5000
      · simp [h0, hlow, hhigh]
      · simp [h0, hlow, hhigh]; omega

/-- The claim as CLAIM_VIEW writes it (R134). -/
theorem writtenClaim_eq (m : Master) (layout level n : Nat) (s : State) :
    writtenClaim m layout level (resolveLifetime m n) s =
      ⟨layout, min level (s.loaded.ports.maxLevel.get m),
        if lastingTime m n = 0 then none else some (s.ms + BitVec.ofNat 32 (lastingTime m n)),
        match s.arbiter.claims.get (masterSlot m) with
        | none => false
        | some k => k.granted && decide (k.layout = layout)⟩ := by
  have hexpiry : (resolveLifetime m n).held.map (fun k => s.ms + BitVec.ofNat 32 k) =
      if lastingTime m n = 0 then none else some (s.ms + BitVec.ofNat 32 (lastingTime m n)) := by
    rw [resolveLifetime_held]
    by_cases h0 : lastingTime m n = 0
    · rw [if_pos h0, if_pos h0, Option.map_none]
    · rw [if_neg h0, if_neg h0, Option.map_some]
  exact congrArg (fun e : Option Word =>
    Claim.mk layout (min level (s.loaded.ports.maxLevel.get m)) e
      (grantedAfter (s.arbiter.claims.get (masterSlot m)) layout)) hexpiry

/-- The claim table with one slot written. -/
abbrev Arbiter.withClaim (a : Arbiter) (i : Fin 4) (c : Option Claim) : Arbiter := { a with claims := a.claims.set i c }

theorem changeClaim_running {s : State} (h : s.mode = .running) (i : Fin 4) (c : Option Claim) :
    changeClaim i c s = { s with arbiter := decideArbiter (s.arbiter.withClaim i c) } := if_pos h

/-- The table after CLAIM_VIEW: a decision follows unless the claim is refreshed at its level (R134, R138). -/
theorem writeClaim_running {s : State} (h : s.mode = .running) (m : Master) (k : Claim) :
    writeClaim m k s =
      { s with
        arbiter := match s.arbiter.claims.get (masterSlot m) with
          | none => decideArbiter (s.arbiter.withClaim (masterSlot m) (some k))
          | some old =>
            if old.layout = k.layout ∧ old.level = k.level then s.arbiter.withClaim (masterSlot m) (some k)
            else decideArbiter (s.arbiter.withClaim (masterSlot m) (some k)) } := by
  rw [writeClaim, changeClaim_running h]
  cases s.arbiter.claims.get (masterSlot m) with
  | none => rfl
  | some old =>
    by_cases hsame : old.layout = k.layout ∧ old.level = k.level
    · simp only [tableChanges, hsame, and_self, if_true, decide_true, Bool.and_self, Bool.not_true, Bool.false_eq_true,
        if_false]
      rfl
    · simp only [tableChanges, ← Bool.decide_and, hsame, decide_false, Bool.not_false, if_true, if_false]

/-- Which code an accepted CLAIM_VIEW is answered with. -/
theorem acceptClaim_code (m : Master) (layout level n : Nat) (s : State) :
    (acceptClaim m layout level n s).code =
      if min level (s.loaded.ports.maxLevel.get m) < level ∨ (0 < n ∧ n < 100) ∨ 5000 < n then .doneClamped
      else .done := by
  show (if ((resolveLifetime m n).clamped || decide (min level (s.loaded.ports.maxLevel.get m) < level)) = true then
    ResponseCode.doneClamped else .done) = _
  simp only [Bool.or_eq_true, resolveLifetime_clamped, decide_eq_true_eq, or_comm]

theorem acceptClaim_results (m : Master) (layout level n : Nat) (s : State) :
    (acceptClaim m layout level n s).results =
      [match s.arbiter.claims.get (masterSlot m) with
        | none => 0#8
        | some k => if k.layout = layout then 1#8 else 2#8,
        toByte (min level (s.loaded.ports.maxLevel.get m))] ++ bytes16 (BitVec.ofNat 16 (lastingTime m n)) := by
  have hlast : (resolveLifetime m n).held.getD 0 = lastingTime m n := by
    rw [resolveLifetime_held]
    by_cases h0 : lastingTime m n = 0
    · rw [if_pos h0, h0]; rfl
    · rw [if_neg h0]; rfl
  have hcode : toByte (claimOutcome (s.arbiter.claims.get (masterSlot m)) layout).code =
      match s.arbiter.claims.get (masterSlot m) with
        | none => 0#8
        | some k => if k.layout = layout then 1#8 else 2#8 := by
    cases s.arbiter.claims.get (masterSlot m) with
    | none => rfl
    | some k => by_cases hk : k.layout = layout <;> simp [claimOutcome, hk, ClaimOutcome.code, toByte]
  rw [← hlast, ← hcode]
  rfl

/-- Settles O33: the checks of each request in their order, the written claim and the decision. -/
theorem claimRequestsWriteTheClaimTable : Obligations.ClaimRequestsWriteTheClaimTable := by
  unfold Obligations.ClaimRequestsWriteTheClaimTable
  constructor
  · intro m tag layout level lifetime s htaken hmode r
    have hown : judge m r s = takeClaimView m r.payload s := judge_of_low hmode rfl (show (0x01#8 : Byte).toNat ≤ 5 by decide)
    have hlength : ¬ r.payload.length ≠ 4 := by simp [r, bytes16]
    have hlifetime : u16At r.payload 2 = lifetime.toNat := by
      have := u16At_bytes16 lifetime []
      rwa [List.append_nil] at this
    refine ⟨takeRequest m r s, sendRequest_takenAtOnce htaken _ _ _, fun hmay => ?_, fun hmay hservice => ?_,
      fun hmay hrunning hrange => ?_, fun hmay hrunning hlow hpresent => ?_⟩
    · exact takeRequest_answersWith (hown.trans (if_pos hmay))
    · refine takeRequest_answersWith (hown.trans ?_)
      exact (if_neg (by simp [hmay])).trans ((if_neg hlength).trans (if_pos hservice))
    · refine takeRequest_answersWith (hown.trans ?_)
      have hout : 11 < byteAt r.payload 0 ∨ layoutPresent s.loaded.layouts (byteAt r.payload 0) = false :=
        hrange.imp_right fun h => Option.isSome_eq_false_iff.mpr (Option.isNone_iff_eq_none.mpr h)
      exact (if_neg (by simp [hmay])).trans ((if_neg hlength).trans ((if_neg (by simp [hrunning])).trans (if_pos hout)))
    · have hin : ¬ (11 < byteAt r.payload 0 ∨ layoutPresent s.loaded.layouts (byteAt r.payload 0) = false) := by
        rintro (h | h)
        · exact absurd hlow (Nat.not_le.mpr h)
        · exact hpresent (Option.isNone_iff_eq_none.mp (Option.isSome_eq_false_iff.mp h))
      have haccept : judge m r s = acceptClaim m layout.toNat level.toNat lifetime.toNat s := by
        rw [hown, takeClaimView, if_neg (by simp [hmay]), if_neg hlength, if_neg (by simp [hrunning]), if_neg hin,
          hlifetime]
        rfl
      refine takeRequest_answersWith (haccept.trans ?_)
      show Answer.mk (acceptClaim m layout.toNat level.toNat lifetime.toNat s).code
        (acceptClaim m layout.toNat level.toNat lifetime.toNat s).results .answer
        (writeClaim m (writtenClaim m layout.toNat level.toNat (resolveLifetime m lifetime.toNat) s) s) false = _
      rw [acceptClaim_code, acceptClaim_results, writeClaim_running hrunning, writtenClaim_eq]
      rfl
  · intro m tag s htaken hmode r
    have hown : judge m r s = takeDropView m r.payload s := judge_of_low hmode rfl (show (0x02#8 : Byte).toNat ≤ 5 by decide)
    have hlength : ¬ r.payload.length ≠ 0 := by simp [r]
    refine ⟨takeRequest m r s, sendRequest_takenAtOnce htaken _ _ _, fun hmay => ?_, fun hmay hempty => ?_,
      fun hmay hrunning hheld => ?_⟩
    · exact takeRequest_answersWith (hown.trans (if_pos hmay))
    · refine takeRequest_answersWith (hown.trans ?_)
      rw [takeDropView, if_neg (by simp [hmay]), if_neg hlength, hempty]
      rfl
    · refine takeRequest_answersWith (hown.trans ?_)
      obtain ⟨k, hk⟩ := Option.ne_none_iff_exists'.mp hheld
      rw [takeDropView, if_neg (by simp [hmay]), if_neg hlength, hk, changeClaim_running hrunning]
      rfl

/-! ### Requests that return something and clear it -/

/-- The first mark that `p` holds of is the one after a part of which it holds of none. -/
theorem mapFirst_append {p : Mark → Bool} {f : Mark → Mark} {before : List Mark} {x : Mark} (after : List Mark)
    (h : ∀ y ∈ before, p y = false) (hx : p x = true) :
    mapFirst p f (before ++ x :: after) = before ++ f x :: after := by
  induction before with
  | nil => exact if_pos hx
  | cons y before ih =>
    rw [List.cons_append, mapFirst, if_neg (by simp [h y]), ih fun z hz => h z (List.mem_cons_of_mem _ hz)]
    rfl

theorem find?_append_of {p : Mark → Bool} {before : List Mark} {x : Mark} (after : List Mark)
    (h : ∀ y ∈ before, p y = false) (hx : p x = true) : (before ++ x :: after).find? p = some x := by
  rw [List.find?_append, List.find?_eq_none.mpr fun y hy => by simp [h y hy], Option.none_or, List.find?_cons_of_pos hx]

/-- Settles O35: each request's own rule answers what stands, from the state without what it clears. -/
theorem clearingRequestsReturnAndClear : Obligations.ClearingRequestsReturnAndClear := by
  unfold Obligations.ClearingRequestsReturnAndClear
  refine ⟨fun m tag s htaken hmode => ?_, fun tag s htaken hmode => ⟨?_, ?_, ?_, ?_⟩⟩
  · exact ⟨_, sendRequest_takenAtOnce htaken _ _ _, takeRequest_answersWith (judge_of_low hmode rfl (show (0x03#8 : Byte).toNat ≤ 5 by decide))⟩
  · exact ⟨_, sendRequest_takenAtOnce htaken _ _ _, takeRequest_answersWith (judge_of_cab hmode rfl)⟩
  · exact ⟨_, sendRequest_takenAtOnce htaken _ _ _, takeRequest_answersWith (judge_of_cab hmode rfl)⟩
  · have hown : judge .cab ⟨0x13#8, tag, []⟩ s = takeCollectMark [] s := judge_of_cab hmode rfl
    refine ⟨_, sendRequest_takenAtOnce htaken _ _ _, fun hall => ?_, fun before x after hmarks hx hbefore => ?_⟩
    · have hnone : (s.incident.marks.find? fun m => !m.collected) = none :=
        List.find?_eq_none.mpr fun y hy => by simp [hall y hy]
      refine takeRequest_answersWith (hown.trans ?_)
      rw [takeCollectMark, lengthed_of_length List.length_nil, hnone]
      rfl
    · have hnot : ∀ y ∈ before, (!y.collected) = false := fun y hy => by simp [hbefore y hy]
      have hfind : (s.incident.marks.find? fun m => !m.collected) = some x := by
        rw [hmarks]
        exact find?_append_of after hnot (by simp [hx])
      have hcollect : collectOldest s.incident.marks = before ++ { x with collected := true } :: after := by
        rw [hmarks]
        exact mapFirst_append after hnot (by simp [hx])
      refine takeRequest_answersWith (hown.trans ?_)
      rw [takeCollectMark, lengthed_of_length List.length_nil, hfind, ← hcollect]
      rfl
  · refine ⟨clearCounters s, _, sendRequest_takenAtOnce htaken _ _ _,
      takeRequest_answersWith (judge_of_cab hmode rfl), rfl, ?_⟩
    rfl

/-! ### RESTART, LEAVE_SERVICE and ENTER_SERVICE -/

theorem flashBusy_iff (s : State) : flashBusy s = true ↔ s.flash.op ≠ .idle ∨ s.flash.exitPending = true := by
  simp [flashBusy]

theorem not_flashBusy {s : State} (hop : s.flash.op = .idle) (hexit : s.flash.exitPending = false) :
    ¬ flashBusy s = true := by
  simp [flashBusy, hop, hexit]

theorem mayEnterService_of {s : State} (hmode : s.mode = .running) (hspeed : s.alert.vehicle.speed.value = some 0)
    (hgear : s.alert.vehicle.gear.value ≠ some .reverse) (hlevel : s.alert.level = .none) : mayEnterService s = true := by
  simp [mayEnterService, standing0, hmode, hspeed, hgear, hlevel]

theorem not_mayEnterService_of {s : State}
    (h : s.mode = .service ∨ s.alert.vehicle.speed.value ≠ some 0 ∨ s.alert.vehicle.gear.value = some .reverse ∨
      s.alert.level ≠ .none) : ¬ mayEnterService s = true := by
  simp only [mayEnterService, standing0, Bool.and_eq_true, decide_eq_true_eq, Classical.not_and_iff_not_or_not, Classical.not_not]
  rcases h with h | h | h | h
  · exact .inl (.inl (.inl (by simp [h])))
  · exact .inl (.inl (.inr h))
  · exact .inl (.inr h)
  · exact .inr h

/-- The part in SERVICE, before SERVICE_ENTERED is raised (R173, R146). -/
def inService (s : State) : State :=
  { s with
    loader := { s.loader with mode := .service }
    arbiter := suspendClaims s.arbiter
    alert := { s.alert with linger := none } }

theorem inService_keeps (s : State) : KeepsBut [.loader, .arbiter, .alert] s (inService s) := by
  intro b hb
  cases b <;> simp_all [Block.same, inService]

/-- Settles O38: each request by the cases of its own rule. -/
theorem serviceRequestsMoveTheOperatingState : Obligations.ServiceRequestsMoveTheOperatingState := by
  unfold Obligations.ServiceRequestsMoveTheOperatingState
  refine fun tag s htaken hmode => ⟨?_, ?_, ?_⟩
  · have hown : judge .cab ⟨0x20#8, tag, []⟩ s = takeRestart [] s := judge_of_cab hmode rfl
    refine ⟨_, sendRequest_takenAtOnce htaken _ _ _, fun hbusy => ?_, fun hop hexit => ?_⟩
    · exact takeRequest_answersWith (hown.trans (if_pos ((flashBusy_iff s).mpr hbusy)))
    · exact takeRequest_answersWith (hown.trans (if_neg (not_flashBusy hop hexit)))
  · have hown : judge .cab ⟨0x22#8, tag, []⟩ s = takeLeaveService [] s := judge_of_cab hmode rfl
    refine ⟨_, sendRequest_takenAtOnce htaken _ _ _, fun hrunning => ?_, fun hservice hbusy => ?_,
      fun hservice hop hexit => ?_⟩
    · exact takeRequest_answersWith (hown.trans (if_pos (by simp [hrunning])))
    · exact takeRequest_answersWith
        (hown.trans ((if_neg (Classical.not_not.mpr hservice)).trans (if_pos ((flashBusy_iff s).mpr hbusy))))
    · exact takeRequest_answersWith
        (hown.trans ((if_neg (Classical.not_not.mpr hservice)).trans (if_neg (not_flashBusy hop hexit))))
  · have hown : judge .cab ⟨0x21#8, tag, []⟩ s = takeEnterService [] s := judge_of_cab hmode rfl
    refine ⟨_, sendRequest_takenAtOnce htaken _ _ _, fun hno => ?_, fun hrunning hspeed hgear hlevel => ?_⟩
    · exact takeRequest_answersWith (hown.trans (if_neg (not_mayEnterService_of hno)))
    · have hkeeps := (inService_keeps s).trans (raiseNotice_keeps .serviceEntered (inService s))
      exact ⟨raiseNotice .serviceEntered (inService s),
        takeRequest_answersWith (hown.trans (if_pos (mayEnterService_of hrunning hspeed hgear hlevel))), rfl, rfl, rfl,
        raiseNotice_noticesOnly .serviceEntered (inService s), raiseNotice_raised .serviceEntered (inService s), hkeeps⟩

end Sys2Proof.Machine
end

section
/-! PROOFS. The requests that report and change nothing (R164, R165, R167, R73, R74), and the flash operations (R174). -/

namespace Sys2Proof.Machine

/-! ### The full status by its blocks (10.7) -/

/-- The blocks of the full status: the head, the four claim slots, the vehicle, the four cameras, the zones, the tail. -/
def statusBlocks (s : State) : List (List Byte) :=
  [[toByte s.mode.code, flagByte (decide (s.flash.op ≠ .idle)), toByte s.alert.level.code,
      toByte s.alert.warningLevel.code, flagByte s.alert.silence, flagByte (warningLine s),
      toByte s.arbiter.state.code, toByte (layoutCode s.arbiter.shown),
      toByte (layoutCode (s.arbiter.target.map SwitchTarget.layout)), toByte (winningSource s.arbiter).code,
      toByte s.arbiter.dwell, toByte s.arbiter.home],
    claimBytes s.ms s.arbiter.claims.c0, claimBytes s.ms s.arbiter.claims.c1, claimBytes s.ms s.arbiter.claims.c2,
    claimBytes s.ms s.arbiter.claims.c3, vehicleBytes (vehicleReading s.alert.vehicle),
    cameraBytes s.intake.c0 s.exposure.c0, cameraBytes s.intake.c1 s.exposure.c1,
    cameraBytes s.intake.c2 s.exposure.c2, cameraBytes s.intake.c3 s.exposure.c3, (List.range 8).map (zoneByte s),
    [s.alert.activity, toByte (heldTracks s.tracker.tracks).length, toByte s.incident.marks.length,
      toByte (s.incident.marks.filter fun m => !m.collected).length] ++ bytes16 s.ports.pendingSets.cab]

theorem fullStatus_eq (s : State) : fullStatus s = (statusBlocks s).flatten := by
  simp [fullStatus, statusBlocks, Quad.toList]

theorem expiryBytes_length (now : Word) (e : Option Word) : (expiryBytes now e).length = 2 := by
  cases e
  · rfl
  · rfl

theorem claimBytes_length (now : Word) (c : Option Claim) : (claimBytes now c).length = 5 := by
  cases c <;> simp [claimBytes, expiryBytes_length]

theorem speedBytes_length (v : Option Nat) : (speedBytes v).length = 2 := by
  cases v
  · rfl
  · rfl

theorem vehicleBytes_length (v : VehicleReading) : (vehicleBytes v).length = 5 := by
  simp [vehicleBytes, speedBytes_length]

theorem cameraBytes_length (k : CameraIntake) (e : Exposure) : (cameraBytes k e).length = 10 := by
  cases h : e.stats <;> simp [cameraBytes, h, bytes16]

/-- The lengths of the blocks. -/
theorem statusBlocks_lengths (s : State) :
    (statusBlocks s).map List.length = [12, 5, 5, 5, 5, 5, 10, 10, 10, 10, 8, 6] := by
  simp [statusBlocks, claimBytes_length, vehicleBytes_length, cameraBytes_length, bytes16]

/-- A block of a list of blocks stands after those before it. -/
theorem flatten_block {L : List (List Byte)} {k : Nat} (hk : k < L.length) :
    (L.flatten.drop ((L.map List.length).take k).sum).take L[k].length = L[k] := by
  have hsplit : L.flatten = (L.take k).flatten ++ (L[k] ++ (L.drop (k + 1)).flatten) := by
    rw [← List.flatten_cons, List.getElem_cons_drop, ← List.flatten_append, List.take_append_drop]
  have hlength : ((L.map List.length).take k).sum = (L.take k).flatten.length := by
    rw [List.length_flatten, List.map_take]
  rw [hsplit, hlength, List.drop_left, List.take_left]

/-- A block of the full status at its offset. -/
theorem fullStatus_block (s : State) {k n len : Nat} {block : List Byte} (hget : (statusBlocks s)[k]? = some block)
    (hoff : (([12, 5, 5, 5, 5, 5, 10, 10, 10, 10, 8, 6] : List Nat).take k).sum = n) (hlen : block.length = len) :
    ((fullStatus s).drop n).take len = block := by
  obtain ⟨hk, hblock⟩ := List.getElem?_eq_some_iff.mp hget
  subst hblock hoff hlen
  rw [fullStatus_eq, ← statusBlocks_lengths s]
  exact flatten_block hk

theorem fullStatus_length (s : State) : (fullStatus s).length = 91 := by
  rw [fullStatus_eq, List.length_flatten, statusBlocks_lengths]
  rfl

theorem claimBytes_eq (now : Word) (c : Option Claim) :
    claimBytes now c =
      match c with
      | none => [255#8, 0#8, 0#8, 255#8, 255#8]
      | some k =>
        [toByte k.layout, toByte k.level, if k.granted then 1#8 else 0#8] ++
          match k.expiry with
          | none => [255#8, 255#8]
          | some e =>
            if (now - e).toNat < 2147483648 then [0#8, 0#8] else bytes16 (BitVec.ofNat 16 (min (e - now).toNat 65534)) := by
  cases c with
  | none => rfl
  | some k =>
    cases he : k.expiry with
    | none => simp only [claimBytes, he]; rfl
    | some e =>
      have hreached : reached now e = decide ((now - e).toNat < 2147483648) := rfl
      by_cases h : (now - e).toNat < 2147483648
      · rw [decide_eq_true h] at hreached
        simp only [claimBytes, expiryBytes, he, hreached, if_pos h, if_true]
        rfl
      · rw [decide_eq_false h] at hreached
        simp only [claimBytes, expiryBytes, he, hreached, if_neg h, Bool.false_eq_true, if_false]
        rfl

theorem findZone_isSome (zones : List Zone) (z : Fin 8) :
    (findZone zones z.val).isSome = true ↔ ∃ k ∈ zones, k.index = z := by
  simp only [findZone, List.find?_isSome, beq_iff_eq, Fin.val_inj]

/-! ### GET_TRACKS and PROBE_MAP -/

/-- The byte after the last track returned (R165). -/
theorem toByte_nextSlot (l : List (Nat × Track)) :
    toByte (nextSlot l) =
      match l[9]? with
      | none => 255#8
      | some p => if l.length = 10 then 255#8 else toByte (p.1 + 1) := by
  unfold nextSlot
  cases h9 : l[9]? with
  | none =>
    have hlen := List.getElem?_eq_none_iff.mp h9
    rw [if_neg (by omega)]
    rfl
  | some p =>
    obtain ⟨hlen, _⟩ := List.getElem?_eq_some_iff.mp h9
    by_cases h10 : l.length = 10
    · rw [if_neg (by omega)]
      simp only [h10, if_true]
      rfl
    · rw [if_pos (by omega)]
      simp only [h10, if_false]

theorem Remap.find_of_unique {r : Remap} {k : Key} {i : Nat} (hi : (r.entry i).key = some k)
    (hunique : ∀ j, (r.entry j).key = some k → j = i) : r.find k = some i := by
  have hlength : i < r.entries.length := lt_length_of_entry_key hi
  cases hfind : r.find k with
  | none =>
    have hnone := List.find?_eq_none.mp hfind i (List.mem_range.mpr hlength)
    exact absurd (decide_eq_true hi) hnone
  | some j =>
    have hj : (r.entry j).key = some k := by simpa using List.find?_some hfind
    rw [hunique j hj]

theorem Remap.find_of_absent {r : Remap} {k : Key} (h : ∀ i, (r.entry i).key ≠ some k) : r.find k = none :=
  List.find?_eq_none.mpr fun i _ => by simp [h i]

theorem probeBytes_of_absent {table : List Layout} {k : Key} {r : Remap}
    (h : isBuiltIn table k.layout = true ∨ ∀ i, (r.entry i).key ≠ some k) : probeBytes table k r = [0#8] := by
  unfold probeBytes
  rcases h with h | h
  · exact if_pos h
  · rw [Remap.find_of_absent h]
    exact ite_self _

theorem probeBytes_of_found {table : List Layout} {k : Key} {r : Remap} {i : Nat}
    (h : isBuiltIn table k.layout = false) (hi : (r.entry i).key = some k)
    (hunique : ∀ j, (r.entry j).key = some k → j = i) :
    probeBytes table k r = [1#8, toByte i, toByte (r.entry i).stateCode, flagByte (decide (i < r.pinned))] := by
  rw [probeBytes, if_neg (by simp [h]), Remap.find_of_unique hi hunique]

theorem entryBytes_eq (i : Nat) (r : Remap) :
    entryBytes i r =
      [toByte (r.entry i).stateCode, flagByte (decide (i < r.pinned)), toByte r.pinned, toByte r.pointer] ++
        match r.entry i with
        | .empty => []
        | .filling k x => [toByte k.layout, toByte k.pane] ++ bytes16 (BitVec.ofNat 16 k.pair) ++ [toByte x.code]
        | .valid k x e o =>
          [toByte k.layout, toByte k.pane] ++ bytes16 (BitVec.ofNat 16 k.pair) ++ [toByte x.code] ++ e.bytes ++ o.bytes := by
  unfold entryBytes
  cases r.entry i
  · rfl
  · rfl
  · rfl

/-- Settles O34: each answer is that of the request's own rule, the full status read block by block. -/
theorem readingRequestsChangeNothing : Obligations.ReadingRequestsChangeNothing := by
  unfold Obligations.ReadingRequestsChangeNothing
  refine ⟨fun m tag s htaken => ?_, fun tag s htaken hmode => ⟨fun first => ?_, fun layout pane pair => ?_, fun index => ?_, ?_⟩⟩
  · have hown : judge m ⟨0x04#8, tag, []⟩ s = takeGetStatus m [] s :=
      judge_of_own rfl (permitted_low m (.inr (show (0x04#8 : Byte).toNat ≤ 5 by decide))) fun _ => rfl
    refine ⟨_, sendRequest_takenAtOnce htaken _ _ _, fun hm => ?_, fun hm => ?_⟩
    · refine takeRequest_answersWith (hown.trans ?_)
      rw [takeGetStatus, lengthed_of_length List.length_nil, if_neg hm]
      rfl
    · subst hm
      refine ⟨fullStatus s, takeRequest_answersWith (hown.trans rfl), fullStatus_length s, ?_, ?_, ?_, ?_, ?_, ?_⟩
      · have hhead := fullStatus_block s (k := 0) (n := 0) (len := 12) rfl rfl rfl
        rw [List.drop_zero] at hhead
        refine hhead.trans ?_
        by_cases hop : s.flash.op = .idle <;> simp [hop, flagByte]
      · intro i
        have hblock : ((fullStatus s).drop (12 + 5 * i.val)).take 5 = claimBytes s.ms (s.arbiter.claims.get i) := by
          match i with
          | 0 => exact fullStatus_block s (k := 1) rfl rfl (claimBytes_length _ _)
          | 1 => exact fullStatus_block s (k := 2) rfl rfl (claimBytes_length _ _)
          | 2 => exact fullStatus_block s (k := 3) rfl rfl (claimBytes_length _ _)
          | 3 => exact fullStatus_block s (k := 4) rfl rfl (claimBytes_length _ _)
        exact hblock.trans (claimBytes_eq s.ms (s.arbiter.claims.get i))
      · refine (fullStatus_block s (k := 5) rfl rfl (vehicleBytes_length _)).trans ?_
        cases h : s.alert.vehicle.speed.value <;> simp only [vehicleBytes, vehicleReading, h] <;> rfl
      · intro c
        have hblock : ((fullStatus s).drop (37 + 10 * c.val)).take 10 = cameraBytes (s.intake.get c) (s.exposure.get c) := by
          match c with
          | 0 => exact fullStatus_block s (k := 6) rfl rfl (cameraBytes_length _ _)
          | 1 => exact fullStatus_block s (k := 7) rfl rfl (cameraBytes_length _ _)
          | 2 => exact fullStatus_block s (k := 8) rfl rfl (cameraBytes_length _ _)
          | 3 => exact fullStatus_block s (k := 9) rfl rfl (cameraBytes_length _ _)
        refine hblock.trans ?_
        cases hstats : (s.exposure.get c).stats <;> cases hflight : (s.exposure.get c).inFlight <;>
          simp only [cameraBytes, hstats, hflight]
      · intro z
        have hblock := fullStatus_block s (k := 10) (n := 77) (len := 8) rfl rfl (by simp)
        have hget : (fullStatus s).getD (77 + z.val) 0#8 = (((fullStatus s).drop 77).take 8).getD z.val 0#8 := by
          simp [List.getD]
        rw [hget, hblock]
        simp only [List.getD, List.getElem?_map, List.getElem?_range z.isLt, Option.map_some, Option.getD_some, zoneByte,
          findZone_isSome]
      · have hblock := fullStatus_block s (k := 11) (n := 85) (len := 6) rfl rfl rfl
        rw [List.take_of_length_le (by simp [fullStatus_length])] at hblock
        rw [hblock, List.countP_eq_length_filter]
  · have hown : judge .cab ⟨0x10#8, tag, [first]⟩ s = takeGetTracks [first] s := judge_of_cab hmode rfl
    refine ⟨_, sendRequest_takenAtOnce htaken _ _ _, fun hhigh => ?_, fun hlow => ?_⟩
    · exact takeRequest_answersWith (hown.trans (if_pos hhigh))
    · intro l
      refine takeRequest_answersWith (hown.trans ((if_neg (Nat.not_lt.mpr hlow)).trans ?_))
      rw [toByte_nextSlot, List.length_take]
      rfl
  · have hown : judge .cab ⟨0x18#8, tag, [layout, pane] ++ bytes16 pair⟩ s =
        takeProbeMap ([layout, pane] ++ bytes16 pair) s := judge_of_cab hmode rfl
    refine ⟨_, sendRequest_takenAtOnce htaken _ _ _, ?_⟩
    intro r k
    have hkey : (⟨byteAt r.payload 0, byteAt r.payload 1, u16At r.payload 2⟩ : Key) = k := by
      have hpair := u16At_bytes16 pair []
      rw [List.append_nil] at hpair
      exact congrArg (Key.mk layout.toNat pane.toNat) hpair
    have hprobe : judge .cab r s =
        if probePresent s.loaded.layouts k then answer .done (probeBytes s.loaded.layouts k s.remap) s
        else refuse .outOfRange s := by
      rw [← hkey]
      exact hown
    refine ⟨fun hout => ?_, fun hpresent => ⟨fun habsent => ?_, fun i hbuilt hi hunique => ?_⟩⟩
    · exact takeRequest_answersWith (hprobe.trans (if_neg (by simp [hout])))
    · refine takeRequest_answersWith (hprobe.trans ((if_pos hpresent).trans ?_))
      rw [probeBytes_of_absent habsent]
      rfl
    · refine takeRequest_answersWith (hprobe.trans ((if_pos hpresent).trans ?_))
      rw [probeBytes_of_found hbuilt hi hunique]
      rfl
  · have hown : judge .cab ⟨0x19#8, tag, [index]⟩ s = takeReadMapEntry [index] s := judge_of_cab hmode rfl
    refine ⟨_, sendRequest_takenAtOnce htaken _ _ _, fun hhigh => ?_, fun hlow => ?_⟩
    · exact takeRequest_answersWith (hown.trans (if_pos hhigh))
    · refine takeRequest_answersWith (hown.trans ((if_neg (Nat.not_lt.mpr hlow)).trans ?_))
      rw [entryBytes_eq]
      rfl
  · exact ⟨_, sendRequest_takenAtOnce htaken _ _ _, takeRequest_answersWith (judge_of_cab hmode rfl)⟩

/-! ### The flash requests -/

theorem u24At_bytes24 (a : BitVec 24) (l : List Byte) : u24At (bytes24 a ++ l) 0 = a.toNat := by
  have hlt := a.isLt
  have heq : u24At (bytes24 a ++ l) 0 =
      (toByte a.toNat).toNat + 256 * (toByte (a.toNat / 256)).toNat + 65536 * (toByte (a.toNat / 65536)).toNat := rfl
  rw [heq, toByte_toNat, toByte_toNat, toByte_toNat]
  omega

/-- The checks that the flash requests share, in their order (R174). -/
theorem flashAllowed_cases (unit a : Nat) (s : State) (own : Answer) :
    (s.mode = .running → flashAllowed unit a s own = refuse .wrongState s) ∧
    (s.mode = .service → (s.flash.op ≠ .idle ∨ s.flash.exitPending = true) →
      flashAllowed unit a s own = refuse .busy s) ∧
    (s.mode = .service → ¬ (s.flash.op ≠ .idle ∨ s.flash.exitPending = true) → a % unit ≠ 0 ∨ 8388608 ≤ a →
      flashAllowed unit a s own = refuse .outOfRange s) ∧
    (s.mode = .service → ¬ (s.flash.op ≠ .idle ∨ s.flash.exitPending = true) → a % unit = 0 → a < 8388608 →
      flashAllowed unit a s own = own) := by
  refine ⟨fun hm => if_pos (by simp [hm]), fun hm hbusy => ?_, fun hm hidle hout => ?_, fun hm hidle hmul hlow => ?_⟩
  · exact (if_neg (Classical.not_not.mpr hm)).trans (if_pos ((flashBusy_iff s).mpr hbusy))
  · have hno : ¬ (a % unit = 0 ∧ a < flashSize) := by
      rintro ⟨h0, h1⟩
      rcases hout with h | h
      · exact h h0
      · exact absurd h1 (Nat.not_lt.mpr h)
    exact (if_neg (Classical.not_not.mpr hm)).trans ((if_neg fun h => hidle ((flashBusy_iff s).mp h)).trans (if_neg hno))
  · exact (if_neg (Classical.not_not.mpr hm)).trans
      ((if_neg fun h => hidle ((flashBusy_iff s).mp h)).trans (if_pos ⟨hmul, hlow⟩))

/-! ### The flash after an operation -/

/-- The last write at an address, when every entry at it has one value. -/
theorem lastWrite_of_forall {α : Type} {l : List (Nat × α)} {a : Nat} {v : α} (hmem : (a, v) ∈ l)
    (h : ∀ p ∈ l, p.1 = a → p.2 = v) : lastWrite l a = some v := by
  rw [lastWrite_eq]
  have hin : (a, v) ∈ l.filter fun p => decide (p.1 = a) := List.mem_filter.mpr ⟨hmem, by simp⟩
  obtain ⟨x, hx⟩ := Option.isSome_iff_exists.mp (List.getLast?_isSome.mpr (List.ne_nil_of_mem hin))
  obtain ⟨hxmem, hxa⟩ := List.mem_filter.mp (List.mem_of_getLast? hx)
  rw [hx, Option.map_some, h x hxmem (of_decide_eq_true hxa)]

/-- A memory over which a run of addresses has been written. -/
theorem sparseRead_writeRun {cells : List Host.Cell} (hwf : sparseWf erased cells = true) (a n : Nat) (g : Nat → Byte) :
    (∀ i, i < n →
      sparseRead erased (sparseWriteAll erased cells ((List.range n).map fun i => (a + i, g i))) (a + i) = g i) ∧
    ∀ b, b < a ∨ a + n ≤ b →
      sparseRead erased (sparseWriteAll erased cells ((List.range n).map fun i => (a + i, g i))) b =
        sparseRead erased cells b := by
  refine ⟨fun i hi => ?_, fun b hb => ?_⟩
  · rw [sparseRead_writeAll hwf, lastWrite_of_forall (v := g i)]
    · rfl
    · exact List.mem_map.mpr ⟨i, List.mem_range.mpr hi, rfl⟩
    · intro p hp hpa
      obtain ⟨j, _, rfl⟩ := List.mem_map.mp hp
      rw [Nat.add_left_cancel hpa]
  · rw [sparseRead_writeAll hwf, lastWrite_none]
    · rfl
    · intro p hp hpa
      obtain ⟨j, hj, rfl⟩ := List.mem_map.mp hp
      have := List.mem_range.mp hj
      simp only at hpa
      omega

theorem sparseRead_flashWritten {cells : List Host.Cell} (hwf : sparseWf erased cells = true) (a : Nat) (data : List Byte) :
    (∀ i, i < 128 →
      sparseRead erased (flashWritten cells a data) (a + i) = sparseRead erased cells (a + i) &&& data.getD i 0xFF#8) ∧
    ∀ b, b < a ∨ a + 128 ≤ b → sparseRead erased (flashWritten cells a data) b = sparseRead erased cells b :=
  sparseRead_writeRun hwf a 128 (writtenByte cells a data)

theorem sparseRead_flashErased {cells : List Host.Cell} (hwf : sparseWf erased cells = true) (a : Nat) :
    (∀ i, i < 4096 → sparseRead erased (flashErased cells a) (a + i) = 0xFF#8) ∧
    ∀ b, b < a ∨ a + 4096 ≤ b → sparseRead erased (flashErased cells a) b = sparseRead erased cells b :=
  sparseRead_writeRun hwf a 4096 fun _ => erased

theorem exec_flashWriteCompletion {s : State} {a : Nat} {data : List Byte} (h : s.flash.op = .writing a data) :
    exec .flashWriteCompletion s =
      .next (endFlashOp (s.mapFlash fun f => { f with cells := flashWritten s.flash.cells a data })) := by
  show execFlashWriteCompletion s = _
  simp only [execFlashWriteCompletion, h, State.mapFlash]

theorem exec_flashEraseCompletion {s : State} {a : Nat} (h : s.flash.op = .erasing a) :
    exec .flashEraseCompletion s =
      .next (endFlashOp (s.mapFlash fun f => { f with cells := flashErased s.flash.cells a })) := by
  show execFlashEraseCompletion s = _
  simp only [execFlashEraseCompletion, h, State.mapFlash]

/-- The end of an operation that leaves the flash at `cells`. -/
theorem exec_of_endFlashOp {i : Instr} {s : State} {cells : List Host.Cell}
    (h : exec i s = .next (endFlashOp (s.mapFlash fun f => { f with cells := cells }))) :
    ∃ u t, exec i s = .next t ∧ (t = if s.flash.exitPending then restartPart u else u) ∧
      u = { s with flash := { s.flash with op := .idle, cells := u.flash.cells } } ∧ u.flash.cells = cells :=
  ⟨{ s with flash := { s.flash with op := .idle, cells := cells } }, _, h, rfl, rfl, rfl⟩

/-- Settles O39: each request by the checks that all three share, each completion by its operation. -/
theorem flashOperationsBeginAndComplete : Obligations.FlashOperationsBeginAndComplete := by
  unfold Obligations.FlashOperationsBeginAndComplete
  constructor
  · intro tag address s htaken hmode a bytes busy
    have ha : u24At bytes 0 = a := by
      have := u24At_bytes24 address []
      rwa [List.append_nil] at this
    have hthree : bytes.length = 3 := rfl
    refine ⟨⟨_, sendRequest_takenAtOnce htaken _ _ _, ?_⟩, fun data => ⟨_, sendRequest_takenAtOnce htaken _ _ _, ?_⟩,
      ⟨_, sendRequest_takenAtOnce htaken _ _ _, ?_⟩⟩
    · intro r
      have hown : judge .cab r s = takeFlashRead bytes s := judge_of_cab hmode rfl
      rw [takeFlashRead, lengthed_of_length hthree, ha] at hown
      obtain ⟨hrunning, hbusy, hout, hin⟩ := flashAllowed_cases 128 a s
        (match s.flash.buffer with
         | some (b, data) =>
           if b = a then answer .done (1#8 :: data) (s.mapFlash fun f => { f with buffer := none })
           else answer .done [0#8] (s.mapFlash fun f => { f with op := .reading a })
         | none => answer .done [0#8] (s.mapFlash fun f => { f with op := .reading a }))
      refine ⟨fun hm => takeRequest_answersWith (hown.trans (hrunning hm)),
        fun hm hb => takeRequest_answersWith (hown.trans (hbusy hm hb)),
        fun hm hb ho => takeRequest_answersWith (hown.trans (hout hm hb ho)),
        fun hm hb hmul hlow => ⟨fun data hdata => ?_, fun hdata => ?_⟩⟩
      · refine takeRequest_answersWith (hown.trans ((hin hm hb hmul hlow).trans ?_))
        rw [hdata]
        exact if_pos rfl
      · refine takeRequest_answersWith (hown.trans ((hin hm hb hmul hlow).trans ?_))
        cases hbuffer : s.flash.buffer with
        | none => rfl
        | some p =>
          obtain ⟨b, data⟩ := p
          have hne : b ≠ a := fun h => hdata data (by rw [hbuffer, h])
          exact if_neg hne
    · intro r
      have hown : judge .cab r s = takeFlashWrite (bytes ++ data) s := judge_of_cab hmode rfl
      have haddress : u24At (bytes ++ data) 0 = a := u24At_bytes24 address data
      have hlength : (bytes ++ data).length = data.length + 3 := by
        rw [List.length_append, hthree, Nat.add_comm]
      refine ⟨fun hlen => ?_, fun hlen => ?_⟩
      · exact takeRequest_answersWith (hown.trans (if_neg (by omega)))
      · rw [takeFlashWrite, lengthed_of_length (by omega), haddress] at hown
        obtain ⟨hrunning, hbusy, hout, hin⟩ := flashAllowed_cases 128 a s
          (answer .done [] (s.mapFlash fun f => { f with op := .writing a ((bytes ++ data).drop 3), buffer := none }))
        exact ⟨fun hm => takeRequest_answersWith (hown.trans (hrunning hm)),
          fun hm hb => takeRequest_answersWith (hown.trans (hbusy hm hb)),
          fun hm hb ho => takeRequest_answersWith (hown.trans (hout hm hb ho)),
          fun hm hb hmul hlow => takeRequest_answersWith (hown.trans (hin hm hb hmul hlow))⟩
    · intro r
      have hown : judge .cab r s = takeFlashErase bytes s := judge_of_cab hmode rfl
      rw [takeFlashErase, lengthed_of_length hthree, ha] at hown
      obtain ⟨hrunning, hbusy, hout, hin⟩ := flashAllowed_cases 4096 a s
        (answer .done [] (s.mapFlash fun f => { f with op := .erasing a, buffer := none }))
      exact ⟨fun hm => takeRequest_answersWith (hown.trans (hrunning hm)),
        fun hm hb => takeRequest_answersWith (hown.trans (hbusy hm hb)),
        fun hm hb ho => takeRequest_answersWith (hown.trans (hout hm hb ho)),
        fun hm hb hmul hlow => takeRequest_answersWith (hown.trans (hin hm hb hmul hlow))⟩
  · intro s hcanonical
    have hwf : sparseWf erased s.flash.cells = true := ((memoryCanonical_iff s).mp hcanonical).1
    refine ⟨fun a hop => ?_, fun a data hop => ?_, fun a hop => ?_, fun hno => ?_, fun hno => ?_, fun hno => ?_⟩
    · exact ⟨_, _, by show execFlashReadCompletion s = _; rw [execFlashReadCompletion, hop]; rfl, rfl, rfl⟩
    · obtain ⟨u, t, hexec, ht, hu, hcells⟩ := exec_of_endFlashOp (i := .flashWriteCompletion)
        (cells := flashWritten s.flash.cells a data) (exec_flashWriteCompletion hop)
      exact ⟨u, t, hexec, ht, hu, hcells ▸ sparseRead_flashWritten hwf a data⟩
    · obtain ⟨u, t, hexec, ht, hu, hcells⟩ := exec_of_endFlashOp (i := .flashEraseCompletion)
        (cells := flashErased s.flash.cells a) (exec_flashEraseCompletion hop)
      exact ⟨u, t, hexec, ht, hu, hcells ▸ sparseRead_flashErased hwf a⟩
    · show execFlashReadCompletion s = _
      unfold execFlashReadCompletion
      cases hop : s.flash.op with
      | reading a => exact absurd hop (hno a)
      | idle | writing a data | erasing a => rfl
    · show execFlashWriteCompletion s = _
      unfold execFlashWriteCompletion
      cases hop : s.flash.op with
      | writing a data => exact absurd hop (hno a data)
      | idle | reading a | erasing a => rfl
    · show execFlashEraseCompletion s = _
      unfold execFlashEraseCompletion
      cases hop : s.flash.op with
      | erasing a => exact absurd hop (hno a)
      | idle | reading a | writing a data => rfl

end Sys2Proof.Machine
end

section
/-! PROOFS. Incident marks and trigger conditions (chapter 9): what a firing enters (R152 to R154), when a record matches a
condition (R150), and how the conditions move (R151). -/

namespace Sys2Proof.Machine

/-! ### A firing (R152, R154) -/

theorem markFits_iff (l : List Mark) : markFits l = true ↔ l.length < 8 ∨ ∃ x ∈ l, x.collected = true := by
  simp [markFits]

theorem not_markFits {l : List Mark} (h8 : 8 ≤ l.length) (h : ∀ x ∈ l, x.collected = false) : ¬ markFits l = true := by
  rw [markFits_iff]
  rintro (hlt | ⟨x, hx, hc⟩)
  · omega
  · simp [h x hx] at hc

/-- With a full list the oldest collected mark leaves (R154). -/
theorem marksBefore_of_full {older newer : List Mark} {y : Mark} (h8 : 8 ≤ (older ++ y :: newer).length)
    (hy : y.collected = true) (hold : ∀ z ∈ older, z.collected = false) :
    marksBefore (older ++ y :: newer) = older ++ newer := by
  rw [marksBefore, if_neg (by omega), dropCollected, List.eraseP_append_right _ fun z hz => by simp [hold z hz],
    List.eraseP_cons_of_pos hy]

/-- A number that no mark carries is taken at once. -/
theorem freeMarkNumber_of_free {marks : List Mark} {n : Half} (fuel : Nat) (h : ∀ y ∈ marks, y.number ≠ n) :
    freeMarkNumber marks (fuel + 1) n = n := by
  refine if_neg fun hany => ?_
  obtain ⟨y, hy, he⟩ := List.any_eq_true.mp hany
  exact h y hy (of_decide_eq_true he)

/-- Every track has one of the four levels. -/
theorem filter_levels_length (l : List Track) :
    (l.filter fun t => decide (t.stored = .danger)).length + (l.filter fun t => decide (t.stored = .caution)).length +
        (l.filter fun t => decide (t.stored = .notice)).length + (l.filter fun t => decide (t.stored = .none)).length =
      l.length := by
  induction l with
  | nil => rfl
  | cons t l ih =>
    cases h : t.stored <;> simp only [List.filter_cons, h, decide_true, if_true, reduceCtorEq, decide_false,
      Bool.false_eq_true, if_false, List.length_cons] <;> omega

theorem markTracks_length (l : List (Option Track)) : (markTracks l).length = min 4 (heldTracks l).length := by
  simp only [markTracks, List.length_map, List.length_take, List.length_append, filter_levels_length]

/-- The mark that a firing enters, with its number (R152). -/
def enteredMark (src : MarkSource) (s : State) : Mark :=
  let before := marksBefore s.incident.marks
  { buildMark src s with number := freeMarkNumber before (before.length + 1) (s.incident.lastNumber + 1#16) }

theorem fireMark_of_fits {src : MarkSource} {s : State} (h : markFits s.incident.marks = true) :
    fireMark src s = joinMark (buildMark src s) s := if_pos h

theorem fireMark_of_full {src : MarkSource} {s : State} (h : ¬ markFits s.incident.marks = true) :
    fireMark src s = { s with incident := { s.incident with dropped := satAdd s.incident.dropped 1 } } := if_neg h

theorem fireMark_incident_of_fits {src : MarkSource} {s : State} (h : markFits s.incident.marks = true) :
    (fireMark src s).incident =
      { s.incident with
        marks := marksBefore s.incident.marks ++ [enteredMark src s]
        lastNumber := (enteredMark src s).number } := by
  rw [fireMark_of_fits h]
  rfl

theorem fireMark_incident_only (src : MarkSource) (s : State) :
    (fireMark src s).incident =
      { s.incident with
        marks := (fireMark src s).incident.marks
        lastNumber := (fireMark src s).incident.lastNumber
        dropped := (fireMark src s).incident.dropped } := by
  by_cases h : markFits s.incident.marks = true
  · rw [fireMark_incident_of_fits h]
  · rw [fireMark_of_full h]

/-- A mark that is entered raises INCIDENT_MARKED. -/
theorem fireMark_raises {src : MarkSource} {s : State} (h : markFits s.incident.marks = true) (n : Master) :
    ((fireMark src s).ports.pendingSets.get n).getLsbD 12 =
      ((s.ports.pendingSets.get n).getLsbD 12 || routedTo s.loaded.ports n .incidentMarked) := by
  rw [fireMark_of_fits h, joinMark, raiseNotice_pendingSets]
  have hbit := pendingWith_getLsbD s n .incidentMarked .incidentMarked
  rw [decide_eq_true rfl, Bool.and_true] at hbit
  exact hbit

/-- Settles O37: a firing enters its mark last, or drops it; MARK_INCIDENT answers which. -/
theorem markIncidentEntersAMark : Obligations.MarkIncidentEntersAMark := by
  unfold Obligations.MarkIncidentEntersAMark
  refine ⟨fun source s h8 => ?_, fun m tag s htaken hmode => ?_⟩
  · refine ⟨fireMark_keeps source s, (fireMark_ports source s).1, (fireMark_ports source s).2,
      fireMark_incident_only source s, fun hfits => ?_, fun hfull hno => fireMark_of_full (not_markFits hfull hno)⟩
    have hfit := (markFits_iff _).mpr hfits
    have hincident := fireMark_incident_of_fits (src := source) hfit
    have hfree := freeMarkNumber_free (marksBefore s.incident.marks)
      (by have := marksBefore_length hfit h8; omega) (s.incident.lastNumber + 1#16)
    refine ⟨marksBefore s.incident.marks, enteredMark source s, by rw [hincident], by rw [hincident], by rw [hincident],
      fun hlt => if_pos hlt, ?_, ?_, fun hnext => freeMarkNumber_of_free _ hnext, rfl, rfl, rfl, rfl, rfl, rfl, rfl,
      rfl, markTracks_length _, fireMark_raises hfit⟩
    · intro hfull older y newer hmarks hy hold
      rw [hmarks] at hfull ⊢
      exact marksBefore_of_full hfull hy hold
    · exact fun y hy hnumber => hfree (List.mem_map.mpr ⟨y, hy, hnumber⟩)
  · have hown : judge m ⟨0x05#8, tag, []⟩ s = takeMarkIncident m [] s :=
      judge_of_low hmode rfl (show (0x05#8 : Byte).toNat ≤ 5 by decide)
    refine ⟨_, sendRequest_takenAtOnce htaken _ _ _, fun hfits => ?_, fun hfull hno => ?_⟩
    · exact takeRequest_answersWith (hown.trans (if_pos ((markFits_iff _).mpr hfits)))
    · exact takeRequest_answersWith (hown.trans (if_neg (not_markFits hfull hno)))

/-! ### Matching (R150) -/

theorem fieldPasses_iff (test code : Nat) : fieldPasses test code = true ↔ test = 254 ∨ test = code := by
  simp [fieldPasses]

theorem maskPasses_iff (test : Nat) (m : SourceMask) :
    maskPasses test m = true ↔
      test = 254 ∨ (test.testBit 0 = true → m.range = true) ∧ (test.testBit 1 = true → m.motion = true) := by
  have himp : ∀ a b : Bool, ((!a || b) = true ↔ (a = true → b = true)) := by decide
  simp only [maskPasses, Bool.or_eq_true (decide _), Bool.and_eq_true, decide_eq_true_eq, himp]

theorem speedPasses_iff (t : SpeedTest) (v : Option Nat) :
    speedPasses t v = true ↔
      match t with
      | .any => True
      | .atLeast n => ∃ x, v = some x ∧ n ≤ x
      | .unknown => v = none := by
  cases t with
  | any => simp [speedPasses]
  | atLeast n => cases v <;> simp [speedPasses]
  | unknown => cases v <;> simp [speedPasses]

/-- The field tests of a record's own kind. -/
def fieldsPass (t : Trigger) : EventRecord → Bool
  | .alert new old best mask =>
    fieldPasses (t.test 0) new.code && fieldPasses (t.test 1) old.code && fieldPasses (t.test 2) (bestCode best) &&
      maskPasses (t.test 3) mask
  | .view layout winner => fieldPasses (t.test 0) (layoutCode layout) && fieldPasses (t.test 1) winner.code
  | .vehicle v =>
    fieldPasses (t.test 0) (gearCode v.gear) && fieldPasses (t.test 1) (indicatorCode v.indicator) &&
      fieldPasses (t.test 2) (liftCode v.lift) && speedPasses t.speed v.speed
  | .condition c link cond =>
    fieldPasses (t.test 0) c.val && fieldPasses (t.test 1) link.code && fieldPasses (t.test 2) cond.code

theorem recordMatches_iff (t : Trigger) (r : EventRecord) :
    recordMatches t r = true ↔ t.enabled = true ∧ t.kind = r.kind ∧ fieldsPass t r = true := by
  have hdef : recordMatches t r = (t.enabled && decide (t.kind = r.kind) && fieldsPass t r) := by cases r <;> rfl
  rw [hdef, Bool.and_eq_true, Bool.and_eq_true, and_assoc, decide_eq_true_eq]

/-! ### How a condition moves (R151) -/

/-- What an event does to one trigger condition. -/
inductive TriggerMove where
  | stays
  | takes (x : TriggerState)
  | fires
  deriving DecidableEq

/-- The condition after its move. -/
def TriggerMove.after (cfg : Trigger) (x : TriggerState) : TriggerMove → TriggerState
  | .stays => x
  | .takes y => y
  | .fires => afterFiring cfg

/-- Trigger condition `t` makes its move. -/
def makeMove (t : Fin 4) (v : TriggerMove) (s : State) : State :=
  match v with
  | .stays => s
  | .takes x => setTrigger t x s
  | .fires => fireTrigger t s

/-- The move at an offered record. -/
def offerMove (r : EventRecord) (cfg : Trigger) (x : TriggerState) : TriggerMove :=
  if x = .armed ∧ recordMatches cfg r = true then
    if cfg.delay = 0 then .fires else .takes (.delaying cfg.delay)
  else .stays

/-- The move at an output frame start, of a condition in the state `before` as it began. -/
def countMove (before x : TriggerState) : TriggerMove :=
  if before = .armed then .stays
  else
    match x with
    | .armed => .stays
    | .delaying n => if n ≤ 1 then .fires else .takes (.delaying (n - 1))
    | .holding n => .takes (if n ≤ 1 then .armed else .holding (n - 1))

theorem offerTo_eq (r : EventRecord) (t : Fin 4) (s : State) :
    offerTo r t s = makeMove t (offerMove r (s.loaded.triggers.get t) (s.incident.triggers.get t)) s := by
  unfold offerTo offerMove
  cases s.incident.triggers.get t with
  | armed =>
    by_cases hmatch : recordMatches (s.loaded.triggers.get t) r = true
    · by_cases hdelay : (s.loaded.triggers.get t).delay = 0
      · simp only [hmatch, hdelay, and_self, if_true]; rfl
      · simp only [hmatch, hdelay, and_self, if_true, if_false]; rfl
    · simp only [hmatch]; rfl
  | delaying n => rfl
  | holding n => rfl

theorem countStanding_eq (before : TriggerState) (t : Fin 4) (s : State) :
    countStanding before t s = makeMove t (countMove before (s.incident.triggers.get t)) s := by
  unfold countStanding countMove countTrigger
  by_cases hbefore : before = .armed
  · rw [if_pos hbefore, if_pos hbefore]; rfl
  · rw [if_neg hbefore, if_neg hbefore]
    cases s.incident.triggers.get t with
    | armed => rfl
    | delaying n =>
      by_cases hn : n ≤ 1
      · simp only [if_pos hn]; rfl
      · simp only [if_neg hn]; rfl
    | holding n => rfl

/-- The state with the trigger conditions in the states `q`. -/
def withTriggers (q : Quad TriggerState) (s : State) : State :=
  { s with incident := { s.incident with triggers := q } }

/-- A firing neither reads nor writes the trigger conditions. -/
theorem fireMark_withTriggers (src : MarkSource) (q : Quad TriggerState) (s : State) :
    fireMark src (withTriggers q s) = withTriggers q (fireMark src s) := by
  by_cases h : markFits s.incident.marks = true
  · have h' : markFits (withTriggers q s).incident.marks = true := h
    rw [fireMark_of_fits h, fireMark_of_fits h']
    rfl
  · have h' : ¬ markFits (withTriggers q s).incident.marks = true := h
    rw [fireMark_of_full h, fireMark_of_full h']
    rfl

theorem fireMark_triggers (src : MarkSource) (s : State) : (fireMark src s).incident.triggers = s.incident.triggers := by
  rw [fireMark_incident_only]

theorem makeMove_loaded (t : Fin 4) (v : TriggerMove) (s : State) : (makeMove t v s).loaded = s.loaded := by
  cases v <;> simp [makeMove, fireTrigger]

/-- The trigger conditions after one move. -/
def moveTriggers (cfg : Quad Trigger) (t : Fin 4) (v : TriggerMove) (q : Quad TriggerState) : Quad TriggerState :=
  q.set t (v.after (cfg.get t) (q.get t))

/-- A move is the firing, if it fires, and the new state of its condition. -/
theorem makeMove_withTriggers (t : Fin 4) (v : TriggerMove) (q : Quad TriggerState) (s : State) :
    makeMove t v (withTriggers q s) =
      withTriggers (moveTriggers s.loaded.triggers t v q) (if v = .fires then fireMark (.trigger t) s else s) := by
  cases v with
  | stays => simp [makeMove, moveTriggers, TriggerMove.after, Quad.set_get]
  | takes x => rfl
  | fires =>
    have hfire := fireMark_withTriggers (.trigger t) q s
    have hset : (fireMark (.trigger t) (withTriggers q s)).incident.triggers = q := fireMark_triggers _ _
    rw [if_pos rfl, makeMove, fireTrigger, hfire]
    rfl

theorem makeMove_triggers (t : Fin 4) (v : TriggerMove) (s : State) :
    (makeMove t v s).incident.triggers = moveTriggers s.loaded.triggers t v s.incident.triggers :=
  congrArg (fun x : State => x.incident.triggers) (makeMove_withTriggers t v s.incident.triggers s)

/-- Moves one after another: the firings in their order, and the conditions moved. -/
theorem foldl_makeMove (g : Fin 4 → TriggerMove) (l : List (Fin 4)) (q : Quad TriggerState) (s : State) :
    l.foldl (fun x t => makeMove t (g t) x) (withTriggers q s) =
      withTriggers (l.foldl (fun q t => moveTriggers s.loaded.triggers t (g t) q) q)
        ((l.filter fun t => decide (g t = .fires)).foldl (fun x t => fireMark (.trigger t) x) s) := by
  induction l generalizing q s with
  | nil => rfl
  | cons t l ih =>
    rw [List.foldl_cons, makeMove_withTriggers, ih, List.foldl_cons]
    by_cases h : g t = .fires
    · rw [if_pos h, List.filter_cons_of_pos (p := fun t => decide (g t = .fires)) (decide_eq_true h), List.foldl_cons, fireMark_loaded]
    · rw [if_neg h, List.filter_cons_of_neg (p := fun t => decide (g t = .fires)) (by simpa using h)]

/-- Moves that read only their own condition may all be read from the state as it stands before them. -/
theorem foldl_ownMove (g : Fin 4 → Trigger → TriggerState → TriggerMove) (s : State) {l : List (Fin 4)} (hl : l.Nodup)
    (u : State) (hloaded : u.loaded = s.loaded)
    (hsame : ∀ t ∈ l, u.incident.triggers.get t = s.incident.triggers.get t) :
    l.foldl (fun x t => makeMove t (g t (x.loaded.triggers.get t) (x.incident.triggers.get t)) x) u =
      l.foldl (fun x t => makeMove t (g t (s.loaded.triggers.get t) (s.incident.triggers.get t)) x) u := by
  induction l generalizing u with
  | nil => rfl
  | cons t l ih =>
    obtain ⟨hnot, hl⟩ := List.nodup_cons.mp hl
    rw [List.foldl_cons, List.foldl_cons, hloaded, hsame t List.mem_cons_self]
    refine ih hl _ ((makeMove_loaded _ _ _).trans hloaded) fun x hx => ?_
    have hne : x ≠ t := fun h => hnot (h ▸ hx)
    rw [makeMove_triggers, moveTriggers, Quad.get_set_other _ _ hne]
    exact hsame x (List.mem_cons_of_mem _ hx)

/-- The conditions after all four have moved. -/
theorem foldl_moveTriggers_get (cfg : Quad Trigger) (g : Fin 4 → TriggerMove) (q : Quad TriggerState) (t : Fin 4) :
    (([0, 1, 2, 3] : List (Fin 4)).foldl (fun q t => moveTriggers cfg t (g t) q) q).get t =
      (g t).after (cfg.get t) (q.get t) := by
  match t with
  | 0 => rfl
  | 1 => rfl
  | 2 => rfl
  | 3 => rfl

/-- The four conditions move: the firings, T0 to T3 in order, and the states after their moves. -/
theorem moves_of_four {g : Fin 4 → TriggerMove} {s u : State}
    (h : u = ([0, 1, 2, 3] : List (Fin 4)).foldl (fun x t => makeMove t (g t) x) s) :
    ∃ fired : List (Fin 4), fired.Pairwise (· < ·) ∧ (∀ t, t ∈ fired ↔ g t = .fires) ∧
      (let v := fired.foldl (fun x t => fireMark (.trigger t) x) s
       u = { v with incident := { v.incident with triggers := u.incident.triggers } }) ∧
      ∀ t, u.incident.triggers.get t = (g t).after (s.loaded.triggers.get t) (s.incident.triggers.get t) := by
  have hu := h.trans (foldl_makeMove g [0, 1, 2, 3] s.incident.triggers s)
  refine ⟨([0, 1, 2, 3] : List (Fin 4)).filter fun t => decide (g t = .fires), ?_, fun t => ?_, ?_, fun t => ?_⟩
  · exact List.Pairwise.filter _ (by decide)
  · rw [List.mem_filter, decide_eq_true_eq]
    exact and_iff_right ((by decide : ∀ t : Fin 4, t ∈ ([0, 1, 2, 3] : List (Fin 4))) t)
  · have htriggers := congrArg (fun x : State => x.incident.triggers) hu
    exact hu.trans (congrArg (fun q => withTriggers q _) htriggers.symm)
  · rw [hu]
    exact foldl_moveTriggers_get _ _ _ t

theorem offerRecord_of_starting {r : EventRecord} {s : State} (h : s.mode = .starting) : offerRecord r s = s := if_pos h

theorem offerRecord_moves {r : EventRecord} {s : State} (h : s.mode ≠ .starting) :
    offerRecord r s = ([0, 1, 2, 3] : List (Fin 4)).foldl
      (fun x t => makeMove t (offerMove r (s.loaded.triggers.get t) (s.incident.triggers.get t)) x) s := by
  rw [← foldl_ownMove (fun _ cfg x => offerMove r cfg x) s (by decide) s rfl fun _ _ => rfl]
  simp only [offerRecord, if_neg h, offerTo_eq, List.foldl_cons, List.foldl_nil]

theorem countTriggers_of_starting {b : Quad TriggerState} {s : State} (h : s.mode = .starting) : countTriggers b s = s :=
  if_pos h

theorem countTriggers_moves {b : Quad TriggerState} {s : State} (h : s.mode ≠ .starting) :
    countTriggers b s = ([0, 1, 2, 3] : List (Fin 4)).foldl
      (fun x t => makeMove t (countMove (b.get t) (s.incident.triggers.get t)) x) s := by
  rw [← foldl_ownMove (fun t _ x => countMove (b.get t) x) s (by decide) s rfl fun _ _ => rfl]
  simp only [countTriggers, if_neg h, countStanding_eq, List.foldl_cons, List.foldl_nil]
  rfl

theorem offerMove_fires (r : EventRecord) (cfg : Trigger) (x : TriggerState) :
    offerMove r cfg x = .fires ↔ (x = .armed ∧ recordMatches cfg r = true) ∧ cfg.delay = 0 := by
  unfold offerMove
  by_cases h : x = .armed ∧ recordMatches cfg r = true
  · by_cases hd : cfg.delay = 0 <;> simp [h, hd]
  · simp [h]

theorem countMove_armed (before : TriggerState) : countMove before .armed = .stays := ite_self _

theorem countMove_of_armed (x : TriggerState) : countMove .armed x = .stays := rfl

theorem countMove_delaying {before : TriggerState} (h : before ≠ .armed) (n : Nat) :
    countMove before (.delaying n) = if n ≤ 1 then .fires else .takes (.delaying (n - 1)) := if_neg h

theorem countMove_holding {before : TriggerState} (h : before ≠ .armed) (n : Nat) :
    countMove before (.holding n) = .takes (if n ≤ 1 then .armed else .holding (n - 1)) := if_neg h

theorem countMove_fires (before x : TriggerState) :
    countMove before x = .fires ↔ before ≠ .armed ∧ ∃ n, x = .delaying n ∧ n ≤ 1 := by
  unfold countMove
  by_cases h : before = .armed
  · simp [h]
  · cases x with
    | armed => simp [h]
    | delaying n => by_cases hn : n ≤ 1 <;> simp [h, hn]
    | holding n => simp [h]

/-- Settles O2: the match test by test, and the four conditions' moves. -/
theorem triggerConditionsMoveByTheirTable : Obligations.TriggerConditionsMoveByTheirTable := by
  unfold Obligations.TriggerConditionsMoveByTheirTable
  refine ⟨fun t r => ?_, fun r s => ⟨offerRecord_of_starting, fun hmode => ?_⟩,
    fun before s => ⟨countTriggers_of_starting, fun hmode => ?_⟩⟩
  · cases r with
    | alert new old best mask =>
      refine (recordMatches_iff t (.alert new old best mask)).trans (and_congr_right' (and_congr_right' ?_))
      cases best <;> simp only [fieldsPass, Bool.and_eq_true, fieldPasses_iff, maskPasses_iff, bestCode, Trigger.test,
        and_assoc]
    | view layout winner =>
      refine (recordMatches_iff t (.view layout winner)).trans (and_congr_right' (and_congr_right' ?_))
      simp only [fieldsPass, Bool.and_eq_true, fieldPasses_iff, Trigger.test]
    | vehicle v =>
      refine (recordMatches_iff t (.vehicle v)).trans (and_congr_right' (and_congr_right' ?_))
      simp only [fieldsPass, Bool.and_eq_true, fieldPasses_iff, Trigger.test, and_assoc]
      exact and_congr_right' (and_congr_right' (and_congr_right' (speedPasses_iff t.speed v.speed)))
    | condition c link cond =>
      refine (recordMatches_iff t (.condition c link cond)).trans (and_congr_right' (and_congr_right' ?_))
      simp only [fieldsPass, Bool.and_eq_true, fieldPasses_iff, Trigger.test, and_assoc]
  · obtain ⟨fired, hordered, hfired, honly, hmoved⟩ := moves_of_four (offerRecord_moves (r := r) hmode)
    refine ⟨fired, hordered, fun t => (hfired t).trans (offerMove_fires _ _ _), honly, fun t => ⟨fun hno => ?_,
      fun hyes hdelay => ?_, fun hin => ?_⟩⟩
    · rw [hmoved, offerMove, if_neg hno]
      rfl
    · rw [hmoved, offerMove, if_pos hyes, if_neg hdelay]
      rfl
    · rw [hmoved, (hfired t).mp hin]
      rfl
  · obtain ⟨fired, hordered, hfired, honly, hmoved⟩ := moves_of_four (countTriggers_moves (b := before) hmode)
    refine ⟨fired, hordered, fun t => (hfired t).trans (countMove_fires _ _), honly, fun t => ⟨fun harmed => ?_,
      fun harmed => ?_, fun hin => ?_, fun n hnot => ⟨fun hstate hn => ?_, fun hstate => ?_⟩⟩⟩
    · rw [hmoved, harmed, countMove_of_armed]
      rfl
    · rw [hmoved, harmed, countMove_armed]
      rfl
    · rw [hmoved, (hfired t).mp hin]
      rfl
    · rw [hmoved, hstate, countMove_delaying hnot, if_neg (by omega)]
      rfl
    · rw [hmoved, hstate, countMove_holding hnot]
      rfl

end Sys2Proof.Machine
end

section
/-! PROOFS. The links of the port controller (chapter 10): the cab framer and the CRC (R159), ignored data (R161), the end of
a frame (R160, R163, R176), and the CAN ports (R162, R170). -/

namespace Sys2Proof.Machine

/-! ### The cab framer -/

theorem takeCabByte_of_frame {received : List Byte} {last : Word} {s : State} (h : s.ports.framer = .frame received last)
    (b : Byte) : takeCabByte b s = growCabFrame (received ++ [b]) s := by
  rw [takeCabByte, h]

theorem takeCabByte_of_hunt {s : State} (h : s.ports.framer = .hunt) (b : Byte) :
    takeCabByte b s = if b = startByte then setFramer (.frame [] s.ms) s else s := by
  rw [takeCabByte, h]

theorem growCabFrame_of_long {l : List Byte} {s : State} (h : 200 < byteAt l 0) : growCabFrame l s = breakFrame s :=
  if_pos h

theorem growCabFrame_of_short {l : List Byte} {s : State} (h : byteAt l 0 ≤ 200) (hlength : l.length < byteAt l 0 + 5) :
    growCabFrame l s = setFramer (.frame l s.ms) s :=
  (if_neg (Nat.not_lt.mpr h)).trans (if_neg (Nat.not_le.mpr hlength))

theorem growCabFrame_of_complete {l : List Byte} {s : State} (h : byteAt l 0 ≤ 200) (hlength : l.length = byteAt l 0 + 5) :
    growCabFrame l s = takeCabFrame l s :=
  (if_neg (Nat.not_lt.mpr h)).trans (if_pos (Nat.le_of_eq hlength.symm))

/-- A complete frame is whole just when its CRC matches. -/
theorem cabFrameWhole_iff {l : List Byte} (h : byteAt l 0 ≤ 200) (hlength : l.length = byteAt l 0 + 5) :
    cabFrameWhole l = true ↔
      (crc16 (l.take (byteAt l 0 + 3))).toNat = 256 * byteAt l (byteAt l 0 + 3) + byteAt l (byteAt l 0 + 4) := by
  have hcovered : l.length - 2 = byteAt l 0 + 3 := by omega
  have hlast : l.length - 1 = byteAt l 0 + 4 := by omega
  have hhigh : byteAt l (byteAt l 0 + 3) < 256 := BitVec.isLt _
  have hlow : byteAt l (byteAt l 0 + 4) < 256 := BitVec.isLt _
  rw [cabFrameWhole, receivedCrc, hcovered, hlast, Bool.and_eq_true, Bool.and_eq_true,
    and_iff_right ⟨decide_eq_true h, decide_eq_true hlength⟩, decide_eq_true_eq, ← BitVec.toNat_inj, BitVec.toNat_ofNat, Nat.mod_eq_of_lt (by omega)]

theorem isDataKind_iff (kind : Byte) : isDataKind kind = true ↔ kind = 0x30#8 ∨ kind = 0x31#8 ∨ kind = 0x32#8 := by
  simp [isDataKind, or_assoc]

theorem takeCabFrame_of_broken {l : List Byte} {s : State} (h : ¬ cabFrameWhole l = true) : takeCabFrame l s = breakFrame s :=
  if_neg h

theorem takeCabFrame_of_data {l : List Byte} {s : State} (h : cabFrameWhole l = true)
    (hkind : isDataKind (cabRequest l).kind = true) : takeCabFrame l s = countWrongData (endCabFrame s) :=
  (if_pos h).trans (if_pos hkind)

theorem takeCabFrame_of_request {l : List Byte} {s : State} (h : cabFrameWhole l = true)
    (hkind : ¬ isDataKind (cabRequest l).kind = true) :
    takeCabFrame l s = present .cab (cabRequest l) (endCabFrame s) :=
  (if_pos h).trans (if_neg hkind)

theorem inFrame_of_frame {received : List Byte} {last : Word} {s : State} (h : s.ports.framer = .frame received last) :
    inFrame s = true := decide_eq_true (by simp [h])

theorem interbyteDue_of_frame {received : List Byte} {last : Word} {s : State}
    (h : s.ports.framer = .frame received last) : interbyteDue s = true ↔ 5 ≤ (s.ms - last).toNat := by
  rw [interbyteDue, h]
  exact decide_eq_true_iff

/-! ### The CRC -/

theorem crc16_append (l : List Byte) (b : Byte) : crc16 (l ++ [b]) = crcByte (crc16 l) b := by
  rw [crc16, List.foldl_append]
  rfl

/-- Settles O40: the framer by its two states, the CRC bit by bit, and the bytes of a sent frame. -/
theorem cabFramerHuntsAndBreaks : Obligations.CabFramerHuntsAndBreaks := by
  unfold Obligations.CabFramerHuntsAndBreaks
  refine ⟨fun s => ?_, ⟨rfl, fun l b => crc16_append l b⟩, fun f s hsending hlength => ?_⟩
  · intro receives moved broken
    have hreceives : ∀ {b t}, takeCabByte b s = t → receives b t := fun h => congrArg Host.Outcome.next h
    refine ⟨fun t h => h, rfl, fun l rest t h => ?_, fun hhunt => ⟨?_, fun b hb => ?_, fun cause => ?_, ?_⟩, ?_⟩
    · have ht : takeCabBytes l s = t := Host.Outcome.next.inj h
      subst ht
      exact congrArg Host.Outcome.next (List.foldl_append (l := l) (l' := rest))
    · exact hreceives ((takeCabByte_of_hunt hhunt _).trans (if_pos rfl))
    · exact hreceives ((takeCabByte_of_hunt hhunt b).trans (if_neg hb))
    · exact if_neg (by simp [inFrame, hhunt])
    · exact if_neg (by simp [interbyteDue, hhunt])
    · intro received last hframe
      refine ⟨fun b => ?_, fun cause => if_pos (inFrame_of_frame hframe),
        fun hdue => if_pos ((interbyteDue_of_frame hframe).mpr hdue),
        fun hnot => if_neg fun hdue => Nat.not_le.mpr hnot ((interbyteDue_of_frame hframe).mp hdue)⟩
      intro l n kind matched data
      have htake : takeCabByte b s = growCabFrame l s := takeCabByte_of_frame hframe b
      refine ⟨fun hn => hreceives (htake.trans (growCabFrame_of_long hn)),
        fun hn hshort => hreceives (htake.trans (growCabFrame_of_short hn hshort)), fun hn hcomplete => ?_⟩
      have hframed := htake.trans (growCabFrame_of_complete hn hcomplete)
      have hwhole : cabFrameWhole l = true ↔ matched := cabFrameWhole_iff hn hcomplete
      exact ⟨fun hno => hreceives (hframed.trans (takeCabFrame_of_broken fun h => hno (hwhole.mp h))),
        fun hyes hdata => hreceives (hframed.trans (takeCabFrame_of_data (hwhole.mpr hyes) ((isDataKind_iff _).mpr hdata))),
        fun hyes hdata => hreceives
          (hframed.trans (takeCabFrame_of_request (hwhole.mpr hyes) fun h => hdata ((isDataKind_iff _).mp h)))⟩
  · refine ⟨toByte ((crc16 f.body).toNat / 256), toByte (crc16 f.body).toNat, ?_, ?_⟩
    · rw [cabLine, hsending]
      rfl
    · rw [toByte_toNat, toByte_toNat]
      have hlt := (crc16 f.body).isLt
      show (crc16 f.body).toNat = _
      omega

/-! ### Data out of place -/

theorem masterPort_portMaster (p : Port) : masterPort (portMaster p) = some p := by
  cases p
  · rfl
  · rfl

theorem portMaster_ne_cab (p : Port) : portMaster p ≠ .cab := by cases p <;> simp [portMaster]

theorem wrongCarrier_portMaster {p : Port} {kind : Byte} (hbody : p = .body → kind ≠ 0x31#8 ∧ kind ≠ 0x32#8)
    (hchassis : p = .chassis → kind ≠ 0x30#8) : wrongCarrier (portMaster p) kind = true := by
  cases p with
  | body =>
    obtain ⟨hvehicle, hstatus⟩ := hbody rfl
    simp [wrongCarrier, portMaster, hvehicle, hstatus]
  | chassis => simp [wrongCarrier, portMaster, hchassis rfl]

theorem not_dataTaken {p : Port} {s : State} (h : portActive p s = false ∨ s.mode = .starting) : ¬ dataTaken p s = true := by
  rw [dataTaken_eq_true_iff]
  rintro ⟨hactive, hmode⟩
  rcases h with h | h
  · simp [h] at hactive
  · exact hmode h

/-- Settles O41: what reaches the part, and which carriers are wrong. -/
theorem dataOutOfPlaceIsIgnored : Obligations.DataOutOfPlaceIsIgnored := by
  unfold Obligations.DataOutOfPlaceIsIgnored
  refine fun s => ⟨fun p cause => rfl, fun p kind hactive hbody hchassis => ?_, fun kind hframer hkind => ?_,
    fun hno data => if_neg (not_dataTaken hno), fun hno data => ⟨if_neg (not_dataTaken hno), ?_⟩⟩
  · have hreaches : frameReaches (portMaster p) s = true := by rw [frameReaches, masterPort_portMaster]; exact hactive
    have hwrong : wrongCarrier (portMaster p) kind = true := wrongCarrier_portMaster hbody hchassis
    refine (if_pos (by rw [hreaches, hwrong]; rfl)).trans (congrArg Host.Outcome.next ?_)
    rw [if_neg (portMaster_ne_cab p)]
    rfl
  · have hreaches : frameReaches .cab s = true := decide_eq_true hframer
    have hwrong : wrongCarrier .cab kind = true := (isDataKind_iff kind).mpr hkind
    exact if_pos (by rw [hreaches, hwrong]; rfl)
  · exact exec_rangeReport_of_discarded fun h => not_dataTaken hno h.1

/-! ### The end of a frame -/

theorem serve_of_waiting {m : Master} {s : State} (h : answering m s = true ∨ s.ports.queues.get m = []) :
    serve m s = s := by
  unfold serve
  by_cases ha : answering m s = true
  · exact if_pos ha
  · rw [if_neg ha, h.resolve_left ha]

theorem serve_of_next {m : Master} {s : State} {r : Request} {rest : List Request} (ha : answering m s = false)
    (hq : s.ports.queues.get m = r :: rest) : serve m s = takeRequest m r (setQueue m rest s) := by
  rw [serve, if_neg (by simp [ha]), hq]

/-- The ports with the next waiting frame being sent (R160). -/
def nextCabFrame (p : Ports) : Ports :=
  match p.waiting with
  | [] => { p with sending := none }
  | .frame g :: rest => { p with sending := some g, waiting := rest }
  | .notice :: rest => { p with sending := some (noticeFrame p), waiting := rest }

theorem beginSending_next (p : Ports) : beginSending { p with sending := none } = nextCabFrame p := by
  obtain ⟨framer, sending, waiting, can, queues, pendingSets, enable, frameErrors, wrongData⟩ := p
  match waiting with
  | [] => rfl
  | .frame g :: rest => rfl
  | .notice :: rest => rfl

theorem nextCabFrame_queues (p : Ports) : (nextCabFrame p).queues = p.queues := by
  obtain ⟨framer, sending, waiting, can, queues, pendingSets, enable, frameErrors, wrongData⟩ := p
  match waiting with
  | [] => rfl
  | .frame g :: rest => rfl
  | .notice :: rest => rfl

theorem cabSent_eq {s : State} {f : CabFrame} (h : s.ports.sending = some f) :
    cabSent s = afterSent .cab f.role { s with ports := nextCabFrame s.ports } := by
  rw [cabSent, h, ← beginSending_next]
  rfl

theorem canSent_eq {p : Port} {s : State} {f : CanFrame} {rest : List CanFrame} (h : (s.ports.can.get p).store = f :: rest) :
    canSent p s = afterSent (portMaster p) f.role (mapPort p (fun q => { q with store := rest }) s) := by
  rw [canSent, h]

/-- Settles O42: the frame's role decides what follows the next frame. -/
theorem framesSentWholeServeTheQueues : Obligations.FramesSentWholeServeTheQueues := by
  unfold Obligations.FramesSentWholeServeTheQueues
  refine ⟨fun f s hsending => ?_, fun s hnone => ?_, fun p f store s hstore hactive => ?_, fun p s hnone => ?_⟩
  · refine ⟨cabSent s, rfl, ?_⟩
    intro u
    have hsent : cabSent s = afterSent .cab f.role u := cabSent_eq hsending
    have hqueues : u.ports.queues = s.ports.queues := nextCabFrame_queues s.ports
    refine ⟨fun hrole => ?_, fun hrole => ?_, fun hrole hwait => ?_, fun r rest hrole hidle hqueue => ?_⟩
    · rcases hrole with hrole | hrole <;> rw [hsent, hrole] <;> rfl
    · rw [hsent, hrole]
      rfl
    · rw [hsent, hrole]
      exact serve_of_waiting (hwait.imp_right fun h => (congrArg PerMaster.cab hqueues).trans h)
    · rw [hsent, hrole]
      exact serve_of_next hidle ((congrArg PerMaster.cab hqueues).trans hqueue)
  · refine congrArg Host.Outcome.next ?_
    rw [cabSent, hnone]
  · refine ⟨canSent p s, if_pos hactive, ?_⟩
    intro u
    have hsent : canSent p s = afterSent (portMaster p) f.role u := canSent_eq hstore
    refine ⟨fun hrole => ?_, fun hrole hwait => ?_, fun r rest hrole hidle hqueue => ?_⟩
    · rcases hrole with hrole | hrole <;> rw [hsent, hrole] <;> rfl
    · rw [hsent, hrole]
      exact serve_of_waiting hwait
    · rw [hsent, hrole]
      exact serve_of_next hidle hqueue
  · by_cases hactive : portActive p s = true
    · have hempty := hnone.resolve_right (by simp [hactive])
      refine (if_pos hactive).trans (congrArg Host.Outcome.next ?_)
      rw [canSent, hempty]
    · exact if_neg hactive

/-! ### The CAN ports -/

theorem portActive_iff (p : Port) (s : State) : portActive p s = true ↔ (s.ports.can.get p).state = .active := by
  simp [portActive]

theorem recoveryDue_of_busOff {now since : Word} {q : CanPort} (h : q.state = .busOff since) :
    recoveryDue now q = true ↔ 1000 ≤ (now - since).toNat := by
  rw [recoveryDue, h]
  exact decide_eq_true_iff

theorem not_recoveryDue {now : Word} {q : CanPort} (h : ∀ since, q.state ≠ .busOff since) : ¬ recoveryDue now q = true := by
  unfold recoveryDue
  cases hstate : q.state with
  | busOff since => exact absurd hstate (h since)
  | active => simp
  | joining => simp

theorem broadcastDue_iff {now since : Word} {q : CanPort} (h : q.timer = some since) :
    broadcastDue now q = true ↔ 100 ≤ (now - since).toNat ∨ q.owed = true ∧ 20 ≤ (now - since).toNat := by
  rw [broadcastDue, h, Bool.or_eq_true, Bool.and_eq_true]
  exact or_congr decide_eq_true_iff (and_congr_right' decide_eq_true_iff)

theorem sendBroadcast_eq (p : Port) (s : State) :
    sendBroadcast p s =
      { s with
        ports := { s.ports with
          can := s.ports.can.set p
            { s.ports.can.get p with
              store := (s.ports.can.get p).store ++
                [⟨s.loaded.ports.base.get p + 2, broadcastBytes (portMaster p) s, .unasked⟩]
              timer := some s.ms
              owed := false }
          pendingSets := s.ports.pendingSets.set (portMaster p) 0#16 } } := rfl

theorem joinBus_eq (p : Port) (s : State) :
    joinBus p s =
      { s with
        ports := { s.ports with
          can := s.ports.can.set p
            { s.ports.can.get p with
              state := .active
              store := (s.ports.can.get p).store ++
                [⟨s.loaded.ports.base.get p + 2, broadcastBytes (portMaster p) s, .unasked⟩]
              timer := some s.ms
              owed := false
              txErrors := 0
              rxErrors := 0 }
          pendingSets := s.ports.pendingSets.set (portMaster p) 0#16 } } := by
  cases p
  · rfl
  · rfl

theorem goBusOff_keeps (p : Port) (s : State) : KeepsBut [.ports, .draws] s (goBusOff p s) := by
  intro b hb
  cases b <;> simp_all [Block.same, goBusOff, setQueue, mapPort, State.mapPorts]

theorem goBusOff_ports (p : Port) (s : State) :
    (goBusOff p s).ports =
      { s.ports with
        can := s.ports.can.set p
          { s.ports.can.get p with
            state := .busOff s.ms
            store := []
            txErrors := ((goBusOff p s).ports.can.get p).txErrors
            rxErrors := ((goBusOff p s).ports.can.get p).rxErrors }
        queues := s.ports.queues.set (portMaster p) [] } := by
  cases p
  · rfl
  · rfl

/-- Settles O43: when each event of a port is due, and the port after it. -/
theorem canPortsLeaveJoinAndBroadcast : Obligations.CanPortsLeaveJoinAndBroadcast := by
  unfold Obligations.CanPortsLeaveJoinAndBroadcast
  intro p s m q f sets
  refine ⟨fun hactive => ?_, fun hnot => ?_, fun since hoff hdue => ?_, fun since hoff hnot => ?_, fun hnot => ?_,
    fun since hactive htimer hdue => ?_, fun since hactive htimer hlow howed => ?_, fun hnot => ?_, rfl, rfl, rfl⟩
  · exact ⟨goBusOff p s, if_pos ((portActive_iff p s).mpr hactive), goBusOff_ports p s, goBusOff_keeps p s⟩
  · exact if_neg fun h => hnot ((portActive_iff p s).mp h)
  · exact (if_pos ((recoveryDue_of_busOff hoff).mpr hdue)).trans (congrArg Host.Outcome.next (joinBus_eq p s))
  · exact if_neg fun h => Nat.not_le.mpr hnot ((recoveryDue_of_busOff hoff).mp h)
  · exact if_neg (not_recoveryDue hnot)
  · refine (if_pos ?_).trans (congrArg Host.Outcome.next (sendBroadcast_eq p s))
    exact (Bool.and_eq_true _ _).mpr ⟨(portActive_iff p s).mpr hactive, (broadcastDue_iff htimer).mpr hdue⟩
  · refine if_neg fun h => ?_
    rcases (broadcastDue_iff htimer).mp ((Bool.and_eq_true _ _).mp h).2 with hlate | ⟨hyes, hlate⟩
    · omega
    · rcases howed with hno | hearly
      · simp [hno] at hyes
      · omega
  · exact if_neg fun h => hnot ((portActive_iff p s).mp ((Bool.and_eq_true _ _).mp h).1)

end Sys2Proof.Machine
end

section
/-! PROOFS. The requests that set something (R129, R166, R169): ACK_WARNING, SET_NOTICE_MASK and SET_LIVE. -/

namespace Sys2Proof.Machine

/-! ### The NOTICE that a new mask produces (R169) -/

/-- A frame that is being sent or waits still does once another is produced. -/
theorem produceCab_keepsFrame {f : CabFrame} {p : Ports} (w : CabWaiting)
    (h : p.sending = some f ∨ CabWaiting.frame f ∈ p.waiting) :
    (produceCab w p).sending = some f ∨ CabWaiting.frame f ∈ (produceCab w p).waiting := by
  obtain ⟨framer, sending, waiting, can, queues, pendingSets, enable, frameErrors, wrongData⟩ := p
  unfold produceCab
  by_cases hw : w = .notice ∧ CabWaiting.notice ∈ waiting
  · rw [if_pos hw]
    exact h
  · rw [if_neg hw]
    cases sending with
    | some g => exact h.imp id fun hmem => List.mem_append_left _ hmem
    | none =>
      have hmem : CabWaiting.frame f ∈ waiting := h.resolve_left (by simp)
      match waiting, hmem with
      | .frame g :: rest, hmem =>
        rcases List.mem_cons.mp hmem with heq | hrest
        · cases heq
          exact .inl rfl
        · exact .inr (List.mem_append_left _ hrest)
      | .notice :: rest, hmem =>
        exact .inr (List.mem_append_left _ ((List.mem_cons.mp hmem).resolve_left (by simp)))

theorem noticeIf_only (b : Bool) (s : State) :
    (noticeIf b s).ports = { s.ports with
      sending := (noticeIf b s).ports.sending, waiting := (noticeIf b s).ports.waiting } := by
  cases b
  · rfl
  · exact produceCab_only .notice s.ports

/-- A NOTICE produced after a response leaves the response on its way. -/
theorem AnswersWith.noticeIf {r : Request} {code : ResponseCode} {results : List Byte} {role : FrameRole} {u t : State}
    (h : AnswersWith .cab r code results role u t) (b : Bool) : AnswersWith .cab r code results role u (noticeIf b t) := by
  obtain ⟨hanswered, honly, hkeeps⟩ := h
  refine ⟨?_, ?_, hkeeps.chain (noticeIf_keeps b t) (by simp)⟩
  · cases b
    · exact hanswered
    · exact produceCab_keepsFrame .notice hanswered
  · have hnotice := noticeIf_only b t
    rw [show t.ports = _ from honly] at hnotice
    exact hnotice

/-- With a frame being sent and no NOTICE waiting, one waits just when it is produced. -/
theorem notice_mem_noticeIf {b : Bool} {s : State} (hsending : s.ports.sending ≠ none)
    (hwaiting : CabWaiting.notice ∉ s.ports.waiting) :
    CabWaiting.notice ∈ (noticeIf b s).ports.waiting ↔ b = true := by
  cases b with
  | false => simpa [Machine.noticeIf] using hwaiting
  | true =>
    obtain ⟨f, hf⟩ := Option.ne_none_iff_exists'.mp hsending
    simp [Machine.noticeIf, produceCab, hwaiting, beginSending, hf]

/-- A response begins at once on an idle link, and otherwise joins the frames that wait. -/
theorem produceCab_notIdle {f : CabFrame} {p : Ports} (h : p.sending ≠ none ∨ p.waiting = [])
    (hnone : CabWaiting.notice ∉ p.waiting) :
    (produceCab (.frame f) p).sending ≠ none ∧ CabWaiting.notice ∉ (produceCab (.frame f) p).waiting := by
  obtain ⟨framer, sending, waiting, can, queues, pendingSets, enable, frameErrors, wrongData⟩ := p
  cases sending with
  | some g => exact ⟨by simp [produceCab, beginSending], by simpa [produceCab, beginSending] using hnone⟩
  | none =>
    have hempty : waiting = [] := h.resolve_left (by simp)
    subst hempty
    exact ⟨by simp [produceCab, beginSending], by simp [produceCab, beginSending]⟩

/-- Every bit of a notice set is some kind's. -/
theorem exists_noticeKind {i : Nat} (h : i < 16) : ∃ k : NoticeKind, k.index = i := by
  have hall : ∀ j : Fin 16, j.val ∈ [NoticeKind.alertRise, .alertFall, .viewChanged, .claimLapsed, .cameraLost, .cameraBack,
      .cameraMismatch, .lensObscured, .lensClear, .lowLightOn, .mapFault, .trackOverflow, .incidentMarked, .vehicleStale,
      .configFallback, .serviceEntered].map NoticeKind.index := by decide
  obtain ⟨k, _, hk⟩ := List.mem_map.mp (hall ⟨i, h⟩)
  exact ⟨k, hk⟩

theorem noticeKind_index_lt (k : NoticeKind) : k.index < 16 := by cases k <;> decide

/-- A pending kind is newly enabled (R169). -/
theorem newlyEnabled_iff (pending new old : Half) :
    pending &&& new &&& ~~~old ≠ 0#16 ↔
      ∃ k : NoticeKind, pending.getLsbD k.index = true ∧ new.getLsbD k.index = true ∧ old.getLsbD k.index = false := by
  constructor
  · refine fun hne => Classical.byContradiction fun hno => hne (BitVec.eq_of_getLsbD_eq fun i hi => ?_)
    obtain ⟨k, rfl⟩ := exists_noticeKind hi
    simp only [BitVec.getLsbD_and, BitVec.getLsbD_not, noticeKind_index_lt k, decide_true, Bool.true_and,
      BitVec.getLsbD_zero]
    cases hp : pending.getLsbD k.index with
    | false => rfl
    | true =>
      cases hn : new.getLsbD k.index with
      | false => rfl
      | true =>
        cases ho : old.getLsbD k.index with
        | false => exact absurd ⟨k, hp, hn, ho⟩ hno
        | true => rfl
  · rintro ⟨k, hp, hn, ho⟩ hzero
    have hbit := congrArg (fun x : Half => x.getLsbD k.index) hzero
    simp only [BitVec.getLsbD_and, BitVec.getLsbD_not, hp, hn, ho, noticeKind_index_lt k, BitVec.getLsbD_zero] at hbit
    exact absurd hbit (by decide)

/-! ### The items of a SET_LIVE (R166) -/

theorem liveCode_iff (c : Nat) : liveCode c = true ↔ 1 ≤ c ∧ c ≤ 5 ∨ 16 ≤ c ∧ c ≤ 23 := by
  simp [liveCode]

/-- The values that an item of the table may take. -/
def itemFits (table : List Layout) (c v : Nat) : Prop :=
  (c = 1 → v ≤ 11 ∧ findLayout table v ≠ none) ∧ (2 ≤ c ∧ c ≤ 4 → v ≤ 1) ∧ (c = 5 → v = 2 ∨ v = 3) ∧
    (16 ≤ c → 1 ≤ v ∧ v ≤ 255)

theorem switchValue_isSome (v : Nat) : (switchValue v).isSome = true ↔ v ≤ 1 := by
  match v with
  | 0 => simp [switchValue]
  | 1 => simp [switchValue]
  | n + 2 => simp [switchValue]

theorem warningValue_isSome (v : Nat) : (warningValue v).isSome = true ↔ v = 2 ∨ v = 3 := by
  match v with
  | 0 => simp [warningValue]
  | 1 => simp [warningValue]
  | 2 => simp [warningValue]
  | 3 => simp [warningValue]
  | n + 4 => simp [warningValue]

theorem layoutPresent_iff (table : List Layout) (n : Nat) : layoutPresent table n = true ↔ findLayout table n ≠ none :=
  Option.isSome_iff_ne_none

theorem liveItem_home {table : List Layout} {v : Nat} :
    liveItem table 1 v = if v ≤ 11 ∧ layoutPresent table v = true then some (.home v) else none := rfl

theorem liveItem_isSome (table : List Layout) {c : Nat} (v : Nat) (hc : liveCode c = true) :
    (liveItem table c v).isSome = true ↔ itemFits table c v := by
  rw [liveCode_iff] at hc
  unfold itemFits
  by_cases h1 : c = 1
  · subst h1
    rw [liveItem_home, ← layoutPresent_iff]
    by_cases hv : v ≤ 11 ∧ layoutPresent table v = true
    · simp [hv]
    · simp [hv]
  · by_cases hswitch : 2 ≤ c ∧ c ≤ 4
    · have hitem : (liveItem table c v).isSome = (switchValue v).isSome := by
        have hcs : c = 2 ∨ c = 3 ∨ c = 4 := by omega
        rcases hcs with rfl | rfl | rfl <;> simp [liveItem]
      rw [hitem, switchValue_isSome]
      exact ⟨fun h => ⟨fun h' => absurd h' h1, fun _ => h, fun h' => by omega, fun h' => by omega⟩, fun h => h.2.1 hswitch⟩
    · by_cases h5 : c = 5
      · subst h5
        have hitem : (liveItem table 5 v).isSome = (warningValue v).isSome := by simp [liveItem]
        rw [hitem, warningValue_isSome]
        exact ⟨fun h => ⟨fun h' => by omega, fun h' => by omega, fun _ => h, fun h' => by omega⟩, fun h => h.2.2.1 rfl⟩
      · have hwidth : 16 ≤ c := by omega
        have hitem : (liveItem table c v).isSome = true ↔ 1 ≤ v ∧ v ≤ 255 := by
          rw [liveItem, if_neg h1, if_neg (by omega), if_neg (by omega), if_neg (by omega), if_neg h5]
          by_cases hv : 1 ≤ v ∧ v ≤ 255
          · rw [if_pos hv]
            by_cases h20 : c < 20 <;> simp [h20, hv]
          · simp [hv]
        rw [hitem]
        exact ⟨fun h => ⟨fun h' => absurd h' h1, fun h' => absurd h' hswitch, fun h' => absurd h' h5, fun _ => h⟩,
          fun h => h.2.2.2 hwidth⟩

/-- A payload's items are accepted just when each has one of its values. -/
theorem liveValues_isSome (table : List Layout) (l : List (Nat × Nat)) :
    (liveValues table l).isSome = true ↔ ∀ p ∈ l, (liveItem table p.1 p.2).isSome = true := by
  induction l with
  | nil => simp [liveValues]
  | cons p l ih =>
    obtain ⟨c, v⟩ := p
    rw [List.forall_mem_cons, ← ih, liveValues]
    cases liveItem table c v <;> cases liveValues table l <;> simp

theorem liveValues_append {table : List Layout} {l l' : List (Nat × Nat)} {is is' : List LiveItem}
    (h : liveValues table l = some is) (h' : liveValues table l' = some is') :
    liveValues table (l ++ l') = some (is ++ is') := by
  induction l generalizing is with
  | nil =>
    cases h
    exact h'
  | cons p l ih =>
    obtain ⟨c, v⟩ := p
    rw [liveValues] at h
    rw [List.cons_append, liveValues]
    cases hitem : liveItem table c v with
    | none => simp [hitem] at h
    | some i =>
      cases hrest : liveValues table l with
      | none => simp [hitem, hrest] at h
      | some rest =>
        simp only [hitem, hrest, Option.some.injEq] at h
        subst h
        rw [ih hrest]
        rfl

/-- The items of a payload are its groups of three bytes. -/
theorem mem_liveItems {payload : List Byte} (h3 : payload.length % 3 = 0) (P : Nat × Nat → Prop) :
    (∀ p ∈ liveItems payload, P p) ↔
      ∀ i, 3 * i < payload.length → P (byteAt payload (3 * i), u16At payload (3 * i + 1)) := by
  simp only [liveItems, List.forall_mem_map, List.mem_range]
  exact forall_congr' fun i => imp_congr (by omega) Iff.rfl

theorem liveWellFormed_iff (payload : List Byte) :
    liveWellFormed payload = true ↔
      payload.length % 3 = 0 ∧ 3 ≤ payload.length ∧ payload.length ≤ 48 ∧
        ∀ i, 3 * i < payload.length →
          1 ≤ byteAt payload (3 * i) ∧ byteAt payload (3 * i) ≤ 5 ∨
            16 ≤ byteAt payload (3 * i) ∧ byteAt payload (3 * i) ≤ 23 := by
  simp only [liveWellFormed, Bool.and_eq_true, decide_eq_true_eq, List.all_eq_true, and_assoc]
  refine and_congr_right fun h3 => and_congr_right' (and_congr_right' ?_)
  rw [mem_liveItems h3 fun p => liveCode p.1 = true]
  exact forall_congr' fun i => imp_congr_right fun _ => liveCode_iff _

theorem byteAt_add_right (l l' : List Byte) {i n : Nat} (h : n = l.length + i) : byteAt (l ++ l') n = byteAt l' i :=
  h ▸ byteAt_append_right l l' i

theorem liveItems_append {a b : List Byte} (ha : a.length % 3 = 0) :
    liveItems (a ++ b) = liveItems a ++ liveItems b := by
  have hcount : (a ++ b).length / 3 = a.length / 3 + b.length / 3 := by rw [List.length_append]; omega
  rw [liveItems, hcount, List.range_add, List.map_append, List.map_map]
  refine (congrArg (· ++ _) ?_).trans (congrArg (_ ++ ·) ?_)
  · refine List.map_congr_left fun i hi => ?_
    have hlt := List.mem_range.mp hi
    rw [u16At, u16At, byteAt_append_left (by omega), byteAt_append_left (by omega), byteAt_append_left (by omega)]
  · refine List.map_congr_left fun i _ => ?_
    simp only [Function.comp, u16At]
    rw [byteAt_add_right a b (i := 3 * i) (by omega), byteAt_add_right a b (i := 3 * i + 1) (by omega),
      byteAt_add_right a b (i := 3 * i + 1 + 1) (by omega)]

/-! ### The effect of the items -/

/-- The items of an accepted SET_LIVE, one after another (R166). -/
def applyItems (is : List LiveItem) (s : State) : State := is.foldl (fun s i => applyItem i s) s

/-- The state with other ports. -/
def withPorts (p : Ports) (s : State) : State := { s with ports := p }

theorem decisionEvent_running {s : State} (h : s.mode = .running) : decisionEvent s = s.mapArbiter decideArbiter := if_pos h

theorem decisionEvent_notRunning {s : State} (h : s.mode ≠ .running) : decisionEvent s = s := if_neg h

theorem decisionEvent_withPorts (p : Ports) (s : State) : decisionEvent (withPorts p s) = withPorts p (decisionEvent s) := by
  by_cases h : s.mode = .running
  · rw [decisionEvent_running h, decisionEvent_running (s := withPorts p s) h]
    rfl
  · rw [decisionEvent_notRunning h, decisionEvent_notRunning (s := withPorts p s) h]

theorem rearm_withPorts (reads : ArmSource → Bool) (p : Ports) (s : State) :
    rearm reads (withPorts p s) = withPorts p (rearm reads s) := by
  unfold rearm
  by_cases h : s.mode = .starting
  · rw [if_pos h, if_pos (show (withPorts p s).mode = .starting from h)]
  · rw [if_neg h, if_neg (show ¬ (withPorts p s).mode = .starting from h)]
    rfl

theorem setHome_same {n : Nat} {s : State} (h : n = s.arbiter.home) : setHome n s = s := if_pos h

theorem setHome_other {n : Nat} {s : State} (h : n ≠ s.arbiter.home) :
    setHome n s = decisionEvent (s.mapArbiter fun a => { a with home := n }) := if_neg h

/-- An item neither reads nor writes the ports. -/
theorem applyItem_withPorts (i : LiveItem) (p : Ports) (s : State) :
    applyItem i (withPorts p s) = withPorts p (applyItem i s) := by
  cases i with
  | home n =>
    show setHome n (withPorts p s) = withPorts p (setHome n s)
    by_cases h : n = s.arbiter.home
    · rw [setHome_same h, setHome_same (s := withPorts p s) h]
    · rw [setHome_other h, setHome_other (s := withPorts p s) h]
      exact decisionEvent_withPorts p (s.mapArbiter fun a => { a with home := n })
  | switch k on => rfl
  | warning v => exact rearm_withPorts readsWarning p (s.mapAlert (setWarningLevel v))
  | width g phase n => rfl

theorem applyItems_withPorts (is : List LiveItem) (p : Ports) (s : State) :
    applyItems is (withPorts p s) = withPorts p (applyItems is s) := by
  induction is generalizing s with
  | nil => rfl
  | cons i is ih => exact (congrArg (applyItems is) (applyItem_withPorts i p s)).trans (ih _)

theorem applyItems_append (is is' : List LiveItem) (s : State) :
    applyItems (is ++ is') s = applyItems is' (applyItems is s) := List.foldl_append

theorem applyItem_keeps (i : LiveItem) (s : State) : KeepsBut [.alert, .arbiter, .compositor] s (applyItem i s) := by
  cases i with
  | home n =>
    by_cases h : n = s.arbiter.home
    · rw [applyItem, setHome_same h]
      exact .refl _ s
    · rw [applyItem, setHome_other h]
      exact (mapArbiter_keeps s _).chain (decisionEvent_keeps _) (by simp)
  | switch k on => exact (mapCompositor_keeps s _).mono (by simp)
  | warning v => exact (mapAlert_keeps s _).chain (rearm_keeps _ _) (by simp)
  | width g phase n => exact (mapCompositor_keeps s _).mono (by simp)

theorem applyItems_keeps (is : List LiveItem) (s : State) : KeepsBut [.alert, .arbiter, .compositor] s (applyItems is s) := by
  induction is generalizing s with
  | nil => exact .refl _ s
  | cons i is ih => exact (applyItem_keeps i s).chain (ih _) (by simp)

/-! ### How a SET_LIVE is judged -/

theorem judge_setLive {tag : Byte} {payload : List Byte} {s : State} (hmode : s.mode ≠ .starting) :
    judge .cab ⟨0x14#8, tag, payload⟩ s = takeSetLive payload s := judge_of_cab hmode rfl

theorem takeSetLive_badFormat {payload : List Byte} {s : State} (h : ¬ liveWellFormed payload = true) :
    takeSetLive payload s = refuse .badFormat s := if_neg h

theorem takeSetLive_outOfRange {payload : List Byte} {s : State} (h : liveWellFormed payload = true)
    (hvalues : liveValues s.loaded.layouts (liveItems payload) = none) : takeSetLive payload s = refuse .outOfRange s := by
  rw [takeSetLive, if_pos h, hvalues]

theorem takeSetLive_done {payload : List Byte} {s : State} {is : List LiveItem} (h : liveWellFormed payload = true)
    (hvalues : liveValues s.loaded.layouts (liveItems payload) = some is) :
    takeSetLive payload s = answer .done [] (applyItems is s) := by
  rw [takeSetLive, if_pos h, hvalues]
  rfl

/-- A response that is on its way once a frame has been produced is that frame or was on its way before. -/
theorem answer_of_produceCab {f g : CabFrame} {p : Ports} (hrole : f.role = .answer)
    (h : (produceCab (.frame g) p).sending = some f ∨ CabWaiting.frame f ∈ (produceCab (.frame g) p).waiting) :
    f = g ∨ p.sending = some f ∨ CabWaiting.frame f ∈ p.waiting := by
  obtain ⟨framer, sending, waiting, can, queues, pendingSets, enable, frameErrors, wrongData⟩ := p
  cases sending with
  | some e =>
    rcases h with h | h
    · exact .inr (.inl h)
    · have hmem : CabWaiting.frame f ∈ waiting ++ [.frame g] := h
      rcases List.mem_append.mp hmem with hold | hnew
      · exact .inr (.inr hold)
      · cases List.mem_singleton.mp hnew
        exact .inl rfl
  | none =>
    match waiting with
    | [] =>
      rcases h with h | h
      · cases h
        exact .inl rfl
      · cases h
    | .frame e :: rest =>
      rcases h with h | h
      · cases h
        exact .inr (.inr List.mem_cons_self)
      · have hmem : CabWaiting.frame f ∈ rest ++ [.frame g] := h
        rcases List.mem_append.mp hmem with hold | hnew
        · exact .inr (.inr (List.mem_cons_of_mem _ hold))
        · cases List.mem_singleton.mp hnew
          exact .inl rfl
    | .notice :: rest =>
      rcases h with h | h
      · cases h
        cases hrole
      · have hmem : CabWaiting.frame f ∈ rest ++ [.frame g] := h
        rcases List.mem_append.mp hmem with hold | hnew
        · exact .inr (.inr (List.mem_cons_of_mem _ hold))
        · cases List.mem_singleton.mp hnew
          exact .inl rfl

/-- The cab unit's taken request is answered with the code it is judged to have, when no other response is on its way. -/
theorem answered_code {r : Request} {code code' : ResponseCode} {results results' : List Byte} {s u : State}
    (hidle : answering .cab s = false) (hports : u.ports = s.ports)
    (h : Answered .cab r code results .answer (respond .cab r code' results' .answer u)) :
    toByte code.code = toByte code'.code := by
  have hproduced : (produceCab (.frame (cabResponse r code' results' .answer)) s.ports).sending =
        some (cabResponse r code results .answer) ∨
      CabWaiting.frame (cabResponse r code results .answer) ∈
        (produceCab (.frame (cabResponse r code' results' .answer)) s.ports).waiting := hports ▸ h
  rcases answer_of_produceCab rfl hproduced with heq | hsending | hwaiting
  · exact (List.cons.inj (congrArg CabFrame.payload heq)).1
  · have hyes : answering .cab s = true := by simp [answering, masterPort, hsending, cabResponse, FrameRole.isAnswer]
    simp [hyes] at hidle
  · have hyes : answering .cab s = true := by
      simp only [answering, masterPort, Bool.or_eq_true, List.any_eq_true]
      exact .inr ⟨_, hwaiting, rfl⟩
    simp [hyes] at hidle

/-- States that differ in the ports alone. -/
theorem eq_withPorts {s t : State} (h : KeepsBut [.ports] s t) : t = withPorts t.ports s := by
  have hb : ∀ b : Block, b ≠ .ports → b.same s t := fun b hb => h b (by simpa using hb)
  obtain ⟨pending, ms, frame, loader, loaded, intake, exposure, motion, tracker, alert, arbiter, remap, compositor, incident,
    ports, flash, draws⟩ := t
  cases (show pending = s.pending from hb .pending (by simp))
  cases (show ms = s.ms from hb .ms (by simp))
  cases (show frame = s.frame from hb .frame (by simp))
  cases (show loader = s.loader from hb .loader (by simp))
  cases (show loaded = s.loaded from hb .loaded (by simp))
  cases (show intake = s.intake from hb .intake (by simp))
  cases (show exposure = s.exposure from hb .exposure (by simp))
  cases (show motion = s.motion from hb .motion (by simp))
  cases (show tracker = s.tracker from hb .tracker (by simp))
  cases (show alert = s.alert from hb .alert (by simp))
  cases (show arbiter = s.arbiter from hb .arbiter (by simp))
  cases (show remap = s.remap from hb .remap (by simp))
  cases (show compositor = s.compositor from hb .compositor (by simp))
  cases (show incident = s.incident from hb .incident (by simp))
  cases (show flash = s.flash from hb .flash (by simp))
  cases (show draws = s.draws from hb .draws (by simp))
  rfl

/-- The ports of `q` are those of `p` but for the cab frames. -/
def CabFramesOnly (p q : Ports) : Prop := q = { p with sending := q.sending, waiting := q.waiting }

theorem CabFramesOnly.symm {p q : Ports} (h : CabFramesOnly p q) : CabFramesOnly q p := by
  unfold CabFramesOnly at h ⊢
  generalize q.sending = x at h
  generalize q.waiting = y at h
  subst h
  rfl

theorem CabFramesOnly.trans {p q r : Ports} (h : CabFramesOnly p q) (k : CabFramesOnly q r) : CabFramesOnly p r := by
  unfold CabFramesOnly at h k ⊢
  rw [h] at k
  exact k

/-- A SET_LIVE that was answered DONE was well formed, and its state is that of its items but for cab frames. -/
theorem setLive_answered {tag : Byte} {payload : List Byte} {s u : State} (htaken : takenAtOnce .cab s)
    (hmode : s.mode ≠ .starting)
    (h : AnswersWith .cab ⟨0x14#8, tag, payload⟩ .done [] .answer u (present .cab ⟨0x14#8, tag, payload⟩ s)) :
    ∃ is p, liveWellFormed payload = true ∧ liveValues s.loaded.layouts (liveItems payload) = some is ∧
      u = withPorts p (applyItems is s) ∧ CabFramesOnly s.ports p := by
  obtain ⟨hanswered, honly, hkeeps⟩ := h
  rw [present_takenAtOnce htaken] at hanswered honly hkeeps
  have hidle : answering .cab s = false := htaken.2.2
  by_cases hformed : liveWellFormed payload = true
  · cases hvalues : liveValues s.loaded.layouts (liveItems payload) with
    | none =>
      rw [takeRequest_of_judge ((judge_setLive hmode).trans (takeSetLive_outOfRange hformed hvalues))] at hanswered
      exact absurd (answered_code hidle rfl hanswered)
        (show toByte ResponseCode.done.code ≠ toByte ResponseCode.outOfRange.code by decide)
    | some is =>
      have hjudge := (judge_setLive (tag := tag) hmode).trans (takeSetLive_done hformed hvalues)
      obtain ⟨_, honly', hkeeps'⟩ := takeRequest_answersWith hjudge
      have hports : (applyItems is s).ports = s.ports := applyItems_keeps is s .ports (by simp)
      have hblocks : KeepsBut [.ports] (applyItems is s) u :=
        fun b hb => by
          have h1 := hkeeps b hb
          have h2 := hkeeps' b hb
          cases b <;> exact h1.symm.trans h2
      refine ⟨is, u.ports, hformed, rfl, eq_withPorts hblocks, ?_⟩
      have hout : CabFramesOnly s.ports (takeRequest .cab ⟨0x14#8, tag, payload⟩ s).ports := hports ▸ honly'
      have hin : CabFramesOnly u.ports (takeRequest .cab ⟨0x14#8, tag, payload⟩ s).ports := honly
      exact hout.trans hin.symm
  · rw [takeRequest_of_judge ((judge_setLive hmode).trans (takeSetLive_badFormat hformed))] at hanswered
    exact absurd (answered_code hidle rfl hanswered)
      (show toByte ResponseCode.done.code ≠ toByte ResponseCode.badFormat.code by decide)

/-- What answers a state answers one that differs in the cab frames alone. -/
theorem AnswersWith.of_cabFrames {r : Request} {code : ResponseCode} {results : List Byte} {role : FrameRole} {u t : State}
    {p : Ports} (h : AnswersWith .cab r code results role u t) (hp : CabFramesOnly u.ports p) :
    AnswersWith .cab r code results role (withPorts p u) t := by
  obtain ⟨hanswered, honly, hkeeps⟩ := h
  refine ⟨hanswered, CabFramesOnly.trans hp.symm honly, fun b hb => ?_⟩
  have hsame := hkeeps b hb
  cases b
  case ports => exact absurd List.mem_cons_self hb
  all_goals exact hsame

/-- Two SET_LIVE requests one after another have the effects of one with the items of both. -/
theorem setLive_joins {tag : Byte} {a b : List Byte} {s u v : State} (htaken : takenAtOnce .cab s)
    (hmode : s.mode ≠ .starting) (hlength : (a ++ b).length ≤ 48) (hu : takenAtOnce .cab u)
    (ha : AnswersWith .cab ⟨0x14#8, tag, a⟩ .done [] .answer u (present .cab ⟨0x14#8, tag, a⟩ s))
    (hb : AnswersWith .cab ⟨0x14#8, tag, b⟩ .done [] .answer v (present .cab ⟨0x14#8, tag, b⟩ u)) :
    AnswersWith .cab ⟨0x14#8, tag, a ++ b⟩ .done [] .answer v (present .cab ⟨0x14#8, tag, a ++ b⟩ s) := by
  obtain ⟨is, p, haformed, havalues, hueq, hp⟩ := setLive_answered htaken hmode ha
  have hukeeps := applyItems_keeps is s
  have humode : u.mode ≠ .starting := by
    have hloader : u.loader = s.loader := hueq ▸ hukeeps .loader (by simp)
    rw [State.mode, hloader]
    exact hmode
  have hulayouts : u.loaded.layouts = s.loaded.layouts := by
    have hloaded : u.loaded = s.loaded := hueq ▸ hukeeps .loaded (by simp)
    rw [hloaded]
  obtain ⟨is', p', hbformed, hbvalues, hveq, hp'⟩ := setLive_answered hu humode hb
  rw [hulayouts] at hbvalues
  obtain ⟨ha3, halow, _, hacodes⟩ := (liveWellFormed_iff a).mp haformed
  obtain ⟨hb3, _, _, hbcodes⟩ := (liveWellFormed_iff b).mp hbformed
  have hformed : liveWellFormed (a ++ b) = true := by
    rw [liveWellFormed, liveItems_append ha3, List.all_append]
    simp only [liveWellFormed, Bool.and_eq_true, decide_eq_true_eq] at haformed hbformed ⊢
    rw [List.length_append] at hlength ⊢
    exact ⟨⟨⟨by omega, by omega⟩, hlength⟩, haformed.2, hbformed.2⟩
  have hvalues : liveValues s.loaded.layouts (liveItems (a ++ b)) = some (is ++ is') := by
    rw [liveItems_append ha3]
    exact liveValues_append havalues hbvalues
  have hjoined := takeRequest_answersWith ((judge_setLive (tag := tag) hmode).trans (takeSetLive_done hformed hvalues))
  have hv : v = withPorts p' (applyItems (is ++ is') s) := by
    rw [hveq, hueq, applyItems_withPorts, applyItems_append]
    rfl
  have hports : (applyItems (is ++ is') s).ports = s.ports := applyItems_keeps (is ++ is') s .ports (by simp)
  have huports : u.ports = p := by rw [hueq]; rfl
  rw [present_takenAtOnce htaken, hv]
  exact hjoined.of_cabFrames (hports ▸ hp.trans (huports ▸ hp'))

/-! ### A SET_LIVE of one item -/

theorem u16At_item (c : Byte) (value : Half) : u16At (c :: bytes16 value) 1 = value.toNat := by
  have h := u16At_bytes16 value []
  rwa [List.append_nil] at h

/-- A SET_LIVE of one item, by its code and value. -/
theorem takeSetLive_single {c : Byte} (hc : liveCode c.toNat = true) (value : Half) (s : State) :
    takeSetLive (c :: bytes16 value) s =
      match liveItem s.loaded.layouts c.toNat value.toNat with
      | some i => answer .done [] (applyItem i s)
      | none => refuse .outOfRange s := by
  have hitems : liveItems (c :: bytes16 value) = [(c.toNat, value.toNat)] := by
    have hlength : (c :: bytes16 value).length = 3 := rfl
    rw [← u16At_item c value, liveItems, hlength]
    rfl
  have hformed : liveWellFormed (c :: bytes16 value) = true := by
    rw [liveWellFormed, hitems]
    simp [bytes16, hc]
  cases hitem : liveItem s.loaded.layouts c.toNat value.toNat with
  | none => exact takeSetLive_outOfRange hformed (by rw [hitems, liveValues, hitem])
  | some i => exact takeSetLive_done (is := [i]) hformed (by rw [hitems, liveValues, hitem]; rfl)

theorem judge_single_none {tag c : Byte} {value : Half} {s : State} (hmode : s.mode ≠ .starting)
    (hc : liveCode c.toNat = true) (h : ¬ itemFits s.loaded.layouts c.toNat value.toNat) :
    judge .cab ⟨0x14#8, tag, c :: bytes16 value⟩ s = refuse .outOfRange s := by
  have hnone : liveItem s.loaded.layouts c.toNat value.toNat = none := by
    rw [← liveItem_isSome _ _ hc] at h
    simpa using h
  rw [judge_setLive hmode, takeSetLive_single hc, hnone]

theorem judge_single_some {tag c : Byte} {value : Half} {s : State} {i : LiveItem} (hmode : s.mode ≠ .starting)
    (hc : liveCode c.toNat = true) (h : liveItem s.loaded.layouts c.toNat value.toNat = some i) :
    judge .cab ⟨0x14#8, tag, c :: bytes16 value⟩ s = answer .done [] (applyItem i s) := by
  rw [judge_setLive hmode, takeSetLive_single hc, h]

/-- The arbiter after a SET_LIVE of the home layout (R138, log 29). -/
theorem applyItem_home (n : Nat) (s : State) :
    applyItem (.home n) s =
      { s with
        arbiter :=
          if n = s.arbiter.home then s.arbiter
          else if s.mode = .running then decideArbiter { s.arbiter with home := n } else { s.arbiter with home := n } } := by
  by_cases h : n = s.arbiter.home
  · rw [if_pos h]
    exact setHome_same h
  · rw [if_neg h]
    refine (setHome_other h).trans ?_
    by_cases hmode : s.mode = .running
    · rw [if_pos hmode]
      exact if_pos hmode
    · rw [if_neg hmode]
      exact if_neg hmode

theorem setWarningLevel_eq (v : Level) (a : Alert) :
    setWarningLevel v a = { a with warningLevel := v, silence := a.silence && decide (v.code ≤ a.level.code) } := by
  unfold setWarningLevel clearSilence
  by_cases h : a.level.code < v.code
  · rw [if_pos h, decide_eq_false (Nat.not_le.mpr h), Bool.and_false]
  · rw [if_neg h, decide_eq_true (Nat.not_lt.mp h), Bool.and_true]

/-- The code byte of a class switch's item. -/
def switchByte (k : OverlayClass) : Byte := toByte (switchCode k)

theorem liveCode_switch (k : OverlayClass) : liveCode (switchByte k).toNat = true := by cases k <;> decide

theorem switch_fits (table : List Layout) (k : OverlayClass) (v : Nat) : itemFits table (switchByte k).toNat v ↔ v ≤ 1 := by
  cases k <;> simp [itemFits, switchByte, switchCode, toByte]

theorem liveItem_switch (table : List Layout) (k : OverlayClass) {v : Nat} (h : v ≤ 1) :
    liveItem table (switchByte k).toNat v = some (.switch k (decide (v = 1))) := by
  have hv : v = 0 ∨ v = 1 := by omega
  cases k <;> rcases hv with rfl | rfl <;> rfl

/-- The code byte of a blink width's item. -/
def widthByte (g : Fin 4) (phase : BlinkPhase) : Byte := toByte (widthCode g phase)

theorem widthByte_toNat (g : Fin 4) (phase : BlinkPhase) : (widthByte g phase).toNat = widthCode g phase := by
  cases phase <;> simp only [widthByte, toByte_toNat, widthCode] <;> omega

theorem liveCode_width (g : Fin 4) (phase : BlinkPhase) : liveCode (widthByte g phase).toNat = true := by
  rw [widthByte_toNat, liveCode_iff]
  cases phase <;> simp only [widthCode] <;> omega

theorem width_fits (table : List Layout) (g : Fin 4) (phase : BlinkPhase) (v : Nat) :
    itemFits table (widthByte g phase).toNat v ↔ 1 ≤ v ∧ v ≤ 255 := by
  have hcode : 16 ≤ (widthByte g phase).toNat := by
    rw [widthByte_toNat]
    cases phase <;> simp only [widthCode] <;> omega
  exact ⟨fun h => h.2.2.2 hcode, fun h => ⟨fun h' => by omega, fun h' => by omega, fun h' => by omega, fun _ => h⟩⟩

theorem liveItem_width (table : List Layout) (g : Fin 4) (phase : BlinkPhase) {v : Nat} (h : 1 ≤ v ∧ v ≤ 255) :
    liveItem table (widthByte g phase).toNat v = some (.width g phase v) := by
  rw [widthByte_toNat]
  match g, phase with
  | 0, .off => exact if_pos h
  | 1, .off => exact if_pos h
  | 2, .off => exact if_pos h
  | 3, .off => exact if_pos h
  | 0, .on => exact if_pos h
  | 1, .on => exact if_pos h
  | 2, .on => exact if_pos h
  | 3, .on => exact if_pos h

end Sys2Proof.Machine
end

section
/-! PROOFS. The requests that set something (O36). -/

namespace Sys2Proof.Machine

/-- ACK_WARNING sets the silence flag with S at or above the warning level (R129). -/
theorem ackWarning_answers (tag : Byte) {s : State} (htaken : takenAtOnce .cab s) (hmode : s.mode ≠ .starting) :
    ∃ t, exec (.ackWarning .cab tag) s = .next t ∧
      (s.alert.warningLevel.code ≤ s.alert.level.code →
        ∃ u, AnswersWith .cab ⟨0x06#8, tag, []⟩ .done
            [0#8, flagByte s.alert.silence, toByte s.alert.level.code] .answer u t ∧
          u.alert = { s.alert with silence := true } ∧ ArmsFollow readsWarning s u ∧
          KeepsBut [.alert, .compositor] s u) ∧
      (s.alert.level.code < s.alert.warningLevel.code →
        AnswersWith .cab ⟨0x06#8, tag, []⟩ .done
          [1#8, flagByte s.alert.silence, toByte s.alert.level.code] .answer s t) := by
  have hown : judge .cab ⟨0x06#8, tag, []⟩ s = takeAckWarning [] s := judge_of_cab hmode rfl
  refine ⟨_, sendRequest_takenAtOnce htaken _ _ _, fun hhigh => ?_, fun hlow => ?_⟩
  · have hkeeps := (mapAlert_keeps s fun a => { a with silence := true }).trans (rearm_keeps readsWarning _)
    exact ⟨rearm readsWarning (s.mapAlert fun a => { a with silence := true }),
      takeRequest_answersWith (hown.trans (if_pos hhigh)), rearm_alert _ _,
      rearm_armsFollow readsWarning (s.mapAlert fun a => { a with silence := true }), hkeeps⟩
  · exact takeRequest_answersWith (hown.trans (if_neg (Nat.not_le.mpr hlow)))

/-- SET_NOTICE_MASK writes the enable set and produces a NOTICE when it newly enables a pending kind (R169). -/
theorem setNoticeMask_answers (tag : Byte) (enable : Half) {s : State} (htaken : takenAtOnce .cab s)
    (hmode : s.mode ≠ .starting) :
    ∃ t, exec (.setNoticeMask .cab tag enable) s = .next t ∧
      AnswersWith .cab ⟨0x12#8, tag, bytes16 enable⟩ .done [] .answer
        { s with ports := { s.ports with enable := enable } } t ∧
      (s.ports.sending ≠ none ∨ s.ports.waiting = [] → CabWaiting.notice ∉ s.ports.waiting →
        (CabWaiting.notice ∈ t.ports.waiting ↔
          ∃ k : NoticeKind, s.ports.pendingSets.cab.getLsbD k.index = true ∧ enable.getLsbD k.index = true ∧
            s.ports.enable.getLsbD k.index = false)) := by
  have hvalue : halfAt (bytes16 enable) 0 = enable := by
    have h := u16At_bytes16 enable []
    rw [List.append_nil] at h
    rw [halfAt, h, BitVec.ofNat_toNat, BitVec.setWidth_eq]
  have hown : judge .cab ⟨0x12#8, tag, bytes16 enable⟩ s =
      ⟨.done, [], .answer, { s with ports := { s.ports with enable := enable } },
        decide (s.ports.pendingSets.cab &&& enable &&& ~~~s.ports.enable ≠ 0#16)⟩ := by
    have hrule : judge .cab ⟨0x12#8, tag, bytes16 enable⟩ s = takeSetNoticeMask (bytes16 enable) s := judge_of_cab hmode rfl
    rw [hrule, takeSetNoticeMask, hvalue]
    rfl
  refine ⟨_, sendRequest_takenAtOnce htaken _ _ _, ?_, fun hlink hnone => ?_⟩
  · rw [takeRequest_of_judge hown]
    exact (respond_answersWith _ _ _ _ _ _).noticeIf _
  · rw [takeRequest_of_judge hown]
    obtain ⟨hsending, hwaiting⟩ := produceCab_notIdle (f := cabResponse ⟨0x12#8, tag, bytes16 enable⟩ .done [] .answer)
      (p := { s.ports with enable := enable }) hlink hnone
    exact (notice_mem_noticeIf (s := respond .cab ⟨0x12#8, tag, bytes16 enable⟩ .done [] .answer
      { s with ports := { s.ports with enable := enable } }) hsending hwaiting).trans
      (decide_eq_true_iff.trans (newlyEnabled_iff _ _ _))

/-- A SET_LIVE by its payload: malformed, out of range, or accepted (R166). -/
theorem setLive_judged (tag : Byte) (payload : List Byte) {s : State} (htaken : takenAtOnce .cab s)
    (hmode : s.mode ≠ .starting) :
    let formed : Prop := payload.length % 3 = 0 ∧ 3 ≤ payload.length ∧ payload.length ≤ 48 ∧
      ∀ i, 3 * i < payload.length →
        1 ≤ byteAt payload (3 * i) ∧ byteAt payload (3 * i) ≤ 5 ∨ 16 ≤ byteAt payload (3 * i) ∧ byteAt payload (3 * i) ≤ 23
    let fits (i : Nat) : Prop := itemFits s.loaded.layouts (byteAt payload (3 * i)) (u16At payload (3 * i + 1))
    let r : Request := ⟨0x14#8, tag, payload⟩
    (¬ formed → AnswersWith .cab r .badFormat [] .answer s (present .cab r s)) ∧
    (formed → (∃ i, 3 * i < payload.length ∧ ¬ fits i) →
      AnswersWith .cab r .outOfRange [] .answer s (present .cab r s)) ∧
    (formed → (∀ i, 3 * i < payload.length → fits i) →
      ∃ u, AnswersWith .cab r .done [] .answer u (present .cab r s)) := by
  intro formed fits r
  have hformed : liveWellFormed payload = true ↔ formed := liveWellFormed_iff payload
  have hfits : formed →
      ((liveValues s.loaded.layouts (liveItems payload)).isSome = true ↔ ∀ i, 3 * i < payload.length → fits i) := by
    intro hf
    obtain ⟨h3, _, _, hcodes⟩ := hf
    rw [liveValues_isSome, mem_liveItems h3 fun p => (liveItem s.loaded.layouts p.1 p.2).isSome = true]
    exact forall_congr' fun i => forall_congr' fun hi => liveItem_isSome _ _ ((liveCode_iff _).mpr (hcodes i hi))
  rw [present_takenAtOnce htaken]
  refine ⟨fun hno => ?_, fun hyes hbad => ?_, fun hyes hall => ?_⟩
  · exact takeRequest_answersWith ((judge_setLive hmode).trans (takeSetLive_badFormat fun h => hno (hformed.mp h)))
  · obtain ⟨i, hi, hnot⟩ := hbad
    have hnone : liveValues s.loaded.layouts (liveItems payload) = none := by
      rw [← Option.not_isSome_iff_eq_none, hfits hyes]
      exact fun h => hnot (h i hi)
    exact takeRequest_answersWith ((judge_setLive hmode).trans (takeSetLive_outOfRange (hformed.mpr hyes) hnone))
  · obtain ⟨is, his⟩ := Option.isSome_iff_exists.mp ((hfits hyes).mpr hall)
    exact ⟨_, takeRequest_answersWith ((judge_setLive hmode).trans (takeSetLive_done (hformed.mpr hyes) his))⟩

theorem home_fits (table : List Layout) (v : Nat) : itemFits table 1 v ↔ v ≤ 11 ∧ findLayout table v ≠ none := by
  simp [itemFits]

theorem warning_fits (table : List Layout) (v : Nat) : itemFits table 5 v ↔ v = 2 ∨ v = 3 := by
  simp [itemFits]

theorem applyItem_warning (v : Level) (s : State) :
    (applyItem (.warning v) s).alert =
        { s.alert with warningLevel := v, silence := s.alert.silence && decide (v.code ≤ s.alert.level.code) } ∧
      ArmsFollow readsWarning s (applyItem (.warning v) s) ∧ KeepsBut [.alert, .compositor] s (applyItem (.warning v) s) := by
  have hkeeps := (mapAlert_keeps s (setWarningLevel v)).trans (rearm_keeps readsWarning _)
  refine ⟨?_, rearm_armsFollow readsWarning (s.mapAlert (setWarningLevel v)), hkeeps⟩
  exact (rearm_alert readsWarning _).trans (setWarningLevel_eq v s.alert)

/-- Settles O36: each request's own rule, and the items of a SET_LIVE one by one. -/
theorem settingRequestsWriteTheirSettings : Obligations.SettingRequestsWriteTheirSettings := by
  unfold Obligations.SettingRequestsWriteTheirSettings
  intro tag s htaken hmode
  refine ⟨ackWarning_answers tag htaken hmode, fun enable => setNoticeMask_answers tag enable htaken hmode,
    fun payload => setLive_judged tag payload htaken hmode,
    fun a b u v hlength hu ha hb => setLive_joins htaken hmode hlength hu ha hb,
    fun value k g x => ⟨rfl, ?_, rfl, ?_⟩, fun value => ?_, fun cls value => ?_, fun value => ?_, fun g phase value => ?_⟩
  · cases k <;> rfl
  · cases x <;> rfl
  · have hcode : liveCode (1#8 : Byte).toNat = true := by decide
    refine ⟨_, sendRequest_takenAtOnce htaken _ _ _, fun hout => ?_, fun hlow hpresent => ?_⟩
    · refine takeRequest_answersWith (judge_single_none hmode hcode fun h => ?_)
      obtain ⟨hlow, hpresent⟩ := (home_fits _ _).mp h
      exact hout.elim (fun hhigh => Nat.not_le.mpr hhigh hlow) hpresent
    · have hitem : liveItem s.loaded.layouts 1 value.toNat = some (.home value.toNat) :=
        liveItem_home.trans (if_pos ⟨hlow, (layoutPresent_iff _ _).mpr hpresent⟩)
      rw [← applyItem_home]
      exact takeRequest_answersWith (judge_single_some hmode hcode hitem)
  · refine ⟨takeRequest .cab ⟨0x14#8, tag, switchByte cls :: bytes16 value⟩ s,
      sendRequest_takenAtOnce htaken _ _ _, ?_⟩
    intro code
    have hcode : code = switchByte cls := by cases cls <;> rfl
    rw [hcode]
    refine ⟨fun hhigh => ?_, fun hlow => ?_⟩
    · refine takeRequest_answersWith (judge_single_none hmode (liveCode_switch cls) fun h => ?_)
      exact Nat.not_le.mpr hhigh ((switch_fits _ cls _).mp h)
    · have hjudge := judge_single_some (tag := tag) hmode (liveCode_switch cls) (liveItem_switch s.loaded.layouts cls hlow)
      refine takeRequest_answersWith (hjudge.trans ?_)
      cases cls <;> rfl
  · have hcode : liveCode (5#8 : Byte).toNat = true := by decide
    refine ⟨_, sendRequest_takenAtOnce htaken _ _ _, fun hout => ?_, fun v hv => ?_⟩
    · refine takeRequest_answersWith (judge_single_none hmode hcode fun h => ?_)
      exact ((warning_fits _ _).mp h).elim hout.1 hout.2
    · have hitem : liveItem s.loaded.layouts 5 value.toNat = some (.warning v) := by
        rcases hv with ⟨hvalue, rfl⟩ | ⟨hvalue, rfl⟩ <;> rw [hvalue] <;> rfl
      exact ⟨applyItem (.warning v) s, takeRequest_answersWith (judge_single_some hmode hcode hitem),
        applyItem_warning v s⟩
  · refine ⟨takeRequest .cab ⟨0x14#8, tag, widthByte g phase :: bytes16 value⟩ s,
      sendRequest_takenAtOnce htaken _ _ _, ?_⟩
    intro code
    have hcode : code = widthByte g phase := by cases phase <;> rfl
    rw [hcode]
    refine ⟨fun hout => ?_, fun hlow hhigh => ?_⟩
    · refine takeRequest_answersWith (judge_single_none hmode (liveCode_width g phase) fun h => ?_)
      have hrange := (width_fits _ g phase _).mp h
      omega
    · have hjudge := judge_single_some (tag := tag) hmode (liveCode_width g phase)
        (liveItem_width s.loaded.layouts g phase ⟨hlow, hhigh⟩)
      refine takeRequest_answersWith (hjudge.trans ?_)
      cases phase <;> rfl

end Sys2Proof.Machine
end

section
/-! PROOFS. The load: PORTS taken, and the entry to RUNNING (R162, R168, R171). -/

namespace Sys2Proof.Machine

/-! ### PORTS taken -/

/-- The state in which PORTS has been taken, before the ports join (R162, R168, R172). -/
def portsRead (s : State) : State :=
  { s with
    loaded := { s.loaded with ports := ((sectionBytes s.flash.cells 9).bind parsePorts).getD portsFallback }
    loader := { s.loader with
      portsTaken := true
      fellBack := s.loader.fellBack || ((sectionBytes s.flash.cells 9).bind parsePorts).isNone }
    ports := { s.ports with
      enable := (((sectionBytes s.flash.cells 9).bind parsePorts).getD portsFallback).enable } }

theorem joinBus_keeps (p : Port) (s : State) : KeepsBut [.ports] s (joinBus p s) := by
  have hports : joinBus p s = s.mapPorts fun _ => (joinBus p s).ports := by rw [joinBus_eq]; rfl
  rw [hports]
  exact mapPorts_keeps s _

theorem portsRead_keeps (s : State) : KeepsBut [.loader, .loaded, .ports] s (portsRead s) := by
  intro b hb
  cases b <;> simp_all [Block.same, portsRead]

theorem takePorts_keeps (s : State) : KeepsBut [.loader, .loaded, .ports] s (takePorts s) := by
  have hboth := (joinBus_keeps .body (portsRead s)).trans (joinBus_keeps .chassis (joinBus .body (portsRead s)))
  exact (portsRead_keeps s).chain hboth (by simp)

/-- A port that has joined its bus has broadcast once (R162, R170). -/
theorem takePorts_port (s : State) (p : Port) :
    let t := takePorts s
    (t.ports.can.get p).state = .active ∧ (t.ports.can.get p).timer = some s.ms ∧
      (t.ports.can.get p).txErrors = 0 ∧ (t.ports.can.get p).rxErrors = 0 ∧
      ∃ data, (t.ports.can.get p).store =
        (s.ports.can.get p).store ++ [⟨t.loaded.ports.base.get p + 2, data, .unasked⟩] := by
  intro t
  cases p
  · exact ⟨rfl, rfl, rfl, rfl, _, rfl⟩
  · exact ⟨rfl, rfl, rfl, rfl, _, rfl⟩

theorem exec_portsTaken {s : State} (hmode : s.mode = .starting) (hnot : s.loader.portsTaken = false) :
    exec .portsTaken s = .next (takePorts s) := if_pos ⟨hmode, hnot⟩

theorem exec_loadCompletion {s : State} (hmode : s.mode = .starting) : exec .loadCompletion s = .next (completeLoad s) :=
  if_pos hmode

/-! ### The notices at the entry to RUNNING -/

theorem NoticesRaised.congr {as bs : List NoticeKind} {s t : State} (h : NoticesRaised as s t)
    (hmem : ∀ k, k ∈ as ↔ k ∈ bs) : NoticesRaised bs s t := by
  intro m k hk
  rw [h m k hk, decide_eq_decide.mpr (hmem k)]

/-- The notices of the intake for one camera. -/
def entryKinds (c : Camera) (s : State) : List NoticeKind :=
  (if (s.intake.get c).link ≠ .live then [.cameraLost] else []) ++
    (if (s.intake.get c).episode = true then [.cameraMismatch] else [])

theorem entryNotices_eq (c : Camera) (s : State) :
    entryNotices c s =
      raiseIf (decide ((s.intake.get c).episode = true)) .cameraMismatch
        (raiseIf (decide ((s.intake.get c).link ≠ .live)) .cameraLost s) := by
  unfold entryNotices raiseIf
  by_cases hlink : (s.intake.get c).link = .live <;> cases hepisode : (s.intake.get c).episode <;> simp [hlink]

theorem entryNotices_keeps (c : Camera) (s : State) : KeepsBut [.ports] s (entryNotices c s) := by
  rw [entryNotices_eq]
  exact (raiseIf_keeps _ _ s).chain (raiseIf_keeps _ _ _) (by simp)

theorem entryNotices_ports (c : Camera) (s : State) :
    NoticesOnly s (entryNotices c s) ∧ NoticesRaised (entryKinds c s) s (entryNotices c s) := by
  rw [entryNotices_eq]
  obtain ⟨honly, hraised⟩ := raiseIf_ports ((s.intake.get c).link ≠ .live) .cameraLost s
  obtain ⟨honly', hraised'⟩ := raiseIf_ports ((s.intake.get c).episode = true) .cameraMismatch
    (raiseIf (decide ((s.intake.get c).link ≠ .live)) .cameraLost s)
  have hloaded := congrArg Loaded.ports
    (raiseIf_keeps (decide ((s.intake.get c).link ≠ .live)) .cameraLost s .loaded (by decide))
  exact ⟨honly.trans honly', hraised.trans hraised' hloaded⟩

/-- Notices raised one lot after another, over blocks that the ports alone change. -/
theorem notices_chain {as bs : List NoticeKind} {s t u : State} (hst : KeepsBut [.ports] s t)
    (h : NoticesOnly s t ∧ NoticesRaised as s t) (k : NoticesOnly t u ∧ NoticesRaised bs t u) :
    NoticesOnly s u ∧ NoticesRaised (as ++ bs) s u :=
  ⟨h.1.trans k.1, h.2.trans k.2 (congrArg Loaded.ports (hst .loaded (by decide)))⟩

/-- The notices of R171, in their order. -/
def entryAll (s : State) : State :=
  entryNotices 3 (entryNotices 2 (entryNotices 1 (entryNotices 0 (raiseIf (decide (s.loader.fellBack = true)) .configFallback s))))

theorem enterRunning_eq (s : State) : enterRunning s = decisionEvent (rearm (fun _ => true) (entryAll s)) := by
  unfold enterRunning entryAll raiseIf
  cases s.loader.fellBack <;> simp

theorem mem_ite_singleton {p : Prop} [Decidable p] {k x : NoticeKind} : k ∈ (if p then [x] else []) ↔ p ∧ k = x := by
  by_cases h : p <;> simp [h]

theorem exists_camera_iff (P : Camera → Prop) : (∃ c, P c) ↔ P 0 ∨ P 1 ∨ P 2 ∨ P 3 := by
  constructor
  · rintro ⟨c, h⟩
    match c with
    | 0 => exact .inl h
    | 1 => exact .inr (.inl h)
    | 2 => exact .inr (.inr (.inl h))
    | 3 => exact .inr (.inr (.inr h))
  · rintro (h | h | h | h)
    · exact ⟨0, h⟩
    · exact ⟨1, h⟩
    · exact ⟨2, h⟩
    · exact ⟨3, h⟩

theorem entryAll_keeps (s : State) : KeepsBut [.ports] s (entryAll s) := by
  have h0 := (raiseIf_keeps (decide (s.loader.fellBack = true)) .configFallback s).chain (entryNotices_keeps 0 _)
    (cs := [.ports]) (by simp)
  have h1 := h0.chain (entryNotices_keeps 1 _) (cs := [.ports]) (by simp)
  have h2 := h1.chain (entryNotices_keeps 2 _) (cs := [.ports]) (by simp)
  exact h2.chain (entryNotices_keeps 3 _) (by simp)

/-- The notices of the four cameras, gathered by kind. -/
theorem entries_gather {f l0 l1 l2 l3 e0 e1 e2 e3 a b c : Prop} :
    ((((f ∧ a ∨ l0 ∧ b ∨ e0 ∧ c) ∨ l1 ∧ b ∨ e1 ∧ c) ∨ l2 ∧ b ∨ e2 ∧ c) ∨ l3 ∧ b ∨ e3 ∧ c) ↔
      (f ∧ a ∨ (l0 ∨ l1 ∨ l2 ∨ l3) ∧ b) ∨ (e0 ∨ e1 ∨ e2 ∨ e3) ∧ c := by
  grind

theorem entryAll_ports (s : State) :
    NoticesOnly s (entryAll s) ∧
      NoticesRaised
        ((if s.loader.fellBack = true then [.configFallback] else []) ++
          (if ∃ c, (s.intake.get c).link ≠ .live then [.cameraLost] else []) ++
          (if ∃ c, (s.intake.get c).episode = true then [.cameraMismatch] else [])) s (entryAll s) := by
  have k0 := raiseIf_keeps (decide (s.loader.fellBack = true)) .configFallback s
  have k1 := k0.chain (entryNotices_keeps 0 _) (cs := [.ports]) (by simp)
  have k2 := k1.chain (entryNotices_keeps 1 _) (cs := [.ports]) (by simp)
  have k3 := k2.chain (entryNotices_keeps 2 _) (cs := [.ports]) (by simp)
  have n1 := notices_chain k0 (raiseIf_ports (s.loader.fellBack = true) .configFallback s) (entryNotices_ports 0 _)
  have n2 := notices_chain k1 n1 (entryNotices_ports 1 _)
  have n3 := notices_chain k2 n2 (entryNotices_ports 2 _)
  obtain ⟨honly, hraised⟩ := notices_chain k3 n3 (entryNotices_ports 3 _)
  refine ⟨honly, hraised.congr fun k => ?_⟩
  have hkinds : ∀ {c : Camera} {u : State}, KeepsBut [.ports] s u → entryKinds c u = entryKinds c s := fun {c u} hu => by
    rw [entryKinds, entryKinds, show u.intake = s.intake from hu .intake (by decide)]
  rw [hkinds k0, hkinds k1, hkinds k2, hkinds k3]
  simp only [entryKinds, List.mem_append, mem_ite_singleton, exists_camera_iff]
  exact entries_gather

/-! ### The load completion -/

theorem completeLoad_eq {s : State} (h : s.loader.portsTaken = true) :
    completeLoad s = enterRunning (installLoad (loadSections s.flash.cells s.loaded.ports) s) := by
  rw [completeLoad, if_pos h]

/-- The entry to RUNNING of a state that is RUNNING already but for its entry actions. -/
theorem enterRunning_fields {s : State} (hmode : s.mode = .running) :
    (enterRunning s).arbiter = decideArbiter s.arbiter ∧
      KeepsBut [.ports, .compositor, .arbiter] s (enterRunning s) ∧
      NoticesOnly s (enterRunning s) ∧
      NoticesRaised
        ((if s.loader.fellBack = true then [.configFallback] else []) ++
          (if ∃ c, (s.intake.get c).link ≠ .live then [.cameraLost] else []) ++
          (if ∃ c, (s.intake.get c).episode = true then [.cameraMismatch] else [])) s (enterRunning s) ∧
      (enterRunning s).compositor = { s.compositor with generators := (enterRunning s).compositor.generators } ∧
      ∀ g, (enterRunning s).compositor.generators.get g =
        { s.compositor.generators.get g with
          pending := armValue (enterRunning s) (s.compositor.generators.get g).source } := by
  have hentry := entryAll_keeps s
  have hentryMode : (entryAll s).mode = .running := by
    rw [State.mode, show (entryAll s).loader = s.loader from hentry .loader (by decide)]
    exact hmode
  have hentryCompositor : (entryAll s).compositor = s.compositor := hentry .compositor (by decide)
  have hentryArbiter : (entryAll s).arbiter = s.arbiter := hentry .arbiter (by decide)
  have hrearm := rearm_keeps (fun _ => true) (entryAll s)
  have hdecision := decisionEvent_keeps (rearm (fun _ => true) (entryAll s))
  have hkeeps : KeepsBut [.ports, .compositor, .arbiter] s (enterRunning s) := by
    rw [enterRunning_eq]
    exact (hentry.trans hrearm).chain hdecision (by simp)
  obtain ⟨honly, hraised⟩ := entryAll_ports s
  have hports : (enterRunning s).ports = (entryAll s).ports := by
    rw [enterRunning_eq, decisionEvent_ports_eq]
    exact hrearm .ports (by decide)
  have hloaded : (entryAll s).loaded.ports = s.loaded.ports := congrArg Loaded.ports (hentry .loaded (by decide))
  have harms := rearm_armsFollow (fun _ => true) (entryAll s)
  have hfollow : ArmsFollow (fun _ => true) (entryAll s) (enterRunning s) := by
    refine harms.of_armValue ?_ fun x => ?_
    · rw [enterRunning_eq]
      exact hdecision .compositor (by decide)
    · rw [enterRunning_eq]
      have hintake : (decisionEvent (rearm (fun _ => true) (entryAll s))).intake = (rearm (fun _ => true) (entryAll s)).intake :=
        hdecision .intake (by decide)
      exact armValue_congr (by rw [hintake]) (hdecision .exposure (by decide)) (hdecision .alert (by decide))
  obtain ⟨hcompositor, hgenerators⟩ := hfollow
  rw [hentryCompositor] at hcompositor hgenerators
  refine ⟨?_, hkeeps, honly.trans (.of_ports hports), ?_, hcompositor, fun g => ?_⟩
  · have hmode' : (rearm (fun _ => true) (entryAll s)).mode = .running := by
      rw [State.mode, show (rearm (fun _ => true) (entryAll s)).loader = (entryAll s).loader from hrearm .loader (by decide)]
      exact hentryMode
    rw [enterRunning_eq, decisionEvent_arbiter, if_pos hmode',
      show (rearm (fun _ => true) (entryAll s)).arbiter = (entryAll s).arbiter from hrearm .arbiter (by decide), hentryArbiter]
  · have hall := hraised.trans (NoticesRaised.of_ports hports) hloaded
    rwa [List.append_nil] at hall
  · rw [hgenerators g, if_pos ⟨by simp [hentryMode], rfl⟩]

/-- The load's results in place, before the entry actions of R171. -/
theorem installLoad_keeps (r : LoadResult) (s : State) :
    KeepsBut [.loader, .loaded, .motion, .tracker, .alert, .arbiter, .compositor] s (installLoad r s) := by
  intro b hb
  cases b <;> simp_all [Block.same, installLoad]

/-- Settles O44: PORTS with its two joins, and the entry to RUNNING with the load's results in place. -/
theorem loadTakesPortsAndEntersRunning : Obligations.LoadTakesPortsAndEntersRunning := by
  unfold Obligations.LoadTakesPortsAndEntersRunning
  refine ⟨fun s hmode hnot => ?_, fun s hno => ?_, fun s hmode htaken => ?_, fun s hmode hnot => ?_,
    fun s hmode => if_neg hmode⟩
  · exact ⟨takePorts s, exec_portsTaken hmode hnot, hmode, rfl, rfl, rfl, takePorts_port s, rfl, rfl, takePorts_keeps s⟩
  · refine if_neg fun h => ?_
    rcases hno with hno | hno
    · exact hno h.1
    · simp [hno] at h
  · refine ⟨completeLoad s, exec_loadCompletion hmode, ?_⟩
    rw [completeLoad_eq htaken]
    generalize hr : loadSections s.flash.cells s.loaded.ports = r
    have hports : r.loaded.ports = s.loaded.ports := by rw [← hr]; rfl
    obtain ⟨harbiter, hkeeps, honly, hraised, hcompositor, hgenerators⟩ :=
      enterRunning_fields (s := installLoad r s) rfl
    have hfell : (if s.loader.fellBack = true ∨ r.fell = true then [NoticeKind.configFallback] else []) =
        if (installLoad r s).loader.fellBack = true then [NoticeKind.configFallback] else [] :=
      ite_congr (propext Bool.or_eq_true_iff.symm) (fun _ => rfl) fun _ => rfl
    have hloaded : (enterRunning (installLoad r s)).loaded = r.loaded := hkeeps .loaded (by decide)
    have hloader : (enterRunning (installLoad r s)).loader = (installLoad r s).loader := hkeeps .loader (by decide)
    refine ⟨by rw [hloader]; rfl, hloaded, hkeeps .motion (by decide), hkeeps .tracker (by decide), ?_, ?_, fun g => ?_,
      hcompositor, honly, ?_, ?_⟩
    · rw [hloaded]
      exact hkeeps .alert (by decide)
    · rw [hloaded]
      exact harbiter
    · rw [hgenerators g, hloaded]
      simp [installLoad, loadedGenerator, generatorStart]
    · intro m k hk
      have h := hraised m k hk
      rw [show (installLoad r s).loaded.ports = s.loaded.ports from hports] at h
      rw [h, hfell]
      rfl
    · exact (installLoad_keeps r s).chain hkeeps (by simp)
  · refine ⟨takePorts s, exec_portsTaken hmode hnot, ?_⟩
    have hmode' : (takePorts s).mode = .starting := hmode
    have htaken' : (takePorts s).loader.portsTaken = true := rfl
    rw [exec_loadCompletion hmode, exec_loadCompletion hmode', completeLoad_eq htaken', completeLoad, if_neg (by simp [hnot])]

end Sys2Proof.Machine
end

section
/-! PROOFS. The restart and the power-on reset (R176). -/

namespace Sys2Proof.Machine

/-! ### A flash operation that a power-on reset cuts -/

/-- A memory over which part of a run of addresses has been written: each byte is as before, or as the run writes it. -/
theorem sparseRead_writeSome {cells : List Host.Cell} (hwf : sparseWf erased cells = true) (a n : Nat) (g : Nat → Byte)
    (chosen : Nat → Bool) (b : Nat) :
    let cut := sparseWriteAll erased cells (((List.range n).filter fun i => chosen (a + i)).map fun i => (a + i, g i))
    sparseRead erased cut b = sparseRead erased cells b ∨
      ∃ i, i < n ∧ b = a + i ∧ sparseRead erased cut b = g i := by
  intro cut
  by_cases hin : ∃ i, i < n ∧ b = a + i ∧ chosen b = true
  · obtain ⟨i, hi, rfl, hsome⟩ := hin
    refine .inr ⟨i, hi, rfl, ?_⟩
    rw [sparseRead_writeAll hwf, lastWrite_of_forall (v := g i)]
    · rfl
    · exact List.mem_map.mpr ⟨i, List.mem_filter.mpr ⟨List.mem_range.mpr hi, hsome⟩, rfl⟩
    · intro p hp hpa
      obtain ⟨j, _, rfl⟩ := List.mem_map.mp hp
      rw [Nat.add_left_cancel hpa]
  · refine .inl ?_
    rw [sparseRead_writeAll hwf, lastWrite_none]
    · rfl
    · intro p hp hpa
      obtain ⟨j, hj, rfl⟩ := List.mem_map.mp hp
      obtain ⟨hrange, hsome⟩ := List.mem_filter.mp hj
      exact hin ⟨j, List.mem_range.mp hrange, hpa.symm, hpa ▸ hsome⟩

/-- A flash operation that is cut leaves each of its bytes old or new, and every other byte as it was (R176). -/
theorem sparseRead_flashCut {f : Flash} (hwf : sparseWf erased f.cells = true) (isNew : Nat → Bool) (b : Nat) :
    sparseRead erased (flashCut isNew f) b = sparseRead erased f.cells b ∨
      (∃ a data i, f.op = .writing a data ∧ i < 128 ∧ b = a + i ∧
        sparseRead erased (flashCut isNew f) b = sparseRead erased f.cells b &&& data.getD i 0xFF#8) ∨
      ∃ a i, f.op = .erasing a ∧ i < 4096 ∧ b = a + i ∧ sparseRead erased (flashCut isNew f) b = 0xFF#8 := by
  unfold flashCut
  cases f.op with
  | idle => exact .inl rfl
  | reading a => exact .inl rfl
  | writing a data =>
    rcases sparseRead_writeSome hwf a 128 (writtenByte f.cells a data) isNew b with h | ⟨i, hi, rfl, h⟩
    · exact .inl h
    · exact .inr (.inl ⟨a, data, i, rfl, hi, rfl, h⟩)
  | erasing a =>
    rcases sparseRead_writeSome hwf a 4096 (fun _ => erased) isNew b with h | ⟨i, hi, rfl, h⟩
    · exact .inl h
    · exact .inr (.inr ⟨a, i, rfl, hi, rfl, h⟩)

/-! ### The blocks after a restart -/

/-- A camera after a restart (R20, R33). -/
theorem restarted_eq (k : CameraIntake) :
    k.restarted =
      { k with
        link := if k.lock then .search else .down
        slots := k.restarted.slots
        header := none
        stall := none
        lost := .expired
        episode := false
        sendBuffer := none } := by
  cases h : k.lock <;> simp [CameraIntake.restarted, linkStart, h]

theorem restarted_slot (k : CameraIntake) (i : Fin 3) :
    k.restarted.slots.get i = { k.slots.get i with state := .free, gain := 0, doneMs := 0#32 } := by
  simp only [CameraIntake.restarted, Trio.get_map]
  rfl

theorem restartPart_keeps (s : State) :
    KeepsBut [.loader, .loaded, .intake, .exposure, .motion, .tracker, .alert, .arbiter, .remap, .compositor, .incident,
      .ports, .flash] s (restartPart s) := by
  intro b hb
  cases b <;> simp_all [Block.same, restartPart]

/-- Settles O46: the start values block by block, and a cut flash operation byte by byte. -/
theorem resetsReturnToTheStartState : Obligations.ResetsReturnToTheStartState := by
  unfold Obligations.ResetsReturnToTheStartState
  refine ⟨fun s => ⟨restartPart s, rfl, rfl, rfl, rfl, rfl, fun c => ?_, fun c i => ?_, fun c => ?_, rfl, rfl, rfl, rfl, rfl,
    rfl, rfl, restartPart_keeps s⟩, fun s hcanonical => ⟨powerOn s, rfl, rfl, rfl, rfl, rfl, rfl, rfl, rfl, rfl, rfl, rfl,
    rfl, rfl, fun c => Quad.get_all _ c, fun c => ?_, fun c i => ?_, rfl, rfl, rfl, rfl, rfl,
    sparseRead_flashCut ((memoryCanonical_iff s).mp hcanonical).1 _⟩⟩
  · have hget : (restartPart s).intake.get c = (s.intake.get c).restarted := Quad.get_map _ _ _
    rw [hget]
    exact restarted_eq _
  · have hget : (restartPart s).intake.get c = (s.intake.get c).restarted := Quad.get_map _ _ _
    rw [hget]
    exact restarted_slot _ i
  · exact Quad.get_map _ _ _
  · have hget : (powerOn s).intake.get c = (s.intake.get c).poweredOn := Quad.get_map _ _ _
    rw [hget, CameraIntake.poweredOn, CameraIntake.cleared, restarted_eq]
  · have hget : (powerOn s).intake.get c = (s.intake.get c).poweredOn := Quad.get_map _ _ _
    rw [hget]
    exact restarted_slot _ i

end Sys2Proof.Machine
end

section
/-! PROOFS. The load's sections and their fallbacks (R172). -/

namespace Sys2Proof.Machine

/-! ### Header, directory and section bytes -/

theorem u16At_lt (l : List Byte) (i : Nat) : u16At l i < 65536 := by
  have h0 : byteAt l i < 256 := BitVec.isLt _
  have h1 : byteAt l (i + 1) < 256 := BitVec.isLt _
  unfold u16At
  omega

theorem eq_halfAt_iff (x : Half) (l : List Byte) (i : Nat) : x = halfAt l i ↔ x.toNat = u16At l i := by
  rw [halfAt, ← BitVec.toNat_inj, BitVec.toNat_ofNat, Nat.mod_eq_of_lt (u16At_lt l i)]

theorem getD_of_lt {α : Type} {l : List α} {i : Nat} {d : α} (h : i < l.length) : l.getD i d = l[i] := by
  rw [List.getD_eq_getElem?_getD, List.getElem?_eq_getElem h, Option.getD_some]

theorem getD_of_le {α : Type} {l : List α} {i : Nat} {d : α} (h : l.length ≤ i) : l.getD i d = d := by
  rw [List.getD_eq_getElem?_getD, List.getElem?_eq_none h, Option.getD_none]

theorem readBytes_length (cells : List Host.Cell) (a n : Nat) : (readBytes cells a n).length = n := by
  rw [readBytes, List.length_map, List.length_range]

theorem readBytes_take (cells : List Host.Cell) (a : Nat) {n k : Nat} (h : k ≤ n) :
    (readBytes cells a n).take k = readBytes cells a k := by
  rw [readBytes, readBytes, ← List.map_take, List.take_range, Nat.min_eq_left h]

theorem byteAt_readBytes (cells : List Host.Cell) (a : Nat) {n i : Nat} (h : i < n) :
    byteAt (readBytes cells a n) i = (sparseRead erased cells (a + i)).toNat := by
  rw [byteAt, readBytes, getD_of_lt (by simpa using h)]
  simp

/-- The five checks of the header (R172). -/
def HeaderFits (flash : List Host.Cell) : Prop :=
  let header := readBytes flash 0 12
  let count := byteAt header 6
  u32At header 0 = 0x36344353 ∧ u16At header 4 = 1 ∧ 1 ≤ count ∧ count ≤ 16 ∧
    (crc16 (readBytes flash 0 8 ++ readBytes flash 12 (12 * count))).toNat = u16At header 8

theorem headerPasses_iff (flash : List Host.Cell) : headerPasses flash = true ↔ HeaderFits flash := by
  simp only [headerPasses, HeaderFits, Bool.and_eq_true, decide_eq_true_eq, eq_halfAt_iff,
    readBytes_take flash 0 (show 8 ≤ 12 by decide), and_assoc]

/-- The number of directory entries. -/
def entryCount (flash : List Host.Cell) : Nat := byteAt (readBytes flash 0 12) 6

theorem directory_of_fits {flash : List Host.Cell} (h : HeaderFits flash) :
    directory flash = (List.range (entryCount flash)).map fun n => entryAt flash (12 + 12 * n) := by
  have hcount : byteAt (readBytes flash 6 1) 0 = entryCount flash := by
    rw [entryCount, byteAt_readBytes flash 0 (by decide), byteAt_readBytes flash 6 (by decide)]
  rw [directory, if_pos ((headerPasses_iff flash).mpr h), hcount]

theorem directory_of_not {flash : List Host.Cell} (h : ¬ HeaderFits flash) : directory flash = [] :=
  if_neg fun hp => h ((headerPasses_iff flash).mp hp)

/-- One number alone below a bound passes a test. -/
theorem filter_range_eq_singleton {p : Nat → Bool} {c n : Nat} :
    (List.range c).filter p = [n] ↔ (n < c ∧ p n = true) ∧ ∀ m, m < c ∧ p m = true → m = n := by
  have hmem : ∀ m, m ∈ (List.range c).filter p ↔ m < c ∧ p m = true := fun m => by
    rw [List.mem_filter, List.mem_range]
  constructor
  · intro h
    rw [h] at hmem
    exact ⟨(hmem n).mp List.mem_cons_self, fun m hm => List.mem_singleton.mp ((hmem m).mpr hm)⟩
  · rintro ⟨hn, hall⟩
    have hperm : ((List.range c).filter p).Perm [n] := by
      refine (List.perm_ext_iff_of_nodup (List.nodup_range.filter p) (List.pairwise_singleton _ n)).mpr fun m => ?_
      rw [hmem, List.mem_singleton]
      exact ⟨hall m, fun h => h ▸ hn⟩
    exact List.perm_singleton.mp hperm

theorem entryOf_eq_some {dir : List Entry} {code : Nat} {e : Entry} :
    entryOf dir code = some e ↔ (dir.filter fun e => decide (e.code = code)) = [e] := by
  unfold entryOf
  constructor
  · intro h
    split at h
    · next x hx => rw [hx, Option.some.inj h]
    · cases h
  · intro h
    rw [h]

/-- The entry that alone names a code (R172). -/
theorem entryOf_directory {flash : List Host.Cell} (h : HeaderFits flash) (code : Nat) (e : Entry) :
    entryOf (directory flash) code = some e ↔
      ∃ n, (n < entryCount flash ∧ (entryAt flash (12 + 12 * n)).code = code) ∧
        (∀ m, m < entryCount flash ∧ (entryAt flash (12 + 12 * m)).code = code → m = n) ∧
        e = entryAt flash (12 + 12 * n) := by
  rw [entryOf_eq_some, directory_of_fits h, List.filter_map]
  constructor
  · intro heq
    obtain ⟨n, hn, hen⟩ := List.map_eq_singleton_iff.mp heq
    obtain ⟨hin, hall⟩ := filter_range_eq_singleton.mp hn
    exact ⟨n, by simpa using hin, by simpa using hall, hen.symm⟩
  · rintro ⟨n, hin, hall, rfl⟩
    exact List.map_eq_singleton_iff.mpr
      ⟨n, filter_range_eq_singleton.mpr ⟨by simpa using hin, by simpa using hall⟩, rfl⟩

theorem sectionEntry_eq_some {flash : List Host.Cell} {code : Nat} {e : Entry} :
    sectionEntry flash code = some e ↔
      entryOf (directory flash) code = some e ∧ e.offset + e.length ≤ flashSize ∧
        crc16 (readBytes flash e.offset e.length) = e.crc := by
  unfold sectionEntry
  cases h : entryOf (directory flash) code with
  | none => simp
  | some x =>
    by_cases hfits : x.offset + x.length ≤ flashSize ∧ crc16 (readBytes flash x.offset x.length) = x.crc
    · simp only [if_pos hfits]
      exact ⟨fun hx => ⟨hx, Option.some.inj hx ▸ hfits⟩, fun hx => hx.1⟩
    · simp only [if_neg hfits]
      refine ⟨fun hx => absurd hx (by simp), fun ⟨hx, hrest⟩ => ?_⟩
      exact absurd (Option.some.inj hx ▸ hrest) hfits

theorem sectionBytes_of_not {flash : List Host.Cell} (h : ¬ HeaderFits flash) (code : Nat) :
    sectionEntry flash code = none := by
  rw [Option.eq_none_iff_forall_not_mem]
  intro e he
  have hentry := (sectionEntry_eq_some.mp he).1
  rw [directory_of_not h] at hentry
  simp [entryOf] at hentry

/-- When a section's bytes can be read, and what they are (R172). -/
theorem sectionBytes_eq_some (flash : List Host.Cell) (code : Nat) (l : List Byte) :
    sectionBytes flash code = some l ↔
      HeaderFits flash ∧ ∃ n, (n < entryCount flash ∧ byteAt (readBytes flash (12 + 12 * n) 12) 0 = code) ∧
        (∀ m, m < entryCount flash ∧ byteAt (readBytes flash (12 + 12 * m) 12) 0 = code → m = n) ∧
        u32At (readBytes flash (12 + 12 * n) 12) 4 + u32At (readBytes flash (12 + 12 * n) 12) 8 ≤ 8388608 ∧
        (crc16 l).toNat = u16At (readBytes flash (12 + 12 * n) 12) 2 ∧
        l = readBytes flash (u32At (readBytes flash (12 + 12 * n) 12) 4) (u32At (readBytes flash (12 + 12 * n) 12) 8) := by
  rw [sectionBytes, Option.map_eq_some_iff]
  constructor
  · rintro ⟨e, he, rfl⟩
    obtain ⟨hentry, hinside, hcrc⟩ := sectionEntry_eq_some.mp he
    by_cases hfits : HeaderFits flash
    · obtain ⟨n, hin, hall, rfl⟩ := (entryOf_directory hfits code e).mp hentry
      exact ⟨hfits, n, hin, hall, hinside, (eq_halfAt_iff _ _ _).mp hcrc, rfl⟩
    · rw [directory_of_not hfits] at hentry
      simp [entryOf] at hentry
  · rintro ⟨hfits, n, hin, hall, hinside, hcrc, rfl⟩
    refine ⟨entryAt flash (12 + 12 * n), sectionEntry_eq_some.mpr ⟨?_, hinside, (eq_halfAt_iff _ _ _).mpr hcrc⟩, rfl⟩
    exact (entryOf_directory hfits code _).mpr ⟨n, hin, hall, rfl⟩

/-! ### MAPS -/

/-- A memory read after a stretch of it has been moved down to address 0. -/
theorem sparseRead_copyMap (flash : List Host.Cell) (e : Entry) (a : Nat) :
    sparseRead erased (copyMap flash e) a = (readBytes flash e.offset e.length).getD a 0xFF#8 := by
  by_cases ha : a < e.length
  · rw [getD_of_lt (by simpa [readBytes_length] using ha)]
    simp only [readBytes, List.getElem_map, List.getElem_range, copyMap]
    induction flash with
    | nil => rfl
    | cons p flash ih =>
      obtain ⟨k, v⟩ := p
      by_cases hin : e.offset ≤ k ∧ k < e.offset + e.length
      · rw [List.filter_cons_of_pos (by simpa using hin), List.map_cons, sparseRead, sparseRead, ih]
        exact ite_congr (propext (by omega)) (fun _ => rfl) fun _ => rfl
      · rw [List.filter_cons_of_neg (by simpa using hin), ih, sparseRead, if_neg (by omega)]
  · rw [getD_of_le (by simpa [readBytes_length] using ha)]
    simp only [copyMap]
    induction flash with
    | nil => rfl
    | cons p flash ih =>
      obtain ⟨k, v⟩ := p
      by_cases hin : e.offset ≤ k ∧ k < e.offset + e.length
      · rw [List.filter_cons_of_pos (by simpa using hin), List.map_cons, sparseRead, if_neg (by omega), ih]
      · rw [List.filter_cons_of_neg (by simpa using hin), ih]

/-- MAPS is taken when its bytes are at most the map area and whole records (R172). -/
theorem parseMaps_eq (flash : List Host.Cell) :
    parseMaps flash =
      (sectionEntry flash 2).bind fun e =>
        if e.length ≤ 4194304 ∧ e.length % 32 = 0 then some ⟨e.length, copyMap flash e⟩ else none := by
  unfold parseMaps
  cases sectionEntry flash 2 with
  | none => rfl
  | some e => by_cases h : e.length ≤ 4194304 ∧ e.length % 32 = 0 <;> simp [ensure, h]

/-- The bytes of MAPS, when it passes. -/
def mapBytes (flash : List Host.Cell) : Option (List Byte) :=
  (sectionBytes flash 2).filter fun l => decide (l.length ≤ 4194304 ∧ l.length % 32 = 0)

theorem mapBytes_eq (flash : List Host.Cell) :
    mapBytes flash =
      (sectionEntry flash 2).bind fun e =>
        if e.length ≤ 4194304 ∧ e.length % 32 = 0 then some (readBytes flash e.offset e.length) else none := by
  unfold mapBytes sectionBytes
  cases sectionEntry flash 2 with
  | none => rfl
  | some e => by_cases h : e.length ≤ 4194304 ∧ e.length % 32 = 0 <;> simp [Option.filter, readBytes_length, h]

/-- MAPS is taken or not as its bytes pass, and gives their length and their contents. -/
theorem parseMaps_cases (flash : List Host.Cell) :
    (mapBytes flash = none ∧ parseMaps flash = none) ∨
      ∃ l m, mapBytes flash = some l ∧ parseMaps flash = some m ∧ m.length = l.length ∧
        ∀ a, sparseRead erased m.cells a = l.getD a 0xFF#8 := by
  rw [mapBytes_eq, parseMaps_eq]
  cases sectionEntry flash 2 with
  | none => exact .inl ⟨rfl, rfl⟩
  | some e =>
    by_cases h : e.length ≤ 4194304 ∧ e.length % 32 = 0
    · refine .inr ⟨_, _, if_pos h, if_pos h, (readBytes_length _ _ _).symm, sparseRead_copyMap flash e⟩
    · exact .inl ⟨if_neg h, if_neg h⟩

/-! ### Views -/

/-- A view layout is kept when the table holds it (R115). -/
theorem resolveView_eq (table : List Layout) (k : Zone) :
    resolveView table k = { k with view := k.view.filter fun n => (findLayout table n).isSome } := by
  unfold resolveView
  cases k.view with
  | none => rfl
  | some n =>
    by_cases h : layoutPresent table n = true
    · have h' : (findLayout table n).isSome = true := h
      simp [Option.filter, h, h']
    · have h' : ¬ (findLayout table n).isSome = true := h
      simp [Option.filter, h, h']

theorem isNone_iff {α : Type} (x : Option α) : x.isNone = true ↔ x = none := Option.isNone_iff_eq_none

/-- A failed header gives every section its fallback. -/
theorem loadSections_of_not {flash : List Host.Cell} (h : ¬ HeaderFits flash) (ports : PortsConfig) :
    loadSections flash ports =
      { loaded :=
          { layouts := [plainQuad]
            home := 0
            mapLength := 0
            mapCells := []
            zones := [⟨0, true, 0, 1000, 0, 300, .always, .caution, 1500, some 0⟩]
            staleLimit := 500
            warningLevel := .caution
            warningGenerator := 3
            sensors := []
            gate := 80
            overlays := []
            generators := generatorsFallback
            watchSets := watchFallback
            targets := Quad.all 110
            triggers := triggersFallback
            ports := ports
            palette := paletteFallback }
        cells := []
        fell := true } := by
  have hnone : ∀ code, sectionBytes flash code = none := fun code => by rw [sectionBytes, sectionBytes_of_not h, Option.map_none]
  have hmaps : parseMaps flash = none := by rw [parseMaps_eq, sectionBytes_of_not h, Option.bind_none]
  simp only [loadSections, hnone, hmaps, Option.bind_none, Option.getD_none]
  rfl

/-- Settles O24: the bytes of a section, each section's value or fallback, and the failed header. -/
theorem loadFallsBackBySection : Obligations.LoadFallsBackBySection := by
  unfold Obligations.LoadFallsBackBySection
  refine ⟨fun flash ports => ?_, rfl, rfl, rfl, rfl, rfl, rfl, rfl⟩
  intro bytes header count headerFits entry names r watch overlays sensors layouts zones map
  have hmap : (map = none ∧ parseMaps flash = none) ∨
      ∃ l m, map = some l ∧ parseMaps flash = some m ∧ m.length = l.length ∧
        ∀ a, sparseRead erased m.cells a = l.getD a 0xFF#8 := parseMaps_cases flash
  have hlength : r.loaded.mapLength = ((parseMaps flash).getD ⟨0, []⟩).length := rfl
  have hcells : r.loaded.mapCells = ((parseMaps flash).getD ⟨0, []⟩).cells := rfl
  have htable : (r.loaded.home, r.loaded.layouts) =
      ((if (parseMaps flash).isSome then layouts.getD layoutsFallback else layoutsFallback).home,
        (if (parseMaps flash).isSome then layouts.getD layoutsFallback else layoutsFallback).layouts) := rfl
  obtain ⟨hhome, hlayouts⟩ := Prod.mk.inj htable
  refine ⟨sectionBytes_eq_some flash, rfl, rfl, ?_, ?_, rfl, ?_, ?_, rfl, ?_, ?_, ?_, fun hno => ?_, fun l hl a => ?_,
    fun hno => ?_, fun hyes x hx => ?_, ?_, ?_, fun hno => ?_⟩
  · show (sensors.getD ⟨80, []⟩).gate = _
    cases sensors <;> rfl
  · show (sensors.getD ⟨80, []⟩).sensors = _
    cases sensors <;> rfl
  · show (watch.getD ⟨watchFallback, targetsFallback⟩).sets = _
    cases watch <;> rfl
  · show (watch.getD ⟨watchFallback, targetsFallback⟩).targets = _
    cases watch <;> rfl
  · show (overlays.getD ⟨[], generatorsFallback⟩).objects = _
    cases overlays <;> rfl
  · show (overlays.getD ⟨[], generatorsFallback⟩).generators = _
    cases overlays <;> rfl
  · rw [hlength]
    rcases hmap with ⟨hnone, hparse⟩ | ⟨l, m, hsome, hparse, hlen, _⟩
    · rw [hnone, hparse]; rfl
    · rw [hsome, hparse]; exact hlen
  · rw [hcells]
    rcases hmap with ⟨hnone, hparse⟩ | ⟨l, m, hsome, hparse, _, _⟩
    · rw [hparse]; rfl
    · rw [hsome] at hno; cases hno
  · rw [hcells]
    rcases hmap with ⟨hnone, hparse⟩ | ⟨l', m, hsome, hparse, _, hread⟩
    · rw [hnone] at hl; cases hl
    · rw [hsome] at hl
      cases hl
      rw [hparse]
      exact hread a
  · rw [hhome, hlayouts]
    rcases hmap with ⟨hnone, hparse⟩ | ⟨l, m, hsome, hparse, _, _⟩
    · rw [hparse]; exact ⟨rfl, rfl⟩
    · have hlay := hno.resolve_left (by simp [hsome])
      rw [hparse, hlay]
      exact ⟨rfl, rfl⟩
  · rw [hhome, hlayouts]
    rcases hmap with ⟨hnone, hparse⟩ | ⟨l, m, hsome, hparse, _, _⟩
    · exact absurd hnone hyes
    · rw [hparse, hx]
      exact ⟨rfl, rfl⟩
  · intro z
    refine ⟨rfl, rfl, rfl, ?_⟩
    have hresolve : (fun k : Zone => ({ k with view := k.view.filter fun n => (findLayout r.loaded.layouts n).isSome } : Zone)) =
        resolveView r.loaded.layouts := funext fun k => (resolveView_eq _ k).symm
    rw [hresolve]
    rfl
  · have hfell : r.fell =
        (((sectionBytes flash 10).bind parsePalette).isNone || sensors.isNone || ((sectionBytes flash 5).bind parseCells).isNone ||
          watch.isNone || ((sectionBytes flash 8).bind parseTriggers).isNone || overlays.isNone || (parseMaps flash).isNone ||
          layouts.isNone || zones.isNone) := rfl
    have hmaps : parseMaps flash = none ↔ map = none := by
      rcases hmap with ⟨hnone, hparse⟩ | ⟨l, m, hsome, hparse, _, _⟩
      · simp [hnone, hparse]
      · simp [hsome, hparse]
    simp only [hfell, Bool.or_eq_true, isNone_iff, hmaps, or_assoc]
  · have hload : r = _ := loadSections_of_not hno ports
    rw [hload]
    exact ⟨rfl, rfl, rfl⟩

end Sys2Proof.Machine
end

section
/-! PROOFS. The checks of the sections (11.2): records and their fields, and PORTS, PALETTE, SENSORS and CELLS. -/

namespace Sys2Proof.Machine

/-! ### Checks, records and their fields -/

section Records

variable {α β : Type}

theorem ensure_isSome (c : Bool) (x : α) : (ensure c x).isSome = true ↔ c = true := by
  cases c <;> simp [ensure]

theorem ensure_eq_some {c : Bool} {x y : α} (h : ensure c x = some y) : y = x := by
  cases c
  · cases h
  · exact (Option.some.inj h).symm

theorem sequenceAll_eq_some (l : List (Option α)) (xs : List α) : sequenceAll l = some xs ↔ l = xs.map some := by
  induction l generalizing xs with
  | nil => cases xs <;> simp [sequenceAll]
  | cons o l ih =>
    cases o with
    | none => cases xs <;> simp [sequenceAll]
    | some x =>
      cases xs with
      | nil => simp [sequenceAll]
      | cons y xs =>
        simp only [sequenceAll, Option.map_eq_some_iff, List.cons.injEq, List.map_cons, Option.some.injEq, ← ih]
        exact ⟨fun ⟨a, ha, hx, hxs⟩ => ⟨hx, hxs ▸ ha⟩, fun ⟨hx, hxs⟩ => ⟨xs, hxs, hx, rfl⟩⟩

theorem sequenceAll_isSome (l : List (Option α)) : (sequenceAll l).isSome = true ↔ ∀ o ∈ l, o.isSome = true := by
  induction l with
  | nil => simp [sequenceAll]
  | cons o l ih => cases o <;> simp [sequenceAll, ih]

/-- Every record of a section parses just when each of them does. -/
theorem records_isSome (f : List Byte → Option α) (l : List Byte) (start size n : Nat) :
    (sequenceAll ((records l start size n).map f)).isSome = true ↔
      ∀ i, i < n → (f (recordBytes l start size i)).isSome = true := by
  simp only [sequenceAll_isSome, records, List.map_map, List.forall_mem_map, List.mem_range, Function.comp]

/-- The parsed records of a section, record by record. -/
theorem records_some {f : List Byte → Option α} {l : List Byte} {start size n : Nat} {xs : List α}
    (h : sequenceAll ((records l start size n).map f) = some xs) :
    xs.length = n ∧ ∀ i x, xs[i]? = some x → i < n ∧ f (recordBytes l start size i) = some x := by
  rw [sequenceAll_eq_some, records, List.map_map] at h
  have hlength : xs.length = n := by simpa using (congrArg List.length h).symm
  refine ⟨hlength, fun i x hx => ?_⟩
  obtain ⟨hi, _⟩ := List.getElem?_eq_some_iff.mp hx
  have hget := congrArg (fun L => L[i]?) h
  simp only [List.getElem?_map, List.getElem?_range (hlength ▸ hi), hx, Option.map_some, Function.comp,
    Option.some.injEq] at hget
  exact ⟨hlength ▸ hi, hget⟩

/-- What the parsed records give, as a function of their place. -/
theorem records_map {f : List Byte → Option α} {l : List Byte} {start size n : Nat} {xs : List α}
    (h : sequenceAll ((records l start size n).map f) = some xs) {g : α → β} {v : Nat → β}
    (hv : ∀ i x, i < n → f (recordBytes l start size i) = some x → g x = v i) : xs.map g = (List.range n).map v := by
  obtain ⟨hlength, hget⟩ := records_some h
  refine List.ext_getElem (by simp [hlength]) fun i hi hi' => ?_
  rw [List.length_map] at hi
  obtain ⟨hn, hf⟩ := hget i xs[i] (List.getElem?_eq_getElem hi)
  simp only [List.getElem_map, List.getElem_range]
  exact hv i _ hn hf

theorem records_eq {f : List Byte → Option α} {l : List Byte} {start size n : Nat} {xs : List α}
    (h : sequenceAll ((records l start size n).map f) = some xs) {v : Nat → α}
    (hv : ∀ i x, f (recordBytes l start size i) = some x → x = v i) : xs = (List.range n).map v := by
  have hmap := records_map h (g := id) (v := v) fun i x _ hf => hv i x hf
  rwa [List.map_id] at hmap

/-- Numbers at the places of a range are distinct when none is the number of an earlier place. -/
theorem nodup_map_range (g : Nat → Nat) (n : Nat) :
    ((List.range n).map g).Nodup ↔ ∀ i, i < n → ∀ j, j < i → g j ≠ g i := by
  rw [nodup_map_iff_injOn List.nodup_range]
  simp only [List.mem_range]
  constructor
  · exact fun h i hi j hj heq => absurd (h j (by omega) i hi heq) (by omega)
  · intro h i hi j hj heq
    rcases Nat.lt_trichotomy i j with hlt | rfl | hlt
    · exact absurd heq (h j hj i hlt)
    · rfl
    · exact absurd heq.symm (h i hi j hlt)

end Records

section Fields

variable (l : List Byte) (start size i : Nat) {j : Nat}

theorem getD_record (h : j < size) : (recordBytes l start size i).getD j 0#8 = l.getD (start + size * i + j) 0#8 := by
  simp [recordBytes, List.getD, h]

@[simp] theorem byteAt_record (h : j < size) : byteAt (recordBytes l start size i) j = byteAt l (start + size * i + j) :=
  congrArg BitVec.toNat (getD_record l start size i h)

@[simp] theorem u16At_record (h : j + 1 < size) : u16At (recordBytes l start size i) j = u16At l (start + size * i + j) := by
  rw [u16At, u16At, byteAt_record l start size i (by omega), byteAt_record l start size i h]
  rfl

@[simp] theorem s16At_record (h : j + 1 < size) : s16At (recordBytes l start size i) j = s16At l (start + size * i + j) := by
  rw [s16At, s16At, u16At_record l start size i h]

@[simp] theorem u32At_record (h : j + 3 < size) : u32At (recordBytes l start size i) j = u32At l (start + size * i + j) := by
  rw [u32At, u32At, u16At_record l start size i (by omega), u16At_record l start size i (by omega)]
  rfl

@[simp] theorem bitAt_record (h : j < size) (k : Nat) :
    bitAt (recordBytes l start size i) j k = bitAt l (start + size * i + j) k :=
  congrArg (fun b : Byte => b.getLsbD k) (getD_record l start size i h)

end Fields

/-- A point inside the ground frame (R1). -/
def InGround (x y : Int) : Prop := -1000 ≤ x ∧ x ≤ 3000 ∧ -500 ≤ y ∧ y ≤ 1500

theorem inBounds_iff (x y : Int) : inBounds x y = true ↔ InGround x y := by
  simp [inBounds, InGround, and_assoc]

/-! ### PORTS -/

theorem levelKnown_iff (n : Nat) : levelKnown n = true ↔ 1 ≤ n ∧ n ≤ 5 := by simp [levelKnown]

theorem rateKnown_iff (n : Nat) : rateKnown n = true ↔ n = 250 ∨ n = 500 := by simp [rateKnown]

theorem forall_lt_three {P : Nat → Prop} : (∀ i, i < 3 → P i) ↔ P 0 ∧ P 1 ∧ P 2 := by
  constructor
  · exact fun h => ⟨h 0 (by decide), h 1 (by decide), h 2 (by decide)⟩
  · rintro ⟨h0, h1, h2⟩ i hi
    match i, hi with
    | 0, _ => exact h0
    | 1, _ => exact h1
    | 2, _ => exact h2

theorem forall_lt_four {P : Nat → Prop} : (∀ i, i < 4 → P i) ↔ P 0 ∧ P 1 ∧ P 2 ∧ P 3 := by
  constructor
  · exact fun h => ⟨h 0 (by decide), h 1 (by decide), h 2 (by decide), h 3 (by decide)⟩
  · rintro ⟨h0, h1, h2, h3⟩ i hi
    match i, hi with
    | 0, _ => exact h0
    | 1, _ => exact h1
    | 2, _ => exact h2
    | 3, _ => exact h3

theorem parsePorts_isSome (l : List Byte) :
    (parsePorts l).isSome = true ↔
      l.length = 31 ∧ (∀ i, i < 3 → 1 ≤ byteAt l i ∧ byteAt l i ≤ 5) ∧ byteAt l 4 ≤ 90 ∧ u16At l 5 ≤ 0x7FC ∧
        (u16At l 7 = 250 ∨ u16At l 7 = 500) ∧ u16At l 9 ≤ 0x7FC ∧ (u16At l 11 = 250 ∨ u16At l 11 = 500) := by
  simp only [parsePorts, ensure_isSome, Bool.and_eq_true, decide_eq_true_eq, levelKnown_iff, rateKnown_iff, and_assoc,
    forall_lt_three]

/-- The kinds that a routing section's bytes route to a master, up to kind `n`. -/
theorem foldl_routed_getLsbD (l : List Byte) (m : Nat) {n : Nat} (hn : n ≤ 16) (k : Nat) :
    ((List.range n).foldl (fun h n => if bitAt l (13 + n) m then h ||| (1#16 <<< n) else h) 0#16).getLsbD k =
      (decide (k < n) && bitAt l (13 + k) m) := by
  induction n with
  | zero => simp
  | succ n ih =>
    rw [List.range_succ, List.foldl_append]
    simp only [List.foldl_cons, List.foldl_nil]
    have hbit : ((1#16 <<< n).getLsbD k) = decide (k = n) := by
      simp only [BitVec.getLsbD_shiftLeft, BitVec.getLsbD_one]
      by_cases hk : k = n
      · subst hk; simp; omega
      · simp [hk]; omega
    by_cases hb : bitAt l (13 + n) m = true
    · rw [if_pos hb, BitVec.getLsbD_or, ih (by omega), hbit]
      by_cases hk : k = n
      · subst hk; simp [hb]
      · have hlt : k < n + 1 ↔ k < n := by omega
        simp [hk, hlt]
    · rw [if_neg hb, ih (by omega)]
      by_cases hk : k = n
      · subst hk; simp [hb]
      · have hlt : k < n + 1 ↔ k < n := by omega
        simp [hlt]

theorem parsePorts_value (l : List Byte) (x : PortsConfig) (h : parsePorts l = some x) :
    x =
        { maxLevel := ⟨byteAt l 0, byteAt l 1, byteAt l 2⟩
          mayClaim := ⟨bitAt l 3 0, bitAt l 3 1, bitAt l 3 2⟩
          dwell := byteAt l 4
          base := ⟨u16At l 5, u16At l 9⟩
          bitRate := ⟨u16At l 7, u16At l 11⟩
          routing := x.routing
          enable := BitVec.ofNat 16 (u16At l 29) } ∧
      ∀ (m : Master) (k : Fin 16), (x.routing.get m).getLsbD k.val = bitAt l (13 + k.val) (masterSlot m).val := by
  have hx := ensure_eq_some h
  refine ⟨by rw [hx]; rfl, fun m k => ?_⟩
  have hrouted : ∀ m', (routedSet l m').getLsbD k.val = bitAt l (13 + k.val) m' := fun m' =>
    (foldl_routed_getLsbD l m' (Nat.le_refl 16) k.val).trans (by simp [k.isLt])
  rw [hx]
  cases m
  · exact hrouted 0
  · exact hrouted 1
  · exact hrouted 2

/-! ### PALETTE -/

theorem parsePalette_eq (l : List Byte) :
    parsePalette l =
      if l.length = 48 then
        some ((List.range 16).map fun n => ⟨l.getD (3 * n) 0#8, l.getD (3 * n + 1) 0#8, l.getD (3 * n + 2) 0#8⟩)
      else none := by
  have hrecords : (records l 0 3 16).map pixelOf =
      (List.range 16).map fun n => ⟨l.getD (3 * n) 0#8, l.getD (3 * n + 1) 0#8, l.getD (3 * n + 2) 0#8⟩ := by
    rw [records, List.map_map]
    refine List.map_congr_left fun n _ => ?_
    simp only [Function.comp, pixelOf, getD_record l 0 3 n (show 0 < 3 by decide), getD_record l 0 3 n (show 1 < 3 by decide),
      getD_record l 0 3 n (show 2 < 3 by decide), Nat.zero_add, Nat.add_zero]
  rw [parsePalette, hrecords]
  by_cases h : l.length = 48
  · rw [if_pos h, ensure, if_pos (decide_eq_true h)]
  · rw [if_neg h, ensure, if_neg (by simpa using h)]

/-! ### SENSORS -/

/-- A sensor record that passes its own checks (R6), its fields at byte `p` on. -/
def SensorFits (l : List Byte) (p : Nat) : Prop :=
  InGround (s16At l (p + 2)) (s16At l (p + 4)) ∧
    -4096 ≤ s16At l (p + 6) ∧ s16At l (p + 6) ≤ 4096 ∧ -4096 ≤ s16At l (p + 8) ∧ s16At l (p + 8) ≤ 4096 ∧
    15728640 ≤ s16At l (p + 6) * s16At l (p + 6) + s16At l (p + 8) * s16At l (p + 8) ∧
    s16At l (p + 6) * s16At l (p + 6) + s16At l (p + 8) * s16At l (p + 8) ≤ 17825792 ∧
    (u16At l (p + 10) = 0 ∨ 100 ≤ u16At l (p + 10) ∧ u16At l (p + 10) ≤ 1000)

theorem parseSensor_isSome (l : List Byte) (start i : Nat) :
    (parseSensor (recordBytes l start 12 i)).isSome = true ↔
      byteAt l (start + 12 * i) ≤ 7 ∧ SensorFits l (start + 12 * i) := by
  simp only [parseSensor, directionFits, ensure_isSome, Bool.and_eq_true, decide_eq_true_eq, inBounds_iff, SensorFits,
    Nat.reduceLT, Nat.reduceAdd, byteAt_record, u16At_record, s16At_record, Nat.add_zero, and_assoc]

/-- The sensor that a record gives. -/
def sensorAt (l : List Byte) (p : Nat) : Sensor :=
  ⟨byteAt l p, bitAt l (p + 1) 0, s16At l (p + 2), s16At l (p + 4), s16At l (p + 6), s16At l (p + 8),
    if u16At l (p + 10) = 0 then 500 else u16At l (p + 10)⟩

theorem parseSensor_value {l : List Byte} {start i : Nat} {x : Sensor}
    (h : parseSensor (recordBytes l start 12 i) = some x) : x = sensorAt l (start + 12 * i) := by
  refine (ensure_eq_some h).trans ?_
  simp only [sensorAt, Nat.reduceLT, Nat.reduceAdd, byteAt_record, u16At_record, s16At_record, bitAt_record, Nat.add_zero]

theorem parseSensors_some {l : List Byte} {sensors : List Sensor}
    (h : sequenceAll ((records l 2 12 (byteAt l 1)).map parseSensor) = some sensors) :
    parseSensors l =
      ensure
        (decide (l.length = 2 + 12 * byteAt l 1) && decide (byteAt l 0 = 0 ∨ (20 ≤ byteAt l 0 ∧ byteAt l 0 ≤ 200)) &&
          distinct (sensors.map Sensor.number))
        ⟨if byteAt l 0 = 0 then 80 else byteAt l 0, sensors⟩ := by
  rw [parseSensors, h]

theorem parseSensors_isSome (l : List Byte) :
    (parseSensors l).isSome = true ↔
      l.length = 2 + 12 * byteAt l 1 ∧ (byteAt l 0 = 0 ∨ 20 ≤ byteAt l 0 ∧ byteAt l 0 ≤ 200) ∧
        ∀ i, i < byteAt l 1 →
          byteAt l (2 + 12 * i) ≤ 7 ∧ (∀ j, j < i → byteAt l (2 + 12 * j) ≠ byteAt l (2 + 12 * i)) ∧
            SensorFits l (2 + 12 * i) := by
  have hall := records_isSome parseSensor l 2 12 (byteAt l 1)
  cases hsensors : sequenceAll ((records l 2 12 (byteAt l 1)).map parseSensor) with
  | none =>
    have hnone : parseSensors l = none := by rw [parseSensors, hsensors]
    rw [hnone]
    refine ⟨fun h => absurd h (by simp), fun ⟨_, _, h⟩ => ?_⟩
    rw [hsensors] at hall
    exact absurd (hall.mpr fun i hi => (parseSensor_isSome l 2 i).mpr ⟨(h i hi).1, (h i hi).2.2⟩) (by simp)
  | some sensors =>
    have hnumbers := records_map hsensors (g := Sensor.number) (v := fun i => byteAt l (2 + 12 * i))
      fun i x _ hx => by rw [parseSensor_value hx, sensorAt]
    have hrecords : ∀ i, i < byteAt l 1 → byteAt l (2 + 12 * i) ≤ 7 ∧ SensorFits l (2 + 12 * i) := fun i hi =>
      (parseSensor_isSome l 2 i).mp (hall.mp (by rw [hsensors]; rfl) i hi)
    rw [parseSensors_some hsensors, ensure_isSome, distinct, hnumbers]
    simp only [Bool.and_eq_true, decide_eq_true_eq, nodup_map_range, and_assoc]
    refine and_congr_right' (and_congr_right' ⟨fun h i hi => ?_, fun h i hi => (h i hi).2.1⟩)
    exact ⟨(hrecords i hi).1, h i hi, (hrecords i hi).2⟩

theorem parseSensors_value (l : List Byte) (x : SensorsSection) (h : parseSensors l = some x) :
    x = ⟨if byteAt l 0 = 0 then 80 else byteAt l 0, (List.range (byteAt l 1)).map fun i => sensorAt l (2 + 12 * i)⟩ := by
  cases hsensors : sequenceAll ((records l 2 12 (byteAt l 1)).map parseSensor) with
  | none =>
    rw [parseSensors, hsensors] at h
    cases h
  | some sensors =>
    rw [parseSensors_some hsensors] at h
    rw [ensure_eq_some h, records_eq hsensors fun i y hy => parseSensor_value hy]

/-! ### CELLS -/

/-- A cell record that passes (R99). -/
def CellFits (l : List Byte) (p : Nat) : Prop :=
  byteAt l p ≤ 3 ∧ u16At l (p + 2) ≤ 1264 ∧ u16At l (p + 4) ≤ 784 ∧ InGround (s16At l (p + 6)) (s16At l (p + 8)) ∧
    1 ≤ u16At l (p + 10) ∧ u16At l (p + 10) ≤ 4080

theorem parseCell_isSome (l : List Byte) (start i : Nat) :
    (parseCell (recordBytes l start 12 i)).isSome = true ↔ CellFits l (start + 12 * i) := by
  simp only [parseCell, ensure_isSome, Bool.and_eq_true, decide_eq_true_eq, inBounds_iff, CellFits, Nat.reduceLT,
    Nat.reduceAdd, byteAt_record, u16At_record, s16At_record, Nat.add_zero, and_assoc]

theorem parseCell_value {l : List Byte} {start i : Nat} {x : MotionCell}
    (h : parseCell (recordBytes l start 12 i) = some x) :
    x = ⟨Fin.ofNat 4 (byteAt l (start + 12 * i)), u16At l (start + 12 * i + 2), u16At l (start + 12 * i + 4),
      s16At l (start + 12 * i + 6), s16At l (start + 12 * i + 8), u16At l (start + 12 * i + 10), none, 0, 0, false⟩ := by
  refine (ensure_eq_some h).trans ?_
  simp only [Nat.reduceLT, Nat.reduceAdd, byteAt_record, u16At_record, s16At_record, Nat.add_zero]

theorem parseCells_isSome (l : List Byte) :
    (parseCells l).isSome = true ↔
      l.length = 2 + 12 * byteAt l 0 ∧ byteAt l 0 ≤ 192 ∧ ∀ i, i < byteAt l 0 → CellFits l (2 + 12 * i) := by
  unfold parseCells
  by_cases h : l.length = 2 + 12 * byteAt l 0 ∧ byteAt l 0 ≤ 192
  · rw [if_pos h, records_isSome]
    simp only [parseCell_isSome, h, true_and]
  · rw [if_neg h]
    exact ⟨fun hno => absurd hno (by simp), fun ⟨h1, h2, _⟩ => absurd ⟨h1, h2⟩ h⟩

theorem parseCells_value (l : List Byte) (x : List MotionCell) (h : parseCells l = some x) :
    x = (List.range (byteAt l 0)).map fun i =>
      ⟨Fin.ofNat 4 (byteAt l (2 + 12 * i)), u16At l (2 + 12 * i + 2), u16At l (2 + 12 * i + 4), s16At l (2 + 12 * i + 6),
        s16At l (2 + 12 * i + 8), u16At l (2 + 12 * i + 10), none, 0, 0, false⟩ := by
  unfold parseCells at h
  by_cases hc : l.length = 2 + 12 * byteAt l 0 ∧ byteAt l 0 ≤ 192
  · rw [if_pos hc] at h
    exact records_eq h fun i y hy => parseCell_value hy
  · rw [if_neg hc] at h
    cases h

end Sys2Proof.Machine
end

section
/-! PROOFS. The checks of WATCH and TRIGGERS (11.2): four numbered records. -/

namespace Sys2Proof.Machine

/-! ### Four numbered records -/

section Numbered

variable {α : Type}

theorem parseQuad_eq_some (rs : List (List Byte)) (f : List Byte → Option α) (q : Quad α) :
    parseQuad rs f = some q ↔ ∀ n : Fin 4, (numbered rs n.val).bind f = some (q.get n) := by
  have hfour : (∀ n : Fin 4, (numbered rs n.val).bind f = some (q.get n)) ↔
      (numbered rs 0).bind f = some (q.get 0) ∧ (numbered rs 1).bind f = some (q.get 1) ∧
        (numbered rs 2).bind f = some (q.get 2) ∧ (numbered rs 3).bind f = some (q.get 3) :=
    ⟨fun h => ⟨h 0, h 1, h 2, h 3⟩,
      fun ⟨h0, h1, h2, h3⟩ n => match n with | 0 => h0 | 1 => h1 | 2 => h2 | 3 => h3⟩
  rw [hfour]
  unfold parseQuad
  constructor
  · intro h
    split at h
    next h0 h1 h2 h3 =>
      cases Option.some.inj h
      exact ⟨h0, h1, h2, h3⟩
    next => cases h
  · rintro ⟨h0, h1, h2, h3⟩
    rw [h0, h1, h2, h3]
    rfl

variable {l : List Byte} {size : Nat} {f : List Byte → Option α}

theorem mem_records {start n : Nat} {r : List Byte} :
    r ∈ records l start size n ↔ ∃ i, i < n ∧ recordBytes l start size i = r := by
  simp [records]

/-- The record that is found under a number is one of the four and carries it. -/
theorem numbered_record (hsize : 0 < size) {n : Nat} {r : List Byte} (h : numbered (records l 0 size 4) n = some r) :
    ∃ i : Fin 4, byteAt l (size * i.val) = n ∧ recordBytes l 0 size i.val = r := by
  obtain ⟨i, hi, hr⟩ := mem_records.mp (List.mem_of_find?_eq_some h)
  have hnumber : byteAt r 0 = n := by simpa using List.find?_some h
  refine ⟨⟨i, hi⟩, ?_, hr⟩
  rw [← hr, byteAt_record l 0 size i hsize, Nat.zero_add] at hnumber
  exact hnumber

/-- A map of the places of a list to places, each to another, reaches every place. -/
theorem exists_eq_of_injective {n : Nat} {g : Fin n → Fin n} (hg : ∀ a b, g a = g b → a = b) (i : Fin n) :
    ∃ a, g a = i := by
  refine Classical.byContradiction fun hnone => ?_
  have hnodup : (i :: (List.finRange n).map g).Nodup := by
    refine List.nodup_cons.mpr ⟨fun hmem => ?_, (nodup_map_iff_injOn (List.nodup_finRange n)).mpr fun a _ b _ => hg a b⟩
    obtain ⟨a, _, ha⟩ := List.mem_map.mp hmem
    exact hnone ⟨a, ha⟩
  have hlen := hnodup.length_le_of_subset fun j _ => List.mem_finRange j
  rw [List.length_cons, List.length_map, List.length_finRange] at hlen
  omega

/-- Four records that parse under the numbers 0 to 3 stand each under one number. -/
theorem parseQuad_places (hsize : 0 < size) {q : Quad α} (h : parseQuad (records l 0 size 4) f = some q) :
    ∃ g : Fin 4 → Fin 4, (∀ i, ∃ n, g n = i) ∧
      ∀ n, byteAt l (size * (g n).val) = n.val ∧ f (recordBytes l 0 size (g n).val) = some (q.get n) := by
  have hfound : ∀ n : Fin 4, ∃ i : Fin 4, byteAt l (size * i.val) = n.val ∧
      f (recordBytes l 0 size i.val) = some (q.get n) := by
    intro n
    obtain ⟨r, hr, hf⟩ := Option.bind_eq_some_iff.mp ((parseQuad_eq_some _ f q).mp h n)
    obtain ⟨i, hi, rfl⟩ := numbered_record hsize hr
    exact ⟨i, hi, hf⟩
  obtain ⟨g, hg⟩ : ∃ g : Fin 4 → Fin 4, ∀ n, byteAt l (size * (g n).val) = n.val ∧
      f (recordBytes l 0 size (g n).val) = some (q.get n) :=
    ⟨fun n => Classical.choose (hfound n), fun n => Classical.choose_spec (hfound n)⟩
  exact ⟨g, exists_eq_of_injective fun n m heq => Fin.ext ((hg n).1.symm.trans (heq ▸ (hg m).1)), hg⟩

theorem parseQuad_isSome (hsize : 0 < size) (f : List Byte → Option α) :
    (parseQuad (records l 0 size 4) f).isSome = true ↔
      (∀ n, n < 4 → ∃ i, i < 4 ∧ byteAt l (size * i) = n) ∧
        ∀ i, i < 4 → (f (recordBytes l 0 size i)).isSome = true := by
  constructor
  · intro h
    obtain ⟨q, hq⟩ := Option.isSome_iff_exists.mp h
    obtain ⟨g, hsurj, hg⟩ := parseQuad_places hsize hq
    refine ⟨fun n hn => ⟨(g ⟨n, hn⟩).val, (g ⟨n, hn⟩).isLt, (hg ⟨n, hn⟩).1⟩, fun i hi => ?_⟩
    obtain ⟨n, hn⟩ := hsurj ⟨i, hi⟩
    have hf := (hg n).2
    rw [hn] at hf
    exact Option.isSome_iff_exists.mpr ⟨_, hf⟩
  · rintro ⟨hnumbers, hparse⟩
    have hfound : ∀ n : Fin 4, ∃ x, (numbered (records l 0 size 4) n.val).bind f = some x := by
      intro n
      obtain ⟨i, hi, hnumber⟩ := hnumbers n.val n.isLt
      have hsome : (numbered (records l 0 size 4) n.val).isSome = true := by
        refine List.find?_isSome.mpr ⟨recordBytes l 0 size i, mem_records.mpr ⟨i, hi, rfl⟩, decide_eq_true ?_⟩
        rw [byteAt_record l 0 size i hsize, Nat.zero_add]
        exact hnumber
      obtain ⟨r, hr⟩ := Option.isSome_iff_exists.mp hsome
      obtain ⟨j, _, hj⟩ := numbered_record hsize hr
      obtain ⟨x, hx⟩ := Option.isSome_iff_exists.mp (hparse j.val j.isLt)
      exact ⟨x, Option.bind_eq_some_iff.mpr ⟨r, hr, hj ▸ hx⟩⟩
    obtain ⟨x, hx⟩ : ∃ x : Fin 4 → α, ∀ n, (numbered (records l 0 size 4) n.val).bind f = some (x n) :=
      ⟨fun n => Classical.choose (hfound n), fun n => Classical.choose_spec (hfound n)⟩
    refine Option.isSome_iff_exists.mpr ⟨⟨x 0, x 1, x 2, x 3⟩, (parseQuad_eq_some _ f _).mpr fun n => ?_⟩
    rw [hx n]
    match n with
    | 0 | 1 | 2 | 3 => rfl

/-- A record's own value stands under its number. -/
theorem parseQuad_value (hsize : 0 < size) {q : Quad α} (h : parseQuad (records l 0 size 4) f = some q) (n : Fin 4)
    (i : Nat) (hi : i < 4) (hnumber : byteAt l (size * i) = n.val) : f (recordBytes l 0 size i) = some (q.get n) := by
  obtain ⟨g, hsurj, hg⟩ := parseQuad_places hsize h
  obtain ⟨m, hm⟩ := hsurj ⟨i, hi⟩
  obtain ⟨hbyte, hf⟩ := hg m
  rw [hm] at hbyte hf
  have hmn : m = n := Fin.ext (hbyte.symm.trans hnumber)
  exact hmn ▸ hf

end Numbered

/-! ### WATCH -/

theorem quantityOfCode_eq (n : Nat) : quantityOfCode n = [Quantity.mean, .sharp, .highClip, .limit][n]? := by
  match n with
  | 0 | 1 | 2 | 3 => rfl
  | n + 4 => rfl

theorem directionOfCode_eq (n : Nat) : directionOfCode n = [Direction.above, .below][n]? := by
  match n with
  | 0 | 1 => rfl
  | n + 2 => rfl

theorem actionOfCode_eq (n : Nat) : actionOfCode n = [Condition.obscured, .glare, .lowLight][n]? := by
  match n with
  | 0 | 1 | 2 => rfl
  | n + 3 => rfl

theorem targetFits_iff (n : Nat) : targetFits n = true ↔ 40 ≤ n ∧ n ≤ 200 := by simp [targetFits]

theorem thresholdFits_iff {n : Nat} {q : Quantity} (h : quantityOfCode n = some q) (t : Int) :
    thresholdFits q t = true ↔
      if n = 3 then -127 ≤ t ∧ t ≤ 127 else 0 ≤ t ∧ t ≤ if n = 2 then 256 else 255 := by
  match n with
  | 0 | 1 | 2 | 3 => cases h; exact decide_eq_true_iff
  | n + 4 => cases h

/-- A watch set record that passes (R46), its fields at byte `p` on. -/
def WatchFits (l : List Byte) (p : Nat) : Prop :=
  byteAt l (p + 2) ≤ 3 ∧ byteAt l (p + 3) ≤ 1 ∧ byteAt l (p + 8) ≤ 2 ∧ 1 ≤ byteAt l (p + 7) ∧ byteAt l (p + 7) ≤ 60 ∧
    if byteAt l (p + 2) = 3 then -127 ≤ s16At l (p + 4) ∧ s16At l (p + 4) ≤ 127
    else 0 ≤ s16At l (p + 4) ∧ s16At l (p + 4) ≤ if byteAt l (p + 2) = 2 then 256 else 255

theorem parseWatchSet_some {l : List Byte} {q : Quantity} {d : Direction} {a : Condition}
    (hq : quantityOfCode (byteAt l 2) = some q) (hd : directionOfCode (byteAt l 3) = some d)
    (ha : actionOfCode (byteAt l 8) = some a) :
    parseWatchSet l =
      ensure (thresholdFits q (s16At l 4) && decide (1 ≤ byteAt l 7) && decide (byteAt l 7 ≤ 60))
        ⟨bitAt l 1 0, q, d, s16At l 4, byteAt l 6, byteAt l 7, a⟩ := by
  rw [parseWatchSet, hq, hd, ha]

/-- The three codes of a watch set record that parses. -/
theorem parseWatchSet_codes {l : List Byte} {w : WatchSet} (h : parseWatchSet l = some w) :
    ∃ q d a, quantityOfCode (byteAt l 2) = some q ∧ directionOfCode (byteAt l 3) = some d ∧
      actionOfCode (byteAt l 8) = some a := by
  unfold parseWatchSet at h
  split at h
  next q d a hq hd ha => exact ⟨q, d, a, hq, hd, ha⟩
  next => cases h

theorem parseWatchSet_isSome (l : List Byte) : (parseWatchSet l).isSome = true ↔ WatchFits l 0 := by
  constructor
  · intro h
    obtain ⟨w, hw⟩ := Option.isSome_iff_exists.mp h
    obtain ⟨q, d, a, hq, hd, ha⟩ := parseWatchSet_codes hw
    rw [parseWatchSet_some hq hd ha, ensure_isSome] at h
    simp only [Bool.and_eq_true, decide_eq_true_eq, thresholdFits_iff hq] at h
    obtain ⟨⟨hfits, hlow⟩, hhigh⟩ := h
    rw [quantityOfCode_eq] at hq
    rw [directionOfCode_eq] at hd
    rw [actionOfCode_eq] at ha
    obtain ⟨hq, _⟩ := List.getElem?_eq_some_iff.mp hq
    obtain ⟨hd, _⟩ := List.getElem?_eq_some_iff.mp hd
    obtain ⟨ha, _⟩ := List.getElem?_eq_some_iff.mp ha
    exact ⟨Nat.le_of_lt_succ hq, Nat.le_of_lt_succ hd, Nat.le_of_lt_succ ha, hlow, hhigh, hfits⟩
  · rintro ⟨hq, hd, ha, hlow, hhigh, hfits⟩
    have hq' := (quantityOfCode_eq (byteAt l 2)).trans (List.getElem?_eq_getElem (Nat.lt_succ_of_le hq))
    have hd' := (directionOfCode_eq (byteAt l 3)).trans (List.getElem?_eq_getElem (Nat.lt_succ_of_le hd))
    have ha' := (actionOfCode_eq (byteAt l 8)).trans (List.getElem?_eq_getElem (Nat.lt_succ_of_le ha))
    rw [parseWatchSet_some hq' hd' ha', ensure_isSome]
    simp only [Bool.and_eq_true, decide_eq_true_eq, thresholdFits_iff hq']
    exact ⟨⟨hfits, hlow⟩, hhigh⟩

theorem parseWatchSet_value {l : List Byte} {w : WatchSet} (h : parseWatchSet l = some w) :
    w = ⟨bitAt l 1 0, w.quantity, w.direction, s16At l 4, byteAt l 6, byteAt l 7, w.action⟩ ∧
      [Quantity.mean, .sharp, .highClip, .limit][byteAt l 2]? = some w.quantity ∧
      [Direction.above, .below][byteAt l 3]? = some w.direction ∧
      [Condition.obscured, .glare, .lowLight][byteAt l 8]? = some w.action := by
  obtain ⟨q, d, a, hq, hd, ha⟩ := parseWatchSet_codes h
  rw [parseWatchSet_some hq hd ha] at h
  cases ensure_eq_some h
  exact ⟨rfl, (quantityOfCode_eq _).symm.trans hq, (directionOfCode_eq _).symm.trans hd, (actionOfCode_eq _).symm.trans ha⟩

/-- A record's watch fields are the section's at its place. -/
theorem watchFits_record (l : List Byte) (i : Nat) : WatchFits (recordBytes l 0 10 i) 0 ↔ WatchFits l (10 * i) := by
  simp only [WatchFits, Nat.reduceLT, Nat.reduceAdd, Nat.zero_add, byteAt_record, s16At_record]

theorem parseWatch_some {l : List Byte} {sets : Quad WatchSet} (h : parseQuad (records l 0 10 4) parseWatchSet = some sets) :
    parseWatch l =
      ensure
        (decide (l.length = 44) && targetFits (byteAt l 40) && targetFits (byteAt l 41) && targetFits (byteAt l 42) &&
          targetFits (byteAt l 43))
        ⟨sets, ⟨byteAt l 40, byteAt l 41, byteAt l 42, byteAt l 43⟩⟩ := by
  rw [parseWatch, h]

theorem parseWatch_none {l : List Byte} (h : parseQuad (records l 0 10 4) parseWatchSet = none) : parseWatch l = none := by
  rw [parseWatch, h]

theorem parseWatch_isSome (l : List Byte) :
    (parseWatch l).isSome = true ↔
      l.length = 44 ∧ (∀ c, c < 4 → 40 ≤ byteAt l (40 + c) ∧ byteAt l (40 + c) ≤ 200) ∧
        (∀ n, n < 4 → ∃ i, i < 4 ∧ byteAt l (10 * i) = n) ∧ ∀ i, i < 4 → WatchFits l (10 * i) := by
  have hquad := parseQuad_isSome (l := l) (show 0 < 10 by decide) parseWatchSet
  simp only [parseWatchSet_isSome, watchFits_record] at hquad
  rw [← hquad]
  cases h : parseQuad (records l 0 10 4) parseWatchSet with
  | none => simp [parseWatch_none h]
  | some sets =>
    rw [parseWatch_some h, ensure_isSome]
    simp only [Bool.and_eq_true, decide_eq_true_eq, targetFits_iff, forall_lt_four, and_assoc, Nat.add_zero, Nat.reduceAdd,
      Option.isSome_some, and_true]

theorem parseWatch_value (l : List Byte) (x : WatchSection) (h : parseWatch l = some x) :
    x.targets = ⟨byteAt l 40, byteAt l 41, byteAt l 42, byteAt l 43⟩ ∧
      ∀ (n : Fin 4) (i : Nat), i < 4 → byteAt l (10 * i) = n.val →
        let p := 10 * i
        let w := x.sets.get n
        w = ⟨bitAt l (p + 1) 0, w.quantity, w.direction, s16At l (p + 4), byteAt l (p + 6), byteAt l (p + 7), w.action⟩ ∧
          [Quantity.mean, .sharp, .highClip, .limit][byteAt l (p + 2)]? = some w.quantity ∧
          [Direction.above, .below][byteAt l (p + 3)]? = some w.direction ∧
          [Condition.obscured, .glare, .lowLight][byteAt l (p + 8)]? = some w.action := by
  cases hq : parseQuad (records l 0 10 4) parseWatchSet with
  | none => exact absurd ((parseWatch_none hq).symm.trans h) (by simp)
  | some sets =>
    rw [parseWatch_some hq] at h
    cases ensure_eq_some h
    refine ⟨rfl, fun n i hi hnumber => ?_⟩
    have hvalue := parseWatchSet_value (parseQuad_value (by decide) hq n i hi hnumber)
    simpa only [Nat.reduceLT, Nat.reduceAdd, Nat.zero_add, byteAt_record, s16At_record, bitAt_record] using hvalue

/-! ### TRIGGERS -/

theorem recordKindOfCode_eq (n : Nat) : recordKindOfCode n = [RecordKind.alert, .view, .vehicle, .condition][n]? := by
  match n with
  | 0 | 1 | 2 | 3 => rfl
  | n + 4 => rfl

/-- The code of a record kind (11.2). -/
def recordKindCode (k : RecordKind) : Nat :=
  match k with
  | .alert => 0
  | .view => 1
  | .vehicle => 2
  | .condition => 3

theorem recordKindOfCode_some {n : Nat} {k : RecordKind} (h : recordKindOfCode n = some k) : n = recordKindCode k := by
  match n with
  | 0 | 1 | 2 | 3 => cases h; rfl
  | n + 4 => cases h

theorem testUpTo_iff (n t : Nat) : testUpTo n t = true ↔ t = 254 ∨ t ≤ n := by simp [testUpTo]

theorem speedTestOf_vehicle_isSome (code n : Nat) :
    (speedTestOf .vehicle code n).isSome = true ↔ code ≤ 2 ∧ (code = 1 → n ≤ 4000) := by
  match code with
  | 0 => simp [speedTestOf]
  | 1 => by_cases h : n ≤ 4000 <;> simp [speedTestOf, h]
  | 2 => simp [speedTestOf]
  | code + 3 => simp [speedTestOf]

theorem speedTestOf_value {k : RecordKind} {code n : Nat} {t : SpeedTest} (h : speedTestOf k code n = some t) :
    t = if k = .vehicle then if code = 0 then .any else if code = 1 then .atLeast n else .unknown else .any := by
  by_cases hk : k = .vehicle
  · subst hk
    match code with
    | 0 => exact (Option.some.inj h).symm
    | 1 =>
      by_cases hn : n ≤ 4000
      · simp only [speedTestOf, if_pos, if_pos hn] at h
        exact (Option.some.inj h).symm
      · simp only [speedTestOf, if_pos, if_neg hn] at h
        cases h
    | 2 => exact (Option.some.inj h).symm
    | code + 3 => cases h
  · unfold speedTestOf at h
    rw [if_neg hk] at h
    rw [if_neg hk]
    exact (Option.some.inj h).symm

/-- A field test that is "any" or at most `n` (R149). -/
def UpTo (l : List Byte) (p k n : Nat) : Prop := byteAt l (p + k) = 254 ∨ byteAt l (p + k) ≤ n

/-- A trigger record that passes (R149), its fields at byte `p` on. -/
def TriggerFits (l : List Byte) (p : Nat) : Prop :=
  byteAt l (p + 2) = 0 ∧ UpTo l p 5 3 ∧ UpTo l p 6 3 ∧ (UpTo l p 7 7 ∨ byteAt l (p + 7) = 255) ∧ UpTo l p 8 3 ∨
    byteAt l (p + 2) = 1 ∧ (UpTo l p 5 11 ∨ byteAt l (p + 5) = 128) ∧ UpTo l p 6 4 ∨
    byteAt l (p + 2) = 2 ∧ UpTo l p 5 3 ∧ (UpTo l p 6 1 ∨ byteAt l (p + 6) = 3) ∧
      (UpTo l p 7 1 ∨ byteAt l (p + 7) = 3) ∧ byteAt l (p + 9) ≤ 2 ∧ (byteAt l (p + 9) = 1 → u16At l (p + 10) ≤ 4000) ∨
    byteAt l (p + 2) = 3 ∧ UpTo l p 5 3 ∧ UpTo l p 6 3 ∧ UpTo l p 7 3

theorem triggerFits_record (l : List Byte) (i : Nat) : TriggerFits (recordBytes l 0 12 i) 0 ↔ TriggerFits l (12 * i) := by
  simp only [TriggerFits, UpTo, Nat.reduceLT, Nat.reduceAdd, Nat.zero_add, byteAt_record, u16At_record]

theorem parseTrigger_kind {l : List Byte} {k : RecordKind} (hk : recordKindOfCode (byteAt l 2) = some k) :
    (parseTrigger l).isSome = true ↔
      (speedTestOf k (byteAt l 9) (u16At l 10)).isSome = true ∧ testsFit k (fun i => byteAt l (5 + i)) = true := by
  rw [parseTrigger, hk]
  cases hs : speedTestOf k (byteAt l 9) (u16At l 10) with
  | none => simp [hs]
  | some t => simp [hs, ensure_isSome]

theorem parseTrigger_isSome (l : List Byte) : (parseTrigger l).isSome = true ↔ TriggerFits l 0 := by
  cases hk : recordKindOfCode (byteAt l 2) with
  | none =>
    have hbyte : 4 ≤ byteAt l 2 := by
      rw [recordKindOfCode_eq] at hk
      exact List.getElem?_eq_none_iff.mp hk
    have hnone : parseTrigger l = none := by rw [parseTrigger, hk]
    rw [hnone, TriggerFits]
    simp only [Nat.zero_add, Option.isSome_none, Bool.false_eq_true, false_iff]
    omega
  | some k =>
    rw [parseTrigger_kind hk]
    have hcode := recordKindOfCode_some hk
    rw [TriggerFits]
    cases k <;>
      simp [hcode, recordKindCode, UpTo, testsFit, testUpTo_iff, speedTestOf_vehicle_isSome, and_assoc]
    · simp [speedTestOf]
    · simp [speedTestOf]
    · exact ⟨fun ⟨ha, hb, h1, h2, h3⟩ => ⟨h1, h2, h3, ha, hb⟩, fun ⟨h1, h2, h3, ha, hb⟩ => ⟨ha, hb, h1, h2, h3⟩⟩
    · simp [speedTestOf]

theorem parseTrigger_value {l : List Byte} {t : Trigger} (h : parseTrigger l = some t) :
    t = ⟨bitAt l 1 0, t.kind, [byteAt l 5, byteAt l 6, byteAt l 7, byteAt l 8], t.speed, byteAt l 3, byteAt l 4⟩ ∧
      [RecordKind.alert, .view, .vehicle, .condition][byteAt l 2]? = some t.kind ∧
      t.speed =
        if byteAt l 2 = 2 then
          if byteAt l 9 = 0 then .any else if byteAt l 9 = 1 then .atLeast (u16At l 10) else .unknown
        else .any := by
  cases hk : recordKindOfCode (byteAt l 2) with
  | none =>
    rw [parseTrigger, hk] at h
    cases h
  | some k =>
    cases hs : speedTestOf k (byteAt l 9) (u16At l 10) with
    | none =>
      rw [parseTrigger, hk] at h
      simp only [hs] at h
      cases h
    | some v =>
      rw [parseTrigger, hk] at h
      simp only [hs] at h
      cases ensure_eq_some h
      have hcode : k = .vehicle ↔ byteAt l 2 = 2 := by
        rw [recordKindOfCode_some hk]
        cases k <;> decide
      have hspeed := speedTestOf_value hs
      simp only [hcode] at hspeed
      exact ⟨rfl, (recordKindOfCode_eq _).symm.trans hk, hspeed⟩

theorem parseTriggers_isSome (l : List Byte) :
    (parseTriggers l).isSome = true ↔
      l.length = 48 ∧ (∀ n, n < 4 → ∃ i, i < 4 ∧ byteAt l (12 * i) = n) ∧ ∀ i, i < 4 → TriggerFits l (12 * i) := by
  have hquad := parseQuad_isSome (l := l) (show 0 < 12 by decide) parseTrigger
  simp only [parseTrigger_isSome, triggerFits_record] at hquad
  rw [parseTriggers, ← hquad]
  by_cases h : l.length = 48 <;> simp [h]

theorem parseTriggers_value (l : List Byte) (x : Quad Trigger) (h : parseTriggers l = some x) (n : Fin 4) (i : Nat)
    (hi : i < 4) (hnumber : byteAt l (12 * i) = n.val) :
    let p := 12 * i
    let t := x.get n
    t = ⟨bitAt l (p + 1) 0, t.kind, [byteAt l (p + 5), byteAt l (p + 6), byteAt l (p + 7), byteAt l (p + 8)], t.speed,
        byteAt l (p + 3), byteAt l (p + 4)⟩ ∧
      [RecordKind.alert, .view, .vehicle, .condition][byteAt l (p + 2)]? = some t.kind ∧
      t.speed =
        if byteAt l (p + 2) = 2 then
          if byteAt l (p + 9) = 0 then .any else if byteAt l (p + 9) = 1 then .atLeast (u16At l (p + 10)) else .unknown
        else .any := by
  rw [parseTriggers] at h
  by_cases hlength : l.length = 48
  · rw [if_pos hlength] at h
    have hvalue := parseTrigger_value (parseQuad_value (by decide) h n i hi hnumber)
    simpa only [Nat.reduceLT, Nat.reduceAdd, Nat.zero_add, byteAt_record, u16At_record, bitAt_record] using hvalue
  · rw [if_neg hlength] at h
    cases h

end Sys2Proof.Machine
end

section
/-! PROOFS. The checks of OVERLAYS and ZONES (11.2). -/

namespace Sys2Proof.Machine

/-! ### Codes -/

theorem levelOfCode_eq (n : Nat) : levelOfCode n = [Level.none, .notice, .caution, .danger][n]? := by
  match n with
  | 0 | 1 | 2 | 3 => rfl
  | n + 4 => rfl

theorem overlayKindOfCode_eq (n : Nat) :
    overlayKindOfCode n = [OverlayKind.groundLine, .zoneTint, .screenLine, .screenBox][n]? := by
  match n with
  | 0 | 1 | 2 | 3 => rfl
  | n + 4 => rfl

theorem classOfCode_eq (n : Nat) : classOfCode n = [OverlayClass.guide, .zone, .frame][n]? := by
  match n with
  | 0 | 1 | 2 => rfl
  | n + 3 => rfl

theorem generatorOfCode_eq (n : Nat) : generatorOfCode n = [none, some 0, some 1, some 2, some 3][n]? := by
  match n with
  | 0 | 1 | 2 | 3 | 4 => rfl
  | n + 5 => rfl

theorem armOfCode_eq (n : Nat) :
    armOfCode n = [ArmSource.always, .levelNotice, .levelCaution, .levelDanger, .cameraFault, .warning][n]? := by
  match n with
  | 0 | 1 | 2 | 3 | 4 | 5 => rfl
  | n + 6 => rfl

theorem strideFits_iff (x : Int) : strideFits x = true ↔ -4000 ≤ x ∧ x ≤ 4000 := by simp [strideFits]

/-- A point on the screen (R87). -/
def OnScreen (c r : Int) : Prop := 0 ≤ c ∧ c ≤ 1279 ∧ 0 ≤ r ∧ r ≤ 767

theorem onScreen_iff (c r : Int) : onScreen c r = true ↔ OnScreen c r := decide_eq_true_iff

/-- The coordinates of an object of kind code `n` pass (R87). -/
def CoordinatesFit (n : Nat) (a b c d : Int) : Prop :=
  (n = 0 → InGround a b ∧ InGround c d) ∧ (2 ≤ n → OnScreen a b ∧ OnScreen c d) ∧ (n = 3 → a ≤ c ∧ b ≤ d)

theorem coordinatesFit_iff {n : Nat} {k : OverlayKind} (h : overlayKindOfCode n = some k) (a b c d : Int) :
    coordinatesFit k a b c d = true ↔ CoordinatesFit n a b c d := by
  match n with
  | 0 | 1 | 2 | 3 => cases h; simp [coordinatesFit, CoordinatesFit, inBounds_iff, onScreen_iff, and_assoc]
  | n + 4 => cases h

/-! ### OVERLAYS -/

/-- An object record that passes (R87), its fields at byte `p` on. -/
def OverlayFits (l : List Byte) (p : Nat) : Prop :=
  byteAt l p ≤ 3 ∧ byteAt l (p + 3) ≤ 3 ∧ byteAt l (p + 4) ≤ 7 ∧ byteAt l (p + 6) ≤ 16 ∧ 1 ≤ byteAt l (p + 7) ∧
    byteAt l (p + 7) ≤ 4 ∧ byteAt l (p + 8) ≤ 4 ∧ byteAt l (p + 9) ≤ 3 ∧ byteAt l (p + 10) ≤ 2 ∧
    byteAt l (p + 11) ≤ 15 ∧ (-4000 ≤ s16At l (p + 20) ∧ s16At l (p + 20) ≤ 4000) ∧
    (-4000 ≤ s16At l (p + 22) ∧ s16At l (p + 22) ≤ 4000) ∧
    CoordinatesFit (byteAt l p) (s16At l (p + 12)) (s16At l (p + 14)) (s16At l (p + 16)) (s16At l (p + 18))

theorem overlayFits_record (l : List Byte) (start i : Nat) :
    OverlayFits (recordBytes l start 28 i) 0 ↔ OverlayFits l (start + 28 * i) := by
  simp only [OverlayFits, Nat.reduceLT, Nat.reduceAdd, Nat.zero_add, Nat.add_zero, byteAt_record, s16At_record]

/-- What the object record of four codes gives. -/
def overlayWith (l : List Byte) (k : OverlayKind) (g : Option (Fin 4)) (v : Level) (w : OverlayClass) : Overlay :=
  ⟨k, BitVec.ofNat 16 (u16At l 1), byteAt l 3, byteAt l 4, s16At l 12, s16At l 14, s16At l 16, s16At l 18, byteAt l 11,
    s16At l 20, s16At l 22, byteAt l 5 % 16, byteAt l 6, byteAt l 7, g, v, w⟩

theorem parseOverlay_some {l : List Byte} {k : OverlayKind} {g : Option (Fin 4)} {v : Level} {w : OverlayClass}
    (hk : overlayKindOfCode (byteAt l 0) = some k) (hg : generatorOfCode (byteAt l 8) = some g)
    (hv : levelOfCode (byteAt l 9) = some v) (hw : classOfCode (byteAt l 10) = some w) :
    parseOverlay l = ensure (objectFits k l) (overlayWith l k g v w) := by
  rw [parseOverlay, hk, hg, hv, hw]
  rfl

theorem parseOverlay_codes {l : List Byte} {o : Overlay} (h : parseOverlay l = some o) :
    ∃ k g v w, overlayKindOfCode (byteAt l 0) = some k ∧ generatorOfCode (byteAt l 8) = some g ∧
      levelOfCode (byteAt l 9) = some v ∧ classOfCode (byteAt l 10) = some w := by
  unfold parseOverlay at h
  split at h
  next k g v w hk hg hv hw => exact ⟨k, g, v, w, hk, hg, hv, hw⟩
  next => cases h

theorem objectFits_iff {l : List Byte} {k : OverlayKind} (hk : overlayKindOfCode (byteAt l 0) = some k) :
    objectFits k l = true ↔
      byteAt l 3 ≤ 3 ∧ byteAt l 4 ≤ 7 ∧ byteAt l 6 ≤ 16 ∧ 1 ≤ byteAt l 7 ∧ byteAt l 7 ≤ 4 ∧ byteAt l 11 ≤ 15 ∧
        (-4000 ≤ s16At l 20 ∧ s16At l 20 ≤ 4000) ∧ (-4000 ≤ s16At l 22 ∧ s16At l 22 ≤ 4000) ∧
        CoordinatesFit (byteAt l 0) (s16At l 12) (s16At l 14) (s16At l 16) (s16At l 18) := by
  rw [objectFits]
  simp only [Bool.and_eq_true, decide_eq_true_eq, strideFits_iff, coordinatesFit_iff hk, and_assoc]

theorem parseOverlay_isSome (l : List Byte) : (parseOverlay l).isSome = true ↔ OverlayFits l 0 := by
  constructor
  · intro h
    obtain ⟨o, ho⟩ := Option.isSome_iff_exists.mp h
    obtain ⟨k, g, v, w, hk, hg, hv, hw⟩ := parseOverlay_codes ho
    rw [parseOverlay_some hk hg hv hw, ensure_isSome, objectFits_iff hk] at h
    obtain ⟨h3, h4, h6, h7, h7', h11, hx, hy, hfits⟩ := h
    rw [overlayKindOfCode_eq] at hk
    rw [generatorOfCode_eq] at hg
    rw [levelOfCode_eq] at hv
    rw [classOfCode_eq] at hw
    obtain ⟨hk, _⟩ := List.getElem?_eq_some_iff.mp hk
    obtain ⟨hg, _⟩ := List.getElem?_eq_some_iff.mp hg
    obtain ⟨hv, _⟩ := List.getElem?_eq_some_iff.mp hv
    obtain ⟨hw, _⟩ := List.getElem?_eq_some_iff.mp hw
    exact ⟨Nat.le_of_lt_succ hk, h3, h4, h6, h7, h7', Nat.le_of_lt_succ hg, Nat.le_of_lt_succ hv, Nat.le_of_lt_succ hw,
      h11, hx, hy, hfits⟩
  · rintro ⟨hk, h3, h4, h6, h7, h7', hg, hv, hw, h11, hx, hy, hfits⟩
    have hk' := (overlayKindOfCode_eq (byteAt l 0)).trans (List.getElem?_eq_getElem (Nat.lt_succ_of_le hk))
    have hg' := (generatorOfCode_eq (byteAt l 8)).trans (List.getElem?_eq_getElem (Nat.lt_succ_of_le hg))
    have hv' := (levelOfCode_eq (byteAt l 9)).trans (List.getElem?_eq_getElem (Nat.lt_succ_of_le hv))
    have hw' := (classOfCode_eq (byteAt l 10)).trans (List.getElem?_eq_getElem (Nat.lt_succ_of_le hw))
    rw [parseOverlay_some hk' hg' hv' hw', ensure_isSome, objectFits_iff hk']
    exact ⟨h3, h4, h6, h7, h7', h11, hx, hy, hfits⟩

/-- What the object record at byte `p` gives (11.2). -/
def OverlayAt (l : List Byte) (p : Nat) (o : Overlay) : Prop :=
  o =
    ⟨o.kind, BitVec.ofNat 16 (u16At l (p + 1)), byteAt l (p + 3), byteAt l (p + 4), s16At l (p + 12), s16At l (p + 14),
      s16At l (p + 16), s16At l (p + 18), byteAt l (p + 11), s16At l (p + 20), s16At l (p + 22), byteAt l (p + 5) % 16,
      byteAt l (p + 6), byteAt l (p + 7), o.generator, o.visibility, o.cls⟩ ∧
    [OverlayKind.groundLine, .zoneTint, .screenLine, .screenBox][byteAt l p]? = some o.kind ∧
    [none, some 0, some 1, some 2, some 3][byteAt l (p + 8)]? = some o.generator ∧
    [Level.none, .notice, .caution, .danger][byteAt l (p + 9)]? = some o.visibility ∧
    [OverlayClass.guide, .zone, .frame][byteAt l (p + 10)]? = some o.cls

theorem parseOverlay_value {l : List Byte} {start i : Nat} {o : Overlay}
    (h : parseOverlay (recordBytes l start 28 i) = some o) : OverlayAt l (start + 28 * i) o := by
  obtain ⟨k, g, v, w, hk, hg, hv, hw⟩ := parseOverlay_codes h
  rw [parseOverlay_some hk hg hv hw] at h
  cases ensure_eq_some h
  rw [overlayKindOfCode_eq] at hk
  rw [generatorOfCode_eq] at hg
  rw [levelOfCode_eq] at hv
  rw [classOfCode_eq] at hw
  simp only [Nat.reduceLT, byteAt_record, Nat.add_zero] at hk hg hv hw
  refine ⟨?_, hk, hg, hv, hw⟩
  simp only [overlayWith, Nat.reduceLT, Nat.reduceAdd, byteAt_record, u16At_record, s16At_record]

/-- A generator record that passes (R94), apart from its number's own rules. -/
def GeneratorFits (l : List Byte) (p : Nat) : Prop := 1 ≤ byteAt l (p + 1) ∧ 1 ≤ byteAt l (p + 2) ∧ byteAt l (p + 3) ≤ 5

theorem parseGenerator_isSome (l : List Byte) (start i : Nat) :
    (parseGenerator (recordBytes l start 4 i)).isSome = true ↔
      byteAt l (start + 4 * i) ≤ 3 ∧ GeneratorFits l (start + 4 * i) := by
  rw [parseGenerator, armOfCode_eq]
  simp only [GeneratorFits, Nat.reduceLT, byteAt_record, Nat.add_zero]
  by_cases hcode : byteAt l (start + 4 * i + 3) < 6
  · rw [List.getElem?_eq_getElem hcode]
    simp only [ensure_isSome, Bool.and_eq_true, decide_eq_true_eq]
    omega
  · rw [List.getElem?_eq_none (by simpa using hcode)]
    simp only [Option.isSome_none, Bool.false_eq_true, false_iff]
    omega

theorem parseGenerator_value {l : List Byte} {start i : Nat} {x : Nat × GeneratorConfig}
    (h : parseGenerator (recordBytes l start 4 i) = some x) :
    x.1 = byteAt l (start + 4 * i) ∧
      x.2 = ⟨byteAt l (start + 4 * i + 1), byteAt l (start + 4 * i + 2), x.2.source⟩ ∧
      [ArmSource.always, .levelNotice, .levelCaution, .levelDanger, .cameraFault, .warning][byteAt l
        (start + 4 * i + 3)]? = some x.2.source := by
  rw [parseGenerator, armOfCode_eq] at h
  simp only [Nat.reduceLT, byteAt_record, Nat.add_zero] at h
  split at h
  next a ha =>
    cases ensure_eq_some h
    exact ⟨rfl, rfl, ha⟩
  next => cases h

theorem generatorsOf_get (gens : List (Nat × GeneratorConfig)) (n : Fin 4) :
    (generatorsOf gens).get n = ((gens.find? fun p => decide (p.1 = n.val)).map Prod.snd).getD (generatorsFallback.get n) := by
  rw [generatorsOf, Quad.get_mapIdx]
  cases gens.find? fun p => decide (p.1 = n.val) <;> rfl

theorem generatorsOf_of_mem {gens : List (Nat × GeneratorConfig)} (hnodup : (gens.map Prod.fst).Nodup)
    {p : Nat × GeneratorConfig} (hp : p ∈ gens) {n : Fin 4} (hn : p.1 = n.val) : (generatorsOf gens).get n = p.2 := by
  have hsome : (gens.find? fun p => decide (p.1 = n.val)).isSome = true :=
    List.find?_isSome.mpr ⟨p, hp, decide_eq_true hn⟩
  obtain ⟨q, hq⟩ := Option.isSome_iff_exists.mp hsome
  have hqn : q.1 = n.val := by simpa using List.find?_some hq
  have hqp : q = p := eq_of_nodup_map hnodup (List.mem_of_find?_eq_some hq) hp (hqn.trans hn.symm)
  rw [generatorsOf_get, hq, hqp]
  rfl

theorem generatorsOf_of_absent {gens : List (Nat × GeneratorConfig)} {n : Fin 4} (h : ∀ p ∈ gens, p.1 ≠ n.val) :
    (generatorsOf gens).get n = generatorsFallback.get n := by
  have hnone : (gens.find? fun p => decide (p.1 = n.val)) = none :=
    List.find?_eq_none.mpr fun p hp => by simpa using h p hp
  rw [generatorsOf_get, hnone]
  rfl

/-- The offset of generator record `i` (11.2). -/
def generatorAt (l : List Byte) (i : Nat) : Nat := 2 + 28 * byteAt l 0 + 4 * i

theorem parseOverlays_some {l : List Byte} {objects : List Overlay} {gens : List (Nat × GeneratorConfig)}
    (ho : sequenceAll ((records l 2 28 (byteAt l 0)).map parseOverlay) = some objects)
    (hg : sequenceAll ((records l (2 + 28 * byteAt l 0) 4 (byteAt l 1)).map parseGenerator) = some gens) :
    parseOverlays l =
      ensure
        (decide (l.length = 2 + 28 * byteAt l 0 + 4 * byteAt l 1) && decide (byteAt l 0 ≤ 32) &&
          distinct (gens.map Prod.fst))
        ⟨objects, generatorsOf gens⟩ := by
  rw [parseOverlays, ho, hg]

/-- Both record lists of a section that passes parse. -/
theorem parseOverlays_parts {l : List Byte} {x : OverlaysSection} (h : parseOverlays l = some x) :
    ∃ objects gens, sequenceAll ((records l 2 28 (byteAt l 0)).map parseOverlay) = some objects ∧
      sequenceAll ((records l (2 + 28 * byteAt l 0) 4 (byteAt l 1)).map parseGenerator) = some gens := by
  unfold parseOverlays at h
  dsimp only at h
  split at h
  next objects gens ho hg => exact ⟨objects, gens, ho, hg⟩
  next => cases h

theorem generator_numbers {l : List Byte} {gens : List (Nat × GeneratorConfig)}
    (hg : sequenceAll ((records l (2 + 28 * byteAt l 0) 4 (byteAt l 1)).map parseGenerator) = some gens) :
    gens.map Prod.fst = (List.range (byteAt l 1)).map fun i => byteAt l (generatorAt l i) :=
  records_map hg fun _ _ _ hx => (parseGenerator_value hx).1

theorem parseOverlays_isSome (l : List Byte) :
    (parseOverlays l).isSome = true ↔
      l.length = 2 + 28 * byteAt l 0 + 4 * byteAt l 1 ∧ byteAt l 0 ≤ 32 ∧
        (∀ i, i < byteAt l 0 → OverlayFits l (2 + 28 * i)) ∧
        ∀ i, i < byteAt l 1 →
          byteAt l (generatorAt l i) ≤ 3 ∧
            (∀ j, j < i → byteAt l (generatorAt l j) ≠ byteAt l (generatorAt l i)) ∧
            GeneratorFits l (generatorAt l i) := by
  have hobjects := records_isSome parseOverlay l 2 28 (byteAt l 0)
  have hgens := records_isSome parseGenerator l (2 + 28 * byteAt l 0) 4 (byteAt l 1)
  simp only [parseOverlay_isSome, overlayFits_record] at hobjects
  simp only [parseGenerator_isSome] at hgens
  constructor
  · intro h
    obtain ⟨x, hx⟩ := Option.isSome_iff_exists.mp h
    obtain ⟨objects, gens, ho, hg⟩ := parseOverlays_parts hx
    rw [parseOverlays_some ho hg, ensure_isSome, distinct, generator_numbers hg] at h
    simp only [Bool.and_eq_true, decide_eq_true_eq, nodup_map_range, and_assoc] at h
    obtain ⟨hlength, hcount, hnodup⟩ := h
    have hfit := hgens.mp (by rw [hg]; rfl)
    exact ⟨hlength, hcount, hobjects.mp (by rw [ho]; rfl), fun i hi => ⟨(hfit i hi).1, hnodup i hi, (hfit i hi).2⟩⟩
  · rintro ⟨hlength, hcount, hfit, hgen⟩
    obtain ⟨objects, ho⟩ := Option.isSome_iff_exists.mp (hobjects.mpr hfit)
    obtain ⟨gens, hg⟩ := Option.isSome_iff_exists.mp (hgens.mpr fun i hi => ⟨(hgen i hi).1, (hgen i hi).2.2⟩)
    rw [parseOverlays_some ho hg, ensure_isSome, distinct, generator_numbers hg]
    simp only [Bool.and_eq_true, decide_eq_true_eq, nodup_map_range, and_assoc]
    exact ⟨hlength, hcount, fun i hi => (hgen i hi).2.1⟩

theorem parseOverlays_value (l : List Byte) (x : OverlaysSection) (h : parseOverlays l = some x) :
    x.objects.length = byteAt l 0 ∧
      (∀ (i : Nat) (o : Overlay), x.objects[i]? = some o → OverlayAt l (2 + 28 * i) o) ∧
      ∀ n : Fin 4,
        (∀ i, i < byteAt l 1 → byteAt l (generatorAt l i) = n.val →
          x.generators.get n =
              ⟨byteAt l (generatorAt l i + 1), byteAt l (generatorAt l i + 2), (x.generators.get n).source⟩ ∧
            [ArmSource.always, .levelNotice, .levelCaution, .levelDanger, .cameraFault, .warning][byteAt l
              (generatorAt l i + 3)]? = some (x.generators.get n).source) ∧
        ((∀ i, i < byteAt l 1 → byteAt l (generatorAt l i) ≠ n.val) →
          x.generators.get n = generatorsFallback.get n) := by
  obtain ⟨objects, gens, ho, hg⟩ := parseOverlays_parts h
  have hsome : (parseOverlays l).isSome = true := by rw [h]; rfl
  rw [parseOverlays_some ho hg] at h hsome
  cases ensure_eq_some h
  obtain ⟨hlength, hobjects⟩ := records_some ho
  obtain ⟨hcount, hgens⟩ := records_some hg
  have hnodup : (gens.map Prod.fst).Nodup := by
    rw [ensure_isSome, Bool.and_eq_true, distinct, decide_eq_true_eq] at hsome
    exact hsome.2
  refine ⟨hlength, fun i o hi => parseOverlay_value (hobjects i o hi).2, fun n => ⟨fun i hi hn => ?_, fun hn => ?_⟩⟩
  · have hget := List.getElem?_eq_getElem (hcount.symm ▸ hi : i < gens.length)
    obtain ⟨_, hparsed⟩ := hgens i _ hget
    obtain ⟨hnumber, hvalue, hsource⟩ := parseGenerator_value hparsed
    have hgenerator := generatorsOf_of_mem hnodup (List.getElem_mem _) (hnumber.trans hn)
    show (generatorsOf gens).get n = _ ∧ _ = some ((generatorsOf gens).get n).source
    rw [hgenerator]
    exact ⟨hvalue, hsource⟩
  · refine generatorsOf_of_absent fun p hp => ?_
    obtain ⟨i, hi⟩ := List.mem_iff_getElem?.mp hp
    obtain ⟨hlt, hparsed⟩ := hgens i p hi
    exact fun heq => hn i hlt ((parseGenerator_value hparsed).1.symm.trans heq)

/-! ### ZONES -/

theorem conditionOfCode_isSome (n limit : Nat) :
    (conditionOfCode n limit).isSome = true ↔ n ≤ 5 ∧ (n = 1 → limit ≤ 4000) := by
  match n with
  | 1 => by_cases h : limit ≤ 4000 <;> simp [conditionOfCode, h]
  | 0 | 2 | 3 | 4 | 5 => simp [conditionOfCode]
  | n + 6 => simp [conditionOfCode]

theorem conditionOfCode_value {n limit : Nat} {c : ZoneCondition} (h : conditionOfCode n limit = some c) :
    [ZoneCondition.always, .speedAtMost limit, .moving, .indicatorOn, .reverse, .liftActive][n]? = some c := by
  match n with
  | 1 =>
    by_cases hlimit : limit ≤ 4000
    · rwa [conditionOfCode, if_pos hlimit] at h
    · rw [conditionOfCode, if_neg hlimit] at h
      cases h
  | 0 | 2 | 3 | 4 | 5 => exact h
  | n + 6 => cases h

theorem zoneLevelOfCode_isSome (n : Nat) : (zoneLevelOfCode n).isSome = true ↔ 1 ≤ n ∧ n ≤ 3 := by
  match n with
  | 0 | 1 | 2 | 3 => simp [zoneLevelOfCode, levelOfCode]
  | n + 4 => simp [zoneLevelOfCode, levelOfCode]

theorem zoneLevelOfCode_value {n : Nat} {v : Level} (h : zoneLevelOfCode n = some v) :
    [Level.none, .notice, .caution, .danger][n]? = some v := by
  rw [zoneLevelOfCode] at h
  split at h
  next => cases h
  next => rwa [levelOfCode_eq] at h

/-- A zone record that passes (R114), apart from its number's own rules. -/
def ZoneFits (l : List Byte) (p : Nat) : Prop :=
  byteAt l (p + 2) ≤ 5 ∧ (byteAt l (p + 2) = 1 → u16At l (p + 12) ≤ 4000) ∧ 1 ≤ byteAt l (p + 3) ∧
    byteAt l (p + 3) ≤ 3 ∧ s16At l (p + 4) ≤ s16At l (p + 6) ∧ s16At l (p + 8) ≤ s16At l (p + 10) ∧
    InGround (s16At l (p + 4)) (s16At l (p + 8)) ∧ InGround (s16At l (p + 6)) (s16At l (p + 10)) ∧
    (u16At l (p + 14) = 0 ∨ 100 ≤ u16At l (p + 14) ∧ u16At l (p + 14) ≤ 5000) ∧
    (byteAt l (p + 16) ≤ 11 ∨ byteAt l (p + 16) = 255)

theorem parseZone_iff (l : List Byte) :
    (parseZone l).isSome = true ↔
      (conditionOfCode (byteAt l 2) (u16At l 12)).isSome = true ∧ (zoneLevelOfCode (byteAt l 3)).isSome = true ∧
        zoneFits l = true := by
  unfold parseZone
  cases conditionOfCode (byteAt l 2) (u16At l 12) with
  | none => simp
  | some c => cases zoneLevelOfCode (byteAt l 3) <;> simp [ensure_isSome]

theorem parseZone_isSome (l : List Byte) (start i : Nat) :
    (parseZone (recordBytes l start 18 i)).isSome = true ↔
      byteAt l (start + 18 * i) ≤ 7 ∧ ZoneFits l (start + 18 * i) := by
  rw [parseZone_iff, conditionOfCode_isSome, zoneLevelOfCode_isSome, zoneFits, ZoneFits]
  simp only [Bool.and_eq_true, decide_eq_true_eq, inBounds_iff, Nat.reduceLT, Nat.reduceAdd, byteAt_record, u16At_record,
    s16At_record, Nat.add_zero, and_assoc]
  exact ⟨fun ⟨hk, hlimit, h1, h3, hnumber, hrest⟩ => ⟨hnumber, hk, hlimit, h1, h3, hrest⟩,
    fun ⟨hnumber, hk, hlimit, h1, h3, hrest⟩ => ⟨hk, hlimit, h1, h3, hnumber, hrest⟩⟩

/-- What the zone record at byte `p` gives (11.2). -/
def ZoneAt (l : List Byte) (p : Nat) (k : Zone) : Prop :=
  k =
    ⟨Fin.ofNat 8 (byteAt l p), bitAt l (p + 1) 0, s16At l (p + 4), s16At l (p + 6), s16At l (p + 8), s16At l (p + 10),
      k.condition, k.level, u16At l (p + 14), if byteAt l (p + 16) = 255 then none else some (byteAt l (p + 16))⟩ ∧
    [ZoneCondition.always, .speedAtMost (u16At l (p + 12)), .moving, .indicatorOn, .reverse, .liftActive][byteAt l
      (p + 2)]? = some k.condition ∧
    [Level.none, .notice, .caution, .danger][byteAt l (p + 3)]? = some k.level

theorem parseZone_value {l : List Byte} {start i : Nat} {k : Zone} (h : parseZone (recordBytes l start 18 i) = some k) :
    ZoneAt l (start + 18 * i) k := by
  unfold parseZone at h
  split at h
  next c v hc hv =>
    have hcondition := conditionOfCode_value hc
    have hlevel := zoneLevelOfCode_value hv
    cases ensure_eq_some h
    simp only [Nat.reduceLT, Nat.reduceAdd, byteAt_record, u16At_record] at hcondition hlevel
    refine ⟨?_, hcondition, hlevel⟩
    simp only [viewOfByte, Nat.reduceLT, Nat.reduceAdd, byteAt_record, u16At_record, s16At_record, bitAt_record,
      Nat.add_zero]
  next => cases h

theorem warningOfCode_isSome (n : Nat) : (warningOfCode n).isSome = true ↔ n = 2 ∨ n = 3 := by
  match n with
  | 0 | 1 | 2 | 3 => simp [warningOfCode]
  | n + 4 => simp [warningOfCode]

theorem warningOfCode_value {n : Nat} {v : Level} (h : warningOfCode n = some v) : v = if n = 2 then .caution else .danger := by
  match n with
  | 0 | 1 => cases h
  | 2 | 3 => exact (Option.some.inj h).symm
  | n + 4 => cases h

theorem parseZones_some {l : List Byte} {w : Level} {zones : List Zone} (hw : warningOfCode (byteAt l 2) = some w)
    (hz : sequenceAll ((records l 5 18 (byteAt l 4)).map parseZone) = some zones) :
    parseZones l =
      ensure
        (decide (l.length = 5 + 18 * byteAt l 4) && decide (byteAt l 4 ≤ 8) &&
          decide (u16At l 0 = 0 ∨ (200 ≤ u16At l 0 ∧ u16At l 0 ≤ 2000)) && decide (byteAt l 3 ≤ 3) &&
          distinct (zones.map fun z => z.index.val))
        ⟨if u16At l 0 = 0 then 500 else u16At l 0, w, Fin.ofNat 4 (byteAt l 3), zones⟩ := by
  rw [parseZones, hw, hz]

theorem parseZones_parts {l : List Byte} {x : ZonesSection} (h : parseZones l = some x) :
    ∃ w zones, warningOfCode (byteAt l 2) = some w ∧
      sequenceAll ((records l 5 18 (byteAt l 4)).map parseZone) = some zones := by
  unfold parseZones at h
  dsimp only at h
  split at h
  next w zones hw hz => exact ⟨w, zones, hw, hz⟩
  next => cases h

theorem zone_numbers {l : List Byte} {zones : List Zone}
    (hz : sequenceAll ((records l 5 18 (byteAt l 4)).map parseZone) = some zones) :
    (zones.map fun z => z.index.val) = (List.range (byteAt l 4)).map fun i => byteAt l (5 + 18 * i) := by
  have hfits := (records_isSome parseZone l 5 18 (byteAt l 4)).mp (by rw [hz]; rfl)
  refine records_map hz fun i x hi hx => ?_
  have hsmall := ((parseZone_isSome l 5 i).mp (hfits i hi)).1
  rw [(parseZone_value hx).1]
  exact Nat.mod_eq_of_lt (Nat.lt_succ_of_le hsmall)

theorem parseZones_isSome (l : List Byte) :
    (parseZones l).isSome = true ↔
      l.length = 5 + 18 * byteAt l 4 ∧ byteAt l 4 ≤ 8 ∧ (u16At l 0 = 0 ∨ 200 ≤ u16At l 0 ∧ u16At l 0 ≤ 2000) ∧
        (byteAt l 2 = 2 ∨ byteAt l 2 = 3) ∧ byteAt l 3 ≤ 3 ∧
        ∀ i, i < byteAt l 4 →
          byteAt l (5 + 18 * i) ≤ 7 ∧ (∀ j, j < i → byteAt l (5 + 18 * j) ≠ byteAt l (5 + 18 * i)) ∧
            ZoneFits l (5 + 18 * i) := by
  have hzones := records_isSome parseZone l 5 18 (byteAt l 4)
  simp only [parseZone_isSome] at hzones
  constructor
  · intro h
    obtain ⟨x, hx⟩ := Option.isSome_iff_exists.mp h
    obtain ⟨w, zones, hw, hz⟩ := parseZones_parts hx
    have hfit := hzones.mp (by rw [hz]; rfl)
    rw [parseZones_some hw hz, ensure_isSome, distinct, zone_numbers hz] at h
    simp only [Bool.and_eq_true, decide_eq_true_eq, nodup_map_range, and_assoc] at h
    obtain ⟨hlength, hcount, hstale, hgenerator, hnodup⟩ := h
    exact ⟨hlength, hcount, hstale, (warningOfCode_isSome _).mp (by rw [hw]; rfl), hgenerator,
      fun i hi => ⟨(hfit i hi).1, hnodup i hi, (hfit i hi).2⟩⟩
  · rintro ⟨hlength, hcount, hstale, hwarning, hgenerator, hzone⟩
    obtain ⟨zones, hz⟩ := Option.isSome_iff_exists.mp (hzones.mpr fun i hi => ⟨(hzone i hi).1, (hzone i hi).2.2⟩)
    obtain ⟨w, hw⟩ := Option.isSome_iff_exists.mp ((warningOfCode_isSome _).mpr hwarning)
    rw [parseZones_some hw hz, ensure_isSome, distinct, zone_numbers hz]
    simp only [Bool.and_eq_true, decide_eq_true_eq, nodup_map_range, and_assoc]
    exact ⟨hlength, hcount, hstale, hgenerator, fun i hi => (hzone i hi).2.1⟩

theorem parseZones_value (l : List Byte) (x : ZonesSection) (h : parseZones l = some x) :
    x.stale = (if u16At l 0 = 0 then 500 else u16At l 0) ∧ x.warningLevel = (if byteAt l 2 = 2 then .caution else .danger) ∧
      x.generator.val = byteAt l 3 ∧ x.zones.length = byteAt l 4 ∧
      ∀ (i : Nat) (k : Zone), x.zones[i]? = some k → ZoneAt l (5 + 18 * i) k := by
  have hsome := (parseZones_isSome l).mp (by rw [h]; rfl)
  obtain ⟨_, _, _, _, hgenerator, _⟩ := hsome
  obtain ⟨w, zones, hw, hz⟩ := parseZones_parts h
  rw [parseZones_some hw hz] at h
  cases ensure_eq_some h
  obtain ⟨hlength, hget⟩ := records_some hz
  exact ⟨rfl, warningOfCode_value hw, Nat.mod_eq_of_lt (Nat.lt_succ_of_le hgenerator), hlength,
    fun i k hk => parseZone_value (hget i k hk).2⟩

end Sys2Proof.Machine
end

section
/-! PROOFS. The check of LAYOUTS (11.2), its camera sets, and O45. -/

namespace Sys2Proof.Machine

/-! ### Layout records -/

/-- A layout of one record's bytes. -/
def layoutRecord (r : List Byte) : Option Layout :=
  (sequenceAll ((records r 4 24 (byteAt r 2)).map parsePane)).map (layoutOf r)

/-- A record's bytes fill its own length (11.2). -/
def RecordLength (r : List Byte) : Prop := r.length = 4 + 24 * byteAt r 2

theorem recordBytes_append {r rest : List Byte} {start size i n : Nat} (hlength : r.length = start + size * n) (hi : i < n) :
    recordBytes (r ++ rest) start size i = recordBytes r start size i := by
  have hend : start + size * i + size ≤ r.length := by
    rw [hlength, Nat.add_assoc, ← Nat.mul_succ]
    exact Nat.add_le_add_left (Nat.mul_le_mul_left size hi) start
  rw [recordBytes, recordBytes, List.drop_append_of_le_length (by omega),
    List.take_append_of_le_length (by rw [List.length_drop]; omega)]

theorem records_append {r rest : List Byte} {start size n : Nat} (hlength : r.length = start + size * n) :
    records (r ++ rest) start size n = records r start size n :=
  List.map_congr_left fun _ hi => recordBytes_append hlength (List.mem_range.mp hi)

/-- The first of several records is cut off by its own length. -/
theorem parseLayoutRecords_append {r rest : List Byte} (hr : RecordLength r) (n : Nat) :
    parseLayoutRecords (n + 1) (r ++ rest) =
      (layoutRecord r).bind fun k => (parseLayoutRecords n rest).map (k :: ·) := by
  have hlength : r.length = 4 + 24 * byteAt r 2 := hr
  have hbyte : ∀ j, j < 4 → byteAt (r ++ rest) j = byteAt r j := fun j hj => byteAt_append_left (by omega)
  have hbit : bitAt (r ++ rest) 1 0 = bitAt r 1 0 := by
    rw [bitAt, bitAt, getD_append_of_lt (by omega)]
  rw [parseLayoutRecords, hbyte 2 (by decide), if_neg (by rw [List.length_append]; omega), records_append hlength,
    List.drop_append_of_le_length (by omega), ← hlength, List.drop_length, List.nil_append, layoutRecord]
  have hlayout : ∀ panes, layoutOf (r ++ rest) panes = layoutOf r panes := fun panes => by
    rw [layoutOf, layoutOf, hbyte 0 (by decide), hbit]
  cases sequenceAll ((records r 4 24 (byteAt r 2)).map parsePane) with
  | none => rfl
  | some panes => cases parseLayoutRecords n rest <;> simp [hlayout]

/-- Bytes that hold a first record begin with it. -/
theorem record_split {l : List Byte} (h : ¬ l.length < 4 + 24 * byteAt l 2) :
    ∃ r rest, l = r ++ rest ∧ RecordLength r := by
  refine ⟨l.take (4 + 24 * byteAt l 2), l.drop (4 + 24 * byteAt l 2), (List.take_append_drop _ l).symm, ?_⟩
  have hbyte : byteAt (l.take (4 + 24 * byteAt l 2)) 2 = byteAt l 2 := by
    rw [byteAt, List.getD, List.getElem?_take_of_lt (by omega)]
    rfl
  rw [RecordLength, hbyte, List.length_take]
  omega

/-- Layout records are read one after another, and fill the bytes (11.2). -/
theorem parseLayoutRecords_eq_some (n : Nat) (l : List Byte) (ls : List Layout) :
    parseLayoutRecords n l = some ls ↔
      ∃ rs : List (List Byte), l = rs.flatten ∧ rs.length = n ∧ (∀ r ∈ rs, RecordLength r) ∧
        rs.map layoutRecord = ls.map some := by
  induction n generalizing l ls with
  | zero =>
    constructor
    · intro h
      rw [parseLayoutRecords] at h
      split at h
      next hl =>
        cases h
        exact ⟨[], hl, rfl, by simp, rfl⟩
      next => cases h
    · rintro ⟨rs, rfl, hlength, _, hls⟩
      cases List.eq_nil_of_length_eq_zero hlength
      cases List.map_eq_nil_iff.mp hls.symm
      rfl
  | succ n ih =>
    constructor
    · intro h
      by_cases hshort : l.length < 4 + 24 * byteAt l 2
      · rw [parseLayoutRecords, if_pos hshort] at h
        cases h
      obtain ⟨r, rest, rfl, hr⟩ := record_split hshort
      rw [parseLayoutRecords_append hr] at h
      obtain ⟨k, hk, hrest⟩ := Option.bind_eq_some_iff.mp h
      obtain ⟨ks, hks, rfl⟩ := Option.map_eq_some_iff.mp hrest
      obtain ⟨rs, rfl, hlength, hall, hmap⟩ := (ih rest ks).mp hks
      exact ⟨r :: rs, rfl, by rw [List.length_cons, hlength], by simpa using ⟨hr, hall⟩, by simp [hk, hmap]⟩
    · rintro ⟨rs, rfl, hlength, hall, hmap⟩
      obtain ⟨r, rs, rfl⟩ := List.exists_cons_of_length_eq_add_one hlength
      cases ls with
      | nil => cases hmap
      | cons k ks =>
        obtain ⟨hk, hks⟩ := List.cons.inj hmap
        rw [List.flatten_cons, parseLayoutRecords_append (hall r (by simp)), hk,
          (ih rs.flatten ks).mpr ⟨rs, rfl, Nat.succ.inj hlength, fun r hr => hall r (by simp [hr]), hks⟩]
        rfl

/-! ### Panes -/

theorem paneKindOfCode_eq (n : Nat) : paneKindOfCode n = [PaneKind.topview, .camera][n]? := by
  match n with
  | 0 | 1 => rfl
  | n + 2 => rfl

theorem sizeOfCode_eq (n : Nat) : sizeOfCode n = [SizeClass.a, .b, .c][n]? := by
  match n with
  | 0 | 1 | 2 => rfl
  | n + 3 => rfl

/-- What the pane record at byte `p` gives, its camera set aside (11.2). -/
def PaneAt (r : List Byte) (p : Nat) (q : Pane) : Prop :=
  q.left = u16At r p ∧ q.top = u16At r (p + 2) ∧ q.width = u16At r (p + 4) ∧ q.height = u16At r (p + 6) ∧
    [PaneKind.topview, .camera][byteAt r (p + 8)]? = some q.kind ∧
    [SizeClass.a, .b, .c][byteAt r (p + 9)]? = some q.cls ∧ q.mapBase = u32At r (p + 12) ∧
    (q.kind = .topview → q.x0 = s16At r (p + 16) ∧ q.y0 = s16At r (p + 18) ∧ q.scale = u16At r (p + 20) ∧
      q.mirror = bitAt r (p + 10) 0) ∧
    (¬ q.kind = .topview → q.zoneMask.toNat = byteAt r (p + 11))

theorem paneKindOfCode_isSome (n : Nat) : (paneKindOfCode n).isSome = true ↔ n ≤ 1 := by
  match n with
  | 0 | 1 => decide
  | n + 2 => simp [paneKindOfCode]

theorem sizeOfCode_isSome (n : Nat) : (sizeOfCode n).isSome = true ↔ n ≤ 2 := by
  match n with
  | 0 | 1 | 2 => decide
  | n + 3 => simp [sizeOfCode]

theorem parsePane_isSome (l : List Byte) : (parsePane l).isSome = true ↔ byteAt l 8 ≤ 1 ∧ byteAt l 9 ≤ 2 := by
  rw [← paneKindOfCode_isSome, ← sizeOfCode_isSome, parsePane]
  cases paneKindOfCode (byteAt l 8) with
  | none => simp
  | some k => cases sizeOfCode (byteAt l 9) <;> simp

theorem parsePane_value {r : List Byte} {i : Nat} {q : Pane} (h : parsePane (recordBytes r 4 24 i) = some q) :
    PaneAt r (4 + 24 * i) q := by
  rw [parsePane, paneKindOfCode_eq, sizeOfCode_eq] at h
  split at h
  next k size hk hsize =>
    cases h
    simp only [Nat.reduceLT, byteAt_record] at hk hsize
    simp only [PaneAt, Nat.reduceLT, Nat.reduceAdd, u16At_record, s16At_record, u32At_record, bitAt_record,
      getD_record, Nat.add_zero, true_and, decide_eq_true_eq]
    refine ⟨hk, hsize, fun htop => by simp [htop], fun htop => ?_⟩
    rw [if_neg htop]
    rfl
  next => cases h

theorem tile_of_code {n : Nat} {size : SizeClass} (h : [SizeClass.a, .b, .c][n]? = some size) :
    size.tile = 32 * 2 ^ n ∧ size.pairWidth = 2 * (32 * 2 ^ n) := by
  match n with
  | 0 | 1 | 2 => cases h; exact ⟨rfl, rfl⟩
  | n + 3 => cases h

theorem topview_of_code {n : Nat} {k : PaneKind} (h : [PaneKind.topview, .camera][n]? = some k) :
    k = .topview ↔ n = 0 := by
  match n with
  | 0 | 1 => cases h; decide
  | n + 2 => cases h

/-- A pane record whose place on the screen fits its grid and the frame (R54). -/
def PlaceFits (r : List Byte) (p : Nat) : Prop :=
  u16At r (p + 4) ≠ 0 ∧ u16At r (p + 6) ≠ 0 ∧ u16At r p % (2 * (32 * 2 ^ byteAt r (p + 9))) = 0 ∧
    u16At r (p + 4) % (2 * (32 * 2 ^ byteAt r (p + 9))) = 0 ∧ u16At r (p + 2) % (32 * 2 ^ byteAt r (p + 9)) = 0 ∧
    u16At r (p + 6) % (32 * 2 ^ byteAt r (p + 9)) = 0 ∧ u16At r p + u16At r (p + 4) ≤ 1280 ∧
    u16At r (p + 2) + u16At r (p + 6) ≤ 768

/-- A pane record whose ground geometry and map records fit (R54), the map area having `mapLength` bytes. -/
def SourceFits (mapLength : Nat) (r : List Byte) (p : Nat) : Prop :=
  (byteAt r (p + 8) = 0 →
    InGround (s16At r (p + 16)) (s16At r (p + 18)) ∧ 32 ≤ u16At r (p + 20) ∧ u16At r (p + 20) ≤ 1024) ∧
    u32At r (p + 12) % 64 = 0 ∧
    u32At r (p + 12) +
        64 * (u16At r (p + 4) / (2 * (32 * 2 ^ byteAt r (p + 9))) * (u16At r (p + 6) / (32 * 2 ^ byteAt r (p + 9)))) ≤
      mapLength

theorem paneFits_iff (mapLength : Nat) {r : List Byte} {p : Nat} {q : Pane} (h : PaneAt r p q) :
    paneFits mapLength q = true ↔ PlaceFits r p ∧ SourceFits mapLength r p := by
  obtain ⟨hleft, htop, hwidth, hheight, hkind, hcls, hbase, hgeometry, _⟩ := h
  obtain ⟨htile, hpair⟩ := tile_of_code hcls
  have hsource : (q.kind ≠ .topview ∨ geometryFits q = true) ↔
      (byteAt r (p + 8) = 0 →
        InGround (s16At r (p + 16)) (s16At r (p + 18)) ∧ 32 ≤ u16At r (p + 20) ∧ u16At r (p + 20) ≤ 1024) := by
    rw [← topview_of_code hkind]
    by_cases hk : q.kind = .topview
    · obtain ⟨hx, hy, hscale, _⟩ := hgeometry hk
      simp [hk, geometryFits, inBounds_iff, hx, hy, hscale, and_assoc]
    · simp [hk]
  rw [paneFits]
  simp only [Bool.and_eq_true, Bool.or_eq_true, decide_eq_true_eq, hsource, PlaceFits, SourceFits, Pane.pairs, Pane.columns,
    hleft, htop, hwidth, hheight, htile, hpair, hbase, and_assoc]

/-! ### Panes that share no pixel -/

/-- A pixel of a pane (R54). -/
def InPane (q : Pane) (x y : Nat) : Prop :=
  q.left ≤ x ∧ x < q.left + q.width ∧ q.top ≤ y ∧ y < q.top + q.height

theorem panesShare_iff {p q : Pane} (hp : p.width ≠ 0 ∧ p.height ≠ 0) (hq : q.width ≠ 0 ∧ q.height ≠ 0) :
    panesShare p q = true ↔ ∃ x y, InPane p x y ∧ InPane q x y := by
  rw [panesShare, decide_eq_true_iff]
  constructor
  · rintro ⟨h1, h2, h3, h4⟩
    exact ⟨max p.left q.left, max p.top q.top, ⟨by omega, by omega, by omega, by omega⟩, by omega, by omega, by omega,
      by omega⟩
  · rintro ⟨x, y, ⟨h1, h2, h3, h4⟩, h5, h6, h7, h8⟩
    omega

theorem panesApart_iff (l : List Pane) : panesApart l = true ↔ l.Pairwise fun p q => panesShare p q = false := by
  induction l with
  | nil => simp [panesApart]
  | cons p ps ih => simp [panesApart, ih]

/-- No two panes of a list share a pixel just when no pane shares one with an earlier pane. -/
theorem panesApart_iff_places (l : List Pane) (hsize : ∀ q ∈ l, q.width ≠ 0 ∧ q.height ≠ 0) :
    panesApart l = true ↔
      ∀ (i j : Nat) (p q : Pane), l[i]? = some p → l[j]? = some q → j < i → ∀ x y, ¬ (InPane p x y ∧ InPane q x y) := by
  rw [panesApart_iff, List.pairwise_iff_getElem]
  constructor
  · intro h i j p q hp hq hji x y ⟨hpx, hqx⟩
    obtain ⟨hi, rfl⟩ := List.getElem?_eq_some_iff.mp hp
    obtain ⟨hj, rfl⟩ := List.getElem?_eq_some_iff.mp hq
    have hshare := (panesShare_iff (hsize _ (List.getElem_mem hj)) (hsize _ (List.getElem_mem hi))).mpr ⟨x, y, hqx, hpx⟩
    rw [h j i hj hi hji] at hshare
    cases hshare
  · intro h j i hj hi hji
    refine Bool.eq_false_iff.mpr fun hshare => ?_
    obtain ⟨x, y, hq, hp⟩ :=
      (panesShare_iff (hsize _ (List.getElem_mem hj)) (hsize _ (List.getElem_mem hi))).mp hshare
    exact h i j _ _ (List.getElem?_eq_getElem hi) (List.getElem?_eq_getElem hj) hji x y ⟨hp, hq⟩

/-! ### A record's own check -/

/-- Two pane records' pixels (R54). -/
def PixelsApart (r : List Byte) (i j : Nat) : Prop :=
  ∀ x y : Nat,
    ¬ (u16At r (4 + 24 * i + 0) ≤ x ∧ x < u16At r (4 + 24 * i + 0) + u16At r (4 + 24 * i + 4) ∧
        u16At r (4 + 24 * i + 2) ≤ y ∧ y < u16At r (4 + 24 * i + 2) + u16At r (4 + 24 * i + 6) ∧
        u16At r (4 + 24 * j + 0) ≤ x ∧ x < u16At r (4 + 24 * j + 0) + u16At r (4 + 24 * j + 4) ∧
        u16At r (4 + 24 * j + 2) ≤ y ∧ y < u16At r (4 + 24 * j + 2) + u16At r (4 + 24 * j + 6))

theorem pixelsApart_iff {r : List Byte} {i j : Nat} {p q : Pane} (hp : PaneAt r (4 + 24 * i) p)
    (hq : PaneAt r (4 + 24 * j) q) : PixelsApart r i j ↔ ∀ x y, ¬ (InPane p x y ∧ InPane q x y) := by
  obtain ⟨hpl, hpt, hpw, hph, _⟩ := hp
  obtain ⟨hql, hqt, hqw, hqh, _⟩ := hq
  simp only [PixelsApart, InPane, hpl, hpt, hpw, hph, hql, hqt, hqw, hqh, Nat.add_zero, and_assoc]

/-- A layout record that passes (R54). -/
def RecordFits (mapLength : Nat) (r : List Byte) : Prop :=
  byteAt r 0 ≤ 11 ∧ 1 ≤ byteAt r 2 ∧ byteAt r 2 ≤ 4 ∧
    ∀ i, i < byteAt r 2 →
      byteAt r (4 + 24 * i + 8) ≤ 1 ∧ byteAt r (4 + 24 * i + 9) ≤ 2 ∧ PlaceFits r (4 + 24 * i) ∧
        (∀ j, j < i → PixelsApart r i j) ∧ SourceFits mapLength r (4 + 24 * i)

theorem layoutRecord_isSome (r : List Byte) :
    (layoutRecord r).isSome = true ↔
      ∀ i, i < byteAt r 2 → byteAt r (4 + 24 * i + 8) ≤ 1 ∧ byteAt r (4 + 24 * i + 9) ≤ 2 := by
  rw [layoutRecord, Option.isSome_map, records_isSome]
  simp only [parsePane_isSome, Nat.reduceLT, byteAt_record]

/-- A layout of a record, pane by pane. -/
theorem layoutRecord_value {r : List Byte} {k : Layout} (h : layoutRecord r = some k) :
    k.number = byteAt r 0 ∧ k.critical = bitAt r 1 0 ∧ k.builtIn = false ∧ k.panes.length = byteAt r 2 ∧
      ∀ (i : Nat) (q : Pane), k.panes[i]? = some q → PaneAt r (4 + 24 * i) q := by
  obtain ⟨panes, hpanes, rfl⟩ := Option.map_eq_some_iff.mp h
  obtain ⟨hlength, hget⟩ := records_some hpanes
  exact ⟨rfl, rfl, rfl, hlength, fun i q hq => parsePane_value (hget i q hq).2⟩

theorem forall_mem_iff_places {α : Type} (l : List α) (P : α → Prop) : (∀ q ∈ l, P q) ↔ ∀ (i : Nat) (q : α), l[i]? = some q → P q := by
  constructor
  · exact fun h i q hq => h q (List.mem_iff_getElem?.mpr ⟨i, hq⟩)
  · intro h q hq
    obtain ⟨i, hi⟩ := List.mem_iff_getElem?.mp hq
    exact h i q hi

/-- The panes of a record's layout fit just when the record's bytes do. -/
theorem panes_fit_iff (mapLength : Nat) {r : List Byte} {k : Layout} (h : layoutRecord r = some k) :
    (k.panes.all (paneFits mapLength) = true ∧ panesApart k.panes = true) ↔
      ∀ i, i < byteAt r 2 →
        PlaceFits r (4 + 24 * i) ∧ (∀ j, j < i → PixelsApart r i j) ∧ SourceFits mapLength r (4 + 24 * i) := by
  obtain ⟨_, _, _, hlength, hpanes⟩ := layoutRecord_value h
  have hpane : ∀ i, i < byteAt r 2 → ∃ q, k.panes[i]? = some q := fun i hi =>
    ⟨_, List.getElem?_eq_getElem (hlength.symm ▸ hi : i < k.panes.length)⟩
  have hbound : ∀ {i : Nat} {q : Pane}, k.panes[i]? = some q → i < byteAt r 2 := fun hq =>
    hlength ▸ (List.getElem?_eq_some_iff.mp hq).1
  have hfits : k.panes.all (paneFits mapLength) = true ↔
      ∀ i, i < byteAt r 2 → PlaceFits r (4 + 24 * i) ∧ SourceFits mapLength r (4 + 24 * i) := by
    rw [List.all_eq_true, forall_mem_iff_places]
    constructor
    · intro hall i hi
      obtain ⟨q, hq⟩ := hpane i hi
      exact (paneFits_iff mapLength (hpanes i q hq)).mp (hall i q hq)
    · exact fun hall i q hq => (paneFits_iff mapLength (hpanes i q hq)).mpr (hall i (hbound hq))
  have hapart : (∀ i, i < byteAt r 2 → PlaceFits r (4 + 24 * i)) →
      (panesApart k.panes = true ↔ ∀ i, i < byteAt r 2 → ∀ j, j < i → PixelsApart r i j) := by
    intro hplace
    have hsize : ∀ q ∈ k.panes, q.width ≠ 0 ∧ q.height ≠ 0 := by
      rw [forall_mem_iff_places]
      intro i q hq
      obtain ⟨_, _, hwidth, hheight, _⟩ := hpanes i q hq
      obtain ⟨hw, hh, _⟩ := hplace i (hbound hq)
      exact ⟨hwidth ▸ hw, hheight ▸ hh⟩
    rw [panesApart_iff_places _ hsize]
    constructor
    · intro hall i hi j hji
      obtain ⟨p, hp⟩ := hpane i hi
      obtain ⟨q, hq⟩ := hpane j (Nat.lt_trans hji hi)
      exact (pixelsApart_iff (hpanes i p hp) (hpanes j q hq)).mpr (hall i j p q hp hq hji)
    · exact fun hall i j p q hp hq hji =>
        (pixelsApart_iff (hpanes i p hp) (hpanes j q hq)).mp (hall i (hbound hp) j hji)
  constructor
  · rintro ⟨hall, hdisjoint⟩
    have hboth := hfits.mp hall
    have hpixels := (hapart fun i hi => (hboth i hi).1).mp hdisjoint
    exact fun i hi => ⟨(hboth i hi).1, hpixels i hi, (hboth i hi).2⟩
  · intro hall
    exact ⟨hfits.mpr fun i hi => ⟨(hall i hi).1, (hall i hi).2.2⟩,
      (hapart fun i hi => (hall i hi).1).mpr fun i hi => (hall i hi).2.1⟩

theorem layoutFits_iff (mapLength : Nat) {r : List Byte} {k : Layout} (h : layoutRecord r = some k) :
    layoutFits mapLength k = true ↔ RecordFits mapLength r := by
  obtain ⟨hnumber, _, _, hlength, _⟩ := layoutRecord_value h
  have hcodes := (layoutRecord_isSome r).mp (by rw [h]; rfl)
  rw [layoutFits, Bool.and_eq_true, Bool.and_eq_true, and_assoc, panes_fit_iff mapLength h, hnumber, hlength]
  simp only [Bool.and_eq_true, decide_eq_true_eq, RecordFits, and_assoc]
  refine and_congr_right' (and_congr_right' (and_congr_right' ⟨fun hall i hi => ?_, fun hall i hi => (hall i hi).2.2⟩))
  exact ⟨(hcodes i hi).1, (hcodes i hi).2, hall i hi⟩

/-! ### The section -/

theorem mem_of_map_eq_map_some {α β : Type} {f : α → Option β} {rs : List α} {ls : List β} (h : rs.map f = ls.map some) :
    rs.length = ls.length ∧ ∀ (n : Nat) (r : α) (k : β), rs[n]? = some r → ls[n]? = some k → f r = some k := by
  refine ⟨by simpa using congrArg List.length h, fun n r k hr hk => ?_⟩
  have hget := congrArg (fun L => L[n]?) h
  simpa [hr, hk] using hget

/-- What a LAYOUTS section that passes holds, record by record. -/
def LayoutsRead (mapLength : Nat) (l : List Byte) (home : Byte) (rs : List (List Byte)) (ls : List Layout) : Prop :=
  (∃ count : Byte, l = home :: count :: rs.flatten ∧ count.toNat = rs.length) ∧ (∀ r ∈ rs, RecordLength r) ∧
    rs.map layoutRecord = ls.map some ∧ (ls.map Layout.number).Nodup ∧ ls.all (layoutFits mapLength) = true ∧
    layoutPresent ls home.toNat = true

theorem parseLayouts_eq_some (mapLength : Nat) (cells : List Host.Cell) (l : List Byte) (x : LayoutsSection) :
    parseLayouts mapLength cells l = some x ↔
      ∃ home rs ls, LayoutsRead mapLength l home rs ls ∧ x = ⟨home.toNat, ls.map (withCameras cells)⟩ := by
  rw [parseLayouts]
  match l with
  | [] => simp [LayoutsRead]
  | [b] => simp [LayoutsRead]
  | home :: count :: tail =>
    rw [if_neg (by simp)]
    have hhome : byteAt (home :: count :: tail) 0 = home.toNat := rfl
    have hcount : byteAt (home :: count :: tail) 1 = count.toNat := rfl
    rw [hhome, hcount, List.drop_succ_cons, List.drop_succ_cons, List.drop_zero]
    constructor
    · intro h
      cases hls : parseLayoutRecords count.toNat tail with
      | none =>
        rw [hls] at h
        cases h
      | some ls =>
        rw [hls] at h
        have hcheck := (ensure_isSome _ _).mp (Option.isSome_iff_exists.mpr ⟨x, h⟩)
        simp only [Bool.and_eq_true, distinct, decide_eq_true_eq, and_assoc] at hcheck
        obtain ⟨rs, rfl, hlength, hall, hmap⟩ := (parseLayoutRecords_eq_some _ _ _).mp hls
        obtain ⟨hnodup, hfits, hpresent⟩ := hcheck
        exact ⟨home, rs, ls, ⟨⟨count, rfl, hlength.symm⟩, hall, hmap, hnodup, hfits, hpresent⟩, ensure_eq_some h⟩
    · rintro ⟨home', rs, ls, ⟨⟨count', hl, hlength⟩, hall, hmap, hnodup, hfits, hpresent⟩, rfl⟩
      obtain ⟨rfl, htail⟩ := List.cons.inj hl
      obtain ⟨rfl, rfl⟩ := List.cons.inj htail
      rw [(parseLayoutRecords_eq_some _ _ _).mpr ⟨rs, rfl, hlength.symm, hall, hmap⟩]
      simp [ensure, distinct, hnodup, hfits, hpresent]

/-- The numbers of a section's layouts are its records' bytes. -/
theorem layoutRecord_numbers {rs : List (List Byte)} {ls : List Layout} (h : rs.map layoutRecord = ls.map some) :
    ls.map Layout.number = rs.map fun r => byteAt r 0 := by
  induction rs generalizing ls with
  | nil =>
    cases List.map_eq_nil_iff.mp h.symm
    rfl
  | cons r rs ih =>
    cases ls with
    | nil => cases h
    | cons k ks =>
      obtain ⟨hk, hks⟩ := List.cons.inj h
      rw [List.map_cons, List.map_cons, (layoutRecord_value hk).1, ih hks]

theorem layoutPresent_iff_number (ls : List Layout) (n : Nat) : layoutPresent ls n = true ↔ n ∈ ls.map Layout.number := by
  rw [layoutPresent, findLayout, List.find?_isSome]
  simp

theorem parseLayouts_isSome (mapLength : Nat) (cells : List Host.Cell) (l : List Byte) :
    (parseLayouts mapLength cells l).isSome = true ↔
      ∃ (home count : Byte) (rs : List (List Byte)), l = home :: count :: rs.flatten ∧ count.toNat = rs.length ∧
        (rs.map fun r => byteAt r 0).Nodup ∧ (∃ r ∈ rs, byteAt r 0 = home.toNat) ∧
        ∀ r ∈ rs, RecordLength r ∧ RecordFits mapLength r := by
  constructor
  · intro h
    obtain ⟨x, hx⟩ := Option.isSome_iff_exists.mp h
    obtain ⟨home, rs, ls, ⟨⟨count, hl, hlength⟩, hall, hmap, hnodup, hfits, hpresent⟩, _⟩ :=
      (parseLayouts_eq_some _ _ _ _).mp hx
    have hnumbers := layoutRecord_numbers hmap
    rw [layoutPresent_iff_number, hnumbers, List.mem_map] at hpresent
    refine ⟨home, count, rs, hl, hlength, hnumbers ▸ hnodup, hpresent, fun r hr => ⟨hall r hr, ?_⟩⟩
    obtain ⟨k, hk, hrk⟩ := List.mem_map.mp (hmap ▸ List.mem_map_of_mem hr : layoutRecord r ∈ ls.map some)
    exact (layoutFits_iff mapLength hrk.symm).mp (List.all_eq_true.mp hfits k hk)
  · rintro ⟨home, count, rs, hl, hlength, hnodup, hpresent, hall⟩
    have hparse : (sequenceAll (rs.map layoutRecord)).isSome = true := by
      rw [sequenceAll_isSome, List.forall_mem_map]
      intro r hr
      obtain ⟨_, _, _, _, hpanes⟩ := hall r hr
      exact (layoutRecord_isSome r).mpr fun i hi => ⟨(hpanes i hi).1, (hpanes i hi).2.1⟩
    obtain ⟨ls, hls⟩ := Option.isSome_iff_exists.mp hparse
    have hmap := (sequenceAll_eq_some _ _).mp hls
    have hnumbers := layoutRecord_numbers hmap
    have hfits : ls.all (layoutFits mapLength) = true := by
      rw [List.all_eq_true]
      intro k hk
      obtain ⟨r, hr, hrk⟩ := List.mem_map.mp (hmap.symm ▸ List.mem_map_of_mem hk : some k ∈ rs.map layoutRecord)
      exact (layoutFits_iff mapLength hrk).mpr (hall r hr).2
    have hpresent' : layoutPresent ls home.toNat = true := by
      rw [layoutPresent_iff_number, hnumbers, List.mem_map]
      exact hpresent
    exact Option.isSome_iff_exists.mpr ⟨_, (parseLayouts_eq_some _ cells _ _).mpr
      ⟨home, rs, ls, ⟨⟨count, hl, hlength⟩, fun r hr => (hall r hr).1, hmap, hnumbers.symm ▸ hnodup, hfits, hpresent'⟩,
        rfl⟩⟩

/-! ### Camera sets -/

theorem foldl_or_getLsbD {α : Type} (l : List α) (f : α → BitVec 4) (s : BitVec 4) (c : Nat) :
    (l.foldl (fun set a => set ||| f a) s).getLsbD c = true ↔ s.getLsbD c = true ∨ ∃ a ∈ l, (f a).getLsbD c = true := by
  induction l generalizing s with
  | nil => simp
  | cons a l ih => simp [ih, or_assoc]

theorem one_shiftLeft_getLsbD (n : Nat) (c : Camera) : (1#4 <<< n).getLsbD c.val = true ↔ n = c.val := by
  have hc : c.val < 4 := c.isLt
  simp only [BitVec.getLsbD_shiftLeft, BitVec.getLsbD_one, Bool.and_eq_true, Bool.not_eq_true', decide_eq_true_eq,
    decide_eq_false_iff_not]
  omega

theorem ite_shiftLeft_getLsbD (P : Prop) [Decidable P] (n : Nat) (c : Camera) :
    (if P ∧ n ≤ 3 then 1#4 <<< n else 0#4).getLsbD c.val = true ↔ P ∧ n = c.val := by
  have hc : c.val ≤ 3 := Nat.le_of_lt_succ c.isLt
  by_cases h : P ∧ n ≤ 3
  · rw [if_pos h, one_shiftLeft_getLsbD]
    exact ⟨fun hn => ⟨h.1, hn⟩, And.right⟩
  · rw [if_neg h]
    exact ⟨fun hno => absurd hno (by simp), fun ⟨hP, hn⟩ => absurd ⟨hP, hn ▸ hc⟩ h⟩

theorem recordCameras_getLsbD (r : MapRecord) (c : Camera) :
    (recordCameras r).getLsbD c.val = true ↔
      r.kind.toNat ≤ 1 ∧ r.primary.toNat = c.val ∨ r.kind.toNat = 1 ∧ r.secondary.toNat = c.val := by
  rw [recordCameras, BitVec.getLsbD_or, Bool.or_eq_true, ite_shiftLeft_getLsbD, ite_shiftLeft_getLsbD]

/-- The cameras of a pane's records (R56). -/
theorem paneCameras_getLsbD (cells : List Host.Cell) (q : Pane) (c : Camera) :
    (paneCameras cells q).getLsbD c.val = true ↔
      ∃ m, m < 2 * q.pairs ∧
        ((sparseRead erased cells (q.mapBase + 32 * m)).toNat ≤ 1 ∧
            (sparseRead erased cells (q.mapBase + 32 * m + 1)).toNat = c.val ∨
          (sparseRead erased cells (q.mapBase + 32 * m)).toNat = 1 ∧
            (sparseRead erased cells (q.mapBase + 32 * m + 2)).toNat = c.val) := by
  have hzero : (0#4).getLsbD c.val = false := by simp
  rw [paneCameras, foldl_or_getLsbD, hzero]
  simp only [Bool.false_eq_true, false_or, List.mem_range, recordCameras_getLsbD]
  have hbyte : ∀ a j, j < 32 → ((readBytes cells a 32).getD j 0#8).toNat = (sparseRead erased cells (a + j)).toNat :=
    fun a j hj => byteAt_readBytes cells a hj
  simp only [recordOfBytes, hbyte _ _ (show 0 < 32 by decide), hbyte _ _ (show 1 < 32 by decide),
    hbyte _ _ (show 2 < 32 by decide), Nat.add_zero]

theorem withCameras_getLsbD (cells : List Host.Cell) (k : Layout) (c : Camera) :
    (withCameras cells k).cameras.getLsbD c.val = true ↔
      ∃ q ∈ (withCameras cells k).panes, q.cameras.getLsbD c.val = true := by
  have hzero : (0#4).getLsbD c.val = false := by simp
  rw [withCameras, foldl_or_getLsbD, hzero]
  simp only [Bool.false_eq_true, false_or]

theorem parseLayouts_value (mapLength : Nat) (cells : List Host.Cell) (l : List Byte) (x : LayoutsSection)
    (h : parseLayouts mapLength cells l = some x) :
    ∃ (home count : Byte) (rs : List (List Byte)), l = home :: count :: rs.flatten ∧ x.home = home.toNat ∧
      x.layouts.length = rs.length ∧
      ∀ (n : Nat) (r : List Byte) (k : Layout), rs[n]? = some r → x.layouts[n]? = some k →
        RecordLength r ∧ ∃ k', layoutRecord r = some k' ∧ k = withCameras cells k' := by
  obtain ⟨home, rs, ls, ⟨⟨count, hl, _⟩, hall, hmap, _⟩, rfl⟩ := (parseLayouts_eq_some _ _ _ _).mp h
  obtain ⟨hlength, hget⟩ := mem_of_map_eq_map_some hmap
  refine ⟨home, count, rs, hl, rfl, by rw [List.length_map, hlength], fun n r k hr hk => ?_⟩
  obtain ⟨k', hk', rfl⟩ := List.getElem?_map .. ▸ hk |> Option.map_eq_some_iff.mp
  exact ⟨hall r (List.mem_of_getElem? hr), k', hget n r k' hr hk', rfl⟩

/-- A pane of a layout with its camera sets is the record's, with the cameras of its map records. -/
theorem withCameras_pane {cells : List Host.Cell} {r : List Byte} {k : Layout} (h : layoutRecord r = some k) {i : Nat}
    {q : Pane} (hq : (withCameras cells k).panes[i]? = some q) :
    PaneAt r (4 + 24 * i) q ∧ ∀ c : Camera, q.cameras.getLsbD c.val = true ↔
      ∃ m, m < 2 * q.pairs ∧
        ((sparseRead erased cells (q.mapBase + 32 * m)).toNat ≤ 1 ∧
            (sparseRead erased cells (q.mapBase + 32 * m + 1)).toNat = c.val ∨
          (sparseRead erased cells (q.mapBase + 32 * m)).toNat = 1 ∧
            (sparseRead erased cells (q.mapBase + 32 * m + 2)).toNat = c.val) := by
  obtain ⟨_, _, _, _, hpanes⟩ := layoutRecord_value h
  obtain ⟨q', hq', rfl⟩ := List.getElem?_map .. ▸ hq |> Option.map_eq_some_iff.mp
  exact ⟨hpanes i q' hq', fun c => paneCameras_getLsbD cells q' c⟩

/-- Settles O45: each section's check is its length and its records' own checks, and its values are the fields. -/
theorem sectionsPassTheirChecks : Obligations.SectionsPassTheirChecks := by
  intro l b h z inside
  refine ⟨parsePorts_isSome l, parsePorts_value l, parsePalette_eq l, parseSensors_isSome l, parseSensors_value l,
    parseCells_isSome l, parseCells_value l, parseWatch_isSome l, parseWatch_value l, parseTriggers_isSome l,
    parseTriggers_value l, ⟨parseOverlays_isSome l, parseOverlays_value l⟩, parseZones_isSome l, parseZones_value l,
    fun mapLength cells => ⟨?_, fun x hx => ?_⟩⟩
  · rw [parseLayouts_isSome]
    simp only [RecordFits, PlaceFits, SourceFits, and_assoc]
    rfl
  · obtain ⟨home, count, rs, hl, hhome, hlength, hget⟩ := parseLayouts_value mapLength cells l x hx
    refine ⟨home, count, rs, hl, hhome, hlength, fun n r k hr hk => ?_⟩
    obtain ⟨hrecord, k', hk', rfl⟩ := hget n r k hr hk
    obtain ⟨hnumber, hcritical, hbuiltIn, hpanes, _⟩ := layoutRecord_value hk'
    refine ⟨hrecord, hnumber, hcritical, hbuiltIn, by rw [← hpanes]; exact List.length_map .., withCameras_getLsbD cells k',
      fun i q hq => ?_⟩
    obtain ⟨⟨h1, h2, h3, h4, h5, h6, h7, h8, h9⟩, hcameras⟩ := withCameras_pane hk' hq
    exact ⟨h1, h2, h3, h4, h5, h6, h7, h8, h9, hcameras⟩

end Sys2Proof.Machine
end

section
/-! PROOFS. Lookups, the lookahead and the issue of refills (R62 to R65): O12. -/

namespace Sys2Proof.Machine

/-! ### Where a key is found (R62) -/

theorem look_hit {r : Remap} {k : Key} {i : Nat} {cls : SizeClass} {even odd : MapRecord}
    (h : r.entry i = .valid k cls even odd) (halone : ∀ j, (r.entry j).key = some k → j = i) :
    r.look k = .hit i even odd := by
  rw [Remap.look, Remap.find_of_unique (by rw [h]; rfl) halone]
  simp only [h]

theorem look_filling {r : Remap} {k : Key} {i : Nat} {cls : SizeClass} (h : r.entry i = .filling k cls)
    (halone : ∀ j, (r.entry j).key = some k → j = i) : r.look k = .filling := by
  rw [Remap.look, Remap.find_of_unique (by rw [h]; rfl) halone]
  simp only [h]

theorem look_faulted {r : Remap} {k : Key} {before after : List FaultedPair} {f : FaultedPair}
    (habsent : ∀ j, (r.entry j).key ≠ some k) (hstore : r.faulted = before ++ f :: after) (hf : f.key = k)
    (hbefore : ∀ g ∈ before, g.key ≠ k) : r.look k = .faulted f.even f.odd := by
  have hfind : (r.faulted.find? fun g => decide (g.key = k)) = some f := by
    have hnone : (before.find? fun g => decide (g.key = k)) = none :=
      List.find?_eq_none.mpr fun g hg => by simpa using hbefore g hg
    simp [hstore, List.find?_append, hnone, hf]
  rw [Remap.look, Remap.find_of_absent habsent]
  simp only [hfind]

theorem look_absent {r : Remap} {k : Key} (habsent : ∀ j, (r.entry j).key ≠ some k) (hstore : ∀ g ∈ r.faulted, g.key ≠ k) :
    r.look k = .nowhere := by
  have hnone : (r.faulted.find? fun g => decide (g.key = k)) = none :=
    List.find?_eq_none.mpr fun g hg => by simpa using hstore g hg
  rw [Remap.look, Remap.find_of_absent habsent]
  simp only [hnone]

/-- A key that an entry carries is found in an entry or not in the faulted store. -/
theorem look_of_held {r : Remap} {k : Key} (h : (∃ j, (r.entry j).key = some k) ∨ ∃ g ∈ r.faulted, g.key = k) :
    r.look k ≠ .nowhere := by
  intro hlook
  have habsent := look_nowhere hlook
  rcases h with ⟨j, hj⟩ | ⟨g, hg, hkey⟩
  · exact habsent j hj
  · rw [Remap.look, Remap.find_of_absent habsent] at hlook
    cases hfind : r.faulted.find? fun f => decide (f.key = k) with
    | none => exact absurd (decide_eq_true hkey) (List.find?_eq_none.mp hfind g hg)
    | some f => simp only [hfind] at hlook; cases hlook

theorem takeFaulted_of_store {r : Remap} {k : Key} {before after : List FaultedPair} {f : FaultedPair}
    (hstore : r.faulted = before ++ f :: after) (hf : f.key = k) (hbefore : ∀ g ∈ before, g.key ≠ k) :
    r.takeFaulted k = { r with faulted := before ++ after } := by
  have herase : (r.faulted.eraseP fun g => decide (g.key = k)) = before ++ after := by
    rw [hstore, List.eraseP_append_right _ fun g hg => by simpa using hbefore g hg, List.eraseP_cons_of_pos (by simp [hf])]
  rw [Remap.takeFaulted, herase]

theorem slotFree_iff (r : Remap) : r.slotFree = true ↔ ¬ (r.slot0 ≠ none ∧ r.slot1 ≠ none) := by
  rw [Remap.slotFree]
  cases r.slot0 <;> cases r.slot1 <;> simp

/-! ### The lookup of a pair (R62, R64) -/

theorem lookupPair_builtIn {l : Layout} (h : l.builtIn = true) (n : Nat) (w : PairPlace) (s : State) :
    lookupPair l n w s = startDrawing l n (madeTile w .even) (madeTile w .odd) none s := by rw [lookupPair, if_pos h]

section Stored

variable {l : Layout} (h : l.builtIn = false) (n : Nat) {w : PairPlace} {s : State}

include h

theorem lookupPair_hit {i : Nat} {even odd : MapRecord} (hlook : s.remap.look (placeKey l w) = .hit i even odd) :
    lookupPair l n w s = startDrawing l n even odd (some i) s := by
  rw [lookupPair, if_neg (by simp [h])]
  simp only [hlook]

theorem lookupPair_filling (hlook : s.remap.look (placeKey l w) = .filling) :
    lookupPair l n w s = setWork (.waitFill n) s := by
  rw [lookupPair, if_neg (by simp [h])]
  simp only [hlook]

theorem lookupPair_faulted {even odd : MapRecord} (hlook : s.remap.look (placeKey l w) = .faulted even odd) :
    lookupPair l n w s = startDrawing l n even odd none { s with remap := s.remap.takeFaulted (placeKey l w) } := by
  rw [lookupPair, if_neg (by simp [h])]
  simp only [hlook]
  rfl

theorem lookupPair_nowhere (hlook : s.remap.look (placeKey l w) = .nowhere) :
    lookupPair l n w s = missPair n (placeKey l w) w.pane.cls s := by
  rw [lookupPair, if_neg (by simp [h])]
  simp only [hlook]

theorem sendLookahead_located (hw : locatePair l n = some w) :
    sendLookahead l n s = s.mapRemap fun r => r.lookahead n (placeKey l w) w.pane.cls := by
  rw [sendLookahead, if_neg (by simp [h]), hw]

end Stored

theorem sendLookahead_none {l : Layout} {n : Nat} (h : l.builtIn = true ∨ locatePair l n = none) (s : State) :
    sendLookahead l n s = s := by
  rw [sendLookahead]
  rcases h with h | h
  · rw [if_pos h]
  · rw [h]
    split <;> rfl

theorem lookahead_kept {r : Remap} {k : Key} (n : Nat) (cls : SizeClass)
    (h : r.look k ≠ .nowhere ∨ r.slotFree = false) : r.lookahead n k cls = r := by
  rw [Remap.lookahead]
  cases hlook : r.look k with
  | nowhere =>
    rcases h with h | h
    · exact absurd hlook h
    · simp [h]
  | hit | filling | faulted => rfl

theorem lookahead_issues {r : Remap} {k : Key} (n : Nat) (cls : SizeClass) (h : r.look k = .nowhere)
    (hfree : r.slotFree = true) : r.lookahead n k cls = r.issue n k cls := by
  rw [Remap.lookahead, h]
  simp [hfree]

/-! ### The entry that the pointer takes (R65) -/



theorem repeat_add_apply {α : Type} (f : α → α) (m n : Nat) (a : α) :
    Nat.repeat f (m + n) a = Nat.repeat f m (Nat.repeat f n a) := by
  induction m with
  | zero => rw [Nat.zero_add]; rfl
  | succ m ih => rw [Nat.succ_add]; exact congrArg f ih

/-- With an entry in reach that is not passed over, the pointer takes the first such. -/
theorem pickEntry_first (r : Remap) (fuel : Nat) {p : Nat}
    (h : ∃ j, j ≤ fuel ∧ r.passesOver (Nat.repeat (stepDown r.pinned) j p) = false) :
    r.passesOver (pickEntry r fuel p) = false ∧
      ∃ j, pickEntry r fuel p = Nat.repeat (stepDown r.pinned) j p ∧
        ∀ i, i < j → r.passesOver (Nat.repeat (stepDown r.pinned) i p) = true := by
  induction fuel generalizing p with
  | zero =>
    obtain ⟨j, hj, hfree⟩ := h
    cases Nat.le_zero.mp hj
    exact ⟨hfree, 0, rfl, fun i hi => absurd hi (Nat.not_lt_zero i)⟩
  | succ fuel ih =>
    rw [pickEntry]
    by_cases hp : r.passesOver p = true
    · rw [if_pos hp]
      obtain ⟨j, hj, hfree⟩ := h
      cases j with
      | zero => exact absurd (hp.symm.trans hfree) (by decide)
      | succ j =>
        obtain ⟨hpick, i, hi, hbefore⟩ := ih ⟨j, Nat.le_of_succ_le_succ hj, repeat_succ_apply _ j p ▸ hfree⟩
        refine ⟨hpick, i + 1, (repeat_succ_apply _ i p).symm ▸ hi, fun k hk => ?_⟩
        cases k with
        | zero => exact hp
        | succ k => exact (repeat_succ_apply _ k p).symm ▸ hbefore k (Nat.lt_of_succ_lt_succ hk)
    · rw [if_neg hp]
      exact ⟨Bool.eq_false_iff.mpr hp, 0, rfl, fun i hi => absurd hi (Nat.not_lt_zero i)⟩

theorem repeat_stepDown (pinned : Nat) {p j : Nat} (h : pinned + j ≤ p) : Nat.repeat (stepDown pinned) j p = p - j := by
  induction j with
  | zero => rfl
  | succ j ih =>
    show stepDown pinned (Nat.repeat (stepDown pinned) j p) = _
    rw [ih (by omega), stepDown, if_neg (by omega)]
    omega

/-- Every entry of the streamed region is in reach of the pointer. -/
theorem stepDown_reaches {pinned p q : Nat} (hp : pinned ≤ p ∧ p ≤ 39) (hq : pinned ≤ q ∧ q ≤ 39) :
    ∃ j, j ≤ 40 ∧ Nat.repeat (stepDown pinned) j p = q := by
  by_cases hle : q ≤ p
  · refine ⟨p - q, by omega, ?_⟩
    rw [repeat_stepDown pinned (by omega)]
    omega
  · refine ⟨(39 - q) + (1 + (p - pinned)), by omega, ?_⟩
    have htop : Nat.repeat (stepDown pinned) 1 pinned = 39 := if_pos (Nat.le_refl _)
    have hbottom : p - (p - pinned) = pinned := by omega
    have hdown : Nat.repeat (stepDown pinned) (p - pinned) p = pinned :=
      (repeat_stepDown pinned (by omega)).trans hbottom
    rw [repeat_add_apply, repeat_add_apply, hdown, htop, repeat_stepDown pinned (by omega)]
    omega

theorem passesOver_iff (r : Remap) (p : Nat) :
    r.passesOver p = true ↔ r.inUse = some p ∨ ∃ k cls, r.entry p = .filling k cls := by
  rw [Remap.passesOver, Bool.or_eq_true, decide_eq_true_iff]
  refine or_congr_right ?_
  cases r.entry p <;> simp [CacheEntry.isFilling]

/-! ### The issue of a refill (R64, R69) -/

/-- What a refill issued into entry `e` changes. -/
theorem issueInto_eq (r : Remap) (e : Nat) (k : Key) (cls : SizeClass) :
    r.issueInto e k cls =
      { r with
        entries := r.entries.set e (.filling k cls)
        slot0 := if r.slot0 = none then some ⟨e, k⟩ else r.slot0
        slot1 := if r.slot0 = none then r.slot1 else some ⟨e, k⟩
        refills := satAdd r.refills 1 } := by
  rw [Remap.issueInto, Remap.occupy]
  cases h : r.slot0 <;> simp

theorem issue_pinned {r : Remap} {n : Nat} (h : n < r.pinned) (k : Key) (cls : SizeClass) :
    r.issue n k cls = r.issueInto n k cls := if_pos h

theorem issue_streamed {r : Remap} {n : Nat} (h : ¬ n < r.pinned) (k : Key) (cls : SizeClass) :
    r.issue n k cls =
      { r.issueInto (pickEntry r 40 r.pointer) k cls with pointer := stepDown r.pinned (pickEntry r 40 r.pointer) } :=
  if_neg h

/-- The entry that a refill for walk pair `n` is issued into. -/
def issueEntry (r : Remap) (n : Nat) : Nat := if n < r.pinned then n else pickEntry r 40 r.pointer

theorem issue_eq (r : Remap) (n : Nat) (k : Key) (cls : SizeClass) :
    r.issue n k cls =
      { r with
        entries := r.entries.set (issueEntry r n) (.filling k cls)
        slot0 := if r.slot0 = none then some ⟨issueEntry r n, k⟩ else r.slot0
        slot1 := if r.slot0 = none then r.slot1 else some ⟨issueEntry r n, k⟩
        refills := satAdd r.refills 1
        pointer := (r.issue n k cls).pointer } := by
  by_cases h : n < r.pinned
  · rw [issue_pinned h, issueInto_eq, issueEntry, if_pos h]
  · rw [issue_streamed h, issueInto_eq, issueEntry, if_neg h]

theorem issue_pointer_pinned {r : Remap} {n : Nat} (h : n < r.pinned) (k : Key) (cls : SizeClass) :
    (r.issue n k cls).pointer = r.pointer := by rw [issue_pinned h, issueInto_eq]

theorem issue_pointer_streamed {r : Remap} {n : Nat} (h : ¬ n < r.pinned) (k : Key) (cls : SizeClass) :
    (r.issue n k cls).pointer = stepDown r.pinned (issueEntry r n) := by
  rw [issue_streamed h, issueEntry, if_neg h]

/-- The entry of a streamed pair is the first from the pointer down that is not passed over. -/
theorem issueEntry_streamed {r : Remap} {n : Nat} (h : r.pinned ≤ n) (hlow : r.pinned ≤ r.pointer) (hhigh : r.pointer ≤ 39)
    (hfree : ∃ p, r.pinned ≤ p ∧ p ≤ 39 ∧ r.passesOver p = false) :
    r.passesOver (issueEntry r n) = false ∧
      ∃ j, issueEntry r n = Nat.repeat (stepDown r.pinned) j r.pointer ∧
        ∀ i, i < j → r.passesOver (Nat.repeat (stepDown r.pinned) i r.pointer) = true := by
  obtain ⟨p, hp, hp', hpass⟩ := hfree
  obtain ⟨j, hj, hreach⟩ := stepDown_reaches ⟨hlow, hhigh⟩ ⟨hp, hp'⟩
  rw [issueEntry, if_neg (by omega)]
  exact pickEntry_first r 40 ⟨j, hj, hreach.symm ▸ hpass⟩

/-- Settles O12: the four places a key is found in, and the entry and the slot of a refill. -/
theorem lookupsFindTheirRecords : Obligations.LookupsFindTheirRecords := by
  intro l n s
  refine ⟨fun w => ⟨fun hbuilt => lookupPair_builtIn hbuilt n w s, fun hstored => ⟨?_, ?_, fun habsent => ⟨?_, fun hstore => ⟨?_, ?_⟩⟩⟩⟩,
    fun hnone => sendLookahead_none hnone s, fun w hstored hw => ⟨?_, ?_⟩, fun key cls => ⟨issueEntry s.remap n, ?_, ?_, ?_⟩⟩
  · exact fun i cls even odd hentry halone => lookupPair_hit hstored n (look_hit hentry halone)
  · exact fun i cls hentry halone => lookupPair_filling hstored n (look_filling hentry halone)
  · intro before f after hfaulted hf hbefore
    have htaken : s.remap.takeFaulted (placeKey l w) = _ := takeFaulted_of_store hfaulted hf hbefore
    rw [lookupPair_faulted hstored n (look_faulted habsent hfaulted hf hbefore), htaken]
    rfl
  · intro hbusy
    rw [lookupPair_nowhere hstored n (look_absent habsent hstore), missPair, if_neg fun h => (slotFree_iff _).mp h hbusy]
    rfl
  · intro hfree
    rw [lookupPair_nowhere hstored n (look_absent habsent hstore), missPair, if_pos ((slotFree_iff _).mpr hfree)]
    rfl
  · intro hkept
    have hlook : s.remap.look (placeKey l w) ≠ .nowhere ∨ s.remap.slotFree = false := by
      rcases hkept with hentry | hstore | hbusy
      · exact .inl (look_of_held (.inl hentry))
      · exact .inl (look_of_held (.inr hstore))
      · exact .inr (Bool.eq_false_iff.mpr fun h => (slotFree_iff _).mp h hbusy)
    rw [sendLookahead_located hstored n hw, State.mapRemap, lookahead_kept n w.pane.cls hlook]
  · intro habsent hstore hfree
    rw [sendLookahead_located hstored n hw, State.mapRemap,
      lookahead_issues (k := placeKey l w) n w.pane.cls (look_absent habsent hstore) ((slotFree_iff _).mpr hfree)]
    rfl
  · exact issue_eq s.remap n key cls
  · exact fun hpinned => ⟨if_pos hpinned, issue_pointer_pinned hpinned key cls⟩
  · intro passed down hstreamed hlow hhigh hfree
    have hpassed : ∀ p, passed p ↔ s.remap.passesOver p = true := fun p => (passesOver_iff _ p).symm
    simp only [hpassed, Bool.not_eq_true] at hfree ⊢
    obtain ⟨htaken, j, hj, hbefore⟩ := issueEntry_streamed hstreamed hlow hhigh hfree
    exact ⟨issue_pointer_streamed (by omega) key cls, htaken, j, hj, hbefore⟩

end Sys2Proof.Machine
end

section
/-! PROOFS. Refill completions (R66, R67, R71): O28. -/

namespace Sys2Proof.Machine

/-! ### The slot, the entry and the waiting lookup -/

theorem freeSlotOf_entries (r : Remap) (slot : Fin 2) : (r.freeSlotOf slot).entries = r.entries := by
  match slot with
  | 0 | 1 => rfl

theorem freeSlotOf_entry (r : Remap) (slot : Fin 2) (e : Nat) : (r.freeSlotOf slot).entry e = r.entry e := by
  rw [Remap.entry, freeSlotOf_entries, Remap.entry]

theorem freeSlotOf_faulted (r : Remap) (slot : Fin 2) : (r.freeSlotOf slot).faulted = r.faulted := by
  match slot with
  | 0 | 1 => rfl

theorem freeSlotOf_fault (r : Remap) (slot : Fin 2) :
    (r.freeSlotOf slot).fault = r.fault ∧ (r.freeSlotOf slot).mapFaults = r.mapFaults := by
  match slot with
  | 0 | 1 => exact ⟨rfl, rfl⟩

theorem orphan_of_not_filling {r : Remap} {f : Refill} (h : ∀ cls, r.entry f.entry ≠ .filling f.key cls) :
    r.orphan f = true := by
  rw [Remap.orphan]
  cases hentry : r.entry f.entry with
  | empty | valid => rfl
  | filling k cls =>
    refine decide_eq_true fun heq => h cls ?_
    rw [hentry, heq]

theorem orphan_of_filling {r : Remap} {f : Refill} {cls : SizeClass} (h : r.entry f.entry = .filling f.key cls) :
    r.orphan f = false := by
  rw [Remap.orphan, h]
  simp

/-- The lookup of pair `n` of the stored layout `l` waits on a key (R62). -/
def WaitsOn (s : State) (k : Key) (l : Layout) (n : Nat) : Prop :=
  s.compositor.work = .waitFill n ∧ l.builtIn = false ∧
    (∃ ref, s.compositor.inEffect = some ref ∧ l = resolveLayout s.loaded ref) ∧
    ∃ w, locatePair l n = some w ∧ placeKey l w = k

theorem waitingFor_of_waits {s : State} {k : Key} {l : Layout} {n : Nat} (h : WaitsOn s k l n) :
    waitingFor s k = some (l, n) := by
  obtain ⟨hwork, hstored, ⟨ref, href, rfl⟩, w, hw, hkey⟩ := h
  have heffect : effectLayout s = some (resolveLayout s.loaded ref) := by rw [effectLayout, href]; rfl
  rw [waitingFor, hwork, heffect]
  simp only [hw, hkey, hstored, and_self, if_true]

theorem waits_of_waitingFor {s : State} {k : Key} {l : Layout} {n : Nat} (h : waitingFor s k = some (l, n)) :
    WaitsOn s k l n := by
  rw [waitingFor] at h
  split at h
  next m l' hwork heffect =>
    split at h
    next w hw =>
      split at h
      next hkey =>
        obtain ⟨rfl, rfl⟩ := Prod.mk.inj (Option.some.inj h)
        obtain ⟨ref, href, hl⟩ := Option.map_eq_some_iff.mp heffect
        exact ⟨hwork, hkey.2, ⟨ref, href, hl.symm⟩, w, hw, hkey.1⟩
      next => cases h
    next => cases h
  next => cases h

theorem waitingFor_none {s : State} {k : Key} (h : ∀ l n, ¬ WaitsOn s k l n) : waitingFor s k = none := by
  cases hw : waitingFor s k with
  | none => rfl
  | some p => exact absurd (waits_of_waitingFor hw) (h p.1 p.2)

theorem issueWaiting_of_work {s : State} (h : ∀ n, s.compositor.work ≠ .waitSlot n) : issueWaiting s = s := by
  rw [issueWaiting]
  cases hwork : s.compositor.work with
  | waitSlot n => exact absurd hwork (h n)
  | done | waitFill | drawing => rfl

theorem issueWaiting_waitSlot {s : State} {n : Nat} (h : s.compositor.work = .waitSlot n) :
    issueWaiting s = beginPair n s := by rw [issueWaiting, h]

/-- The lookahead changes the remap unit alone. -/
theorem sendLookahead_eq (l : Layout) (n : Nat) (s : State) :
    sendLookahead l n s = { s with remap := (sendLookahead l n s).remap } := by
  rw [sendLookahead]
  split
  next => rfl
  next => split <;> rfl

theorem sendLookahead_compositor (l : Layout) (n : Nat) (s : State) : (sendLookahead l n s).compositor = s.compositor := by
  rw [sendLookahead_eq]

/-- Nothing waits once a pair is being drawn. -/
theorem issueWaiting_startDrawing (l : Layout) (n : Nat) (even odd : MapRecord) (use : Option Nat) (s : State) :
    issueWaiting (startDrawing l n even odd use s) = startDrawing l n even odd use s := by
  refine issueWaiting_of_work fun m => ?_
  rw [startDrawing, sendLookahead_compositor]
  exact fun h => by cases h

/-! ### The fault (R67, R71) -/

theorem mapFault_remap (k : Key) (tile : FaultTile) (s : State) :
    (mapFault k tile s).remap =
      { s.remap with
        mapFaults := satAdd s.remap.mapFaults 1
        fault := if s.remap.fault.held then s.remap.fault else ⟨true, k, tile⟩ } := by
  rw [mapFault]
  cases h : s.remap.fault.held <;> rfl

theorem mapFault_keeps (k : Key) (tile : FaultTile) (s : State) : KeepsBut [.remap, .ports] s (mapFault k tile s) := by
  rw [mapFault]
  split
  · exact (mapRemap_keeps s _).mono (by decide)
  · have hremap : KeepsBut [.remap] s ((s.mapRemap fun r => { r with mapFaults := satAdd r.mapFaults 1 }).mapRemap fun r =>
        { r with fault := ⟨true, k, tile⟩ }) := (mapRemap_keeps s _).chain (mapRemap_keeps _ _)
    exact hremap.chain (raiseNotice_keeps .mapFault _)

theorem mapFault_notices (k : Key) (tile : FaultTile) (s : State) :
    NoticesOnly s (mapFault k tile s) ∧
      NoticesRaised (if s.remap.fault.held then [] else [.mapFault]) s (mapFault k tile s) := by
  rw [mapFault]
  split
  · exact ⟨NoticesOnly.of_ports rfl, NoticesRaised.of_ports rfl⟩
  · exact ⟨raiseNotice_noticesOnly .mapFault _, raiseNotice_raised .mapFault _⟩

theorem faultTile_eq {even odd : MapRecord} :
    faultTile even odd =
      if recordInvalid even = true ∧ recordInvalid odd = true then .both
      else if recordInvalid even = true then .even else .odd := by
  rw [faultTile]
  cases recordInvalid even <;> cases recordInvalid odd <;> rfl

theorem storeFaulted_eq (f : FaultedPair) (l : List FaultedPair) :
    storeFaulted f l = (if l.length < 2 then l else l.drop 1) ++ [f] := by
  rw [storeFaulted]
  by_cases h : l.length < 2
  · rw [if_pos h, if_neg (by omega)]
  · rw [if_neg h, if_pos (by omega)]

/-- The state after a faulted refill of a slot, before a waiting lookup takes the pair (R67). -/
def faultedRefill (slot : Fin 2) (f : Refill) (even odd : MapRecord) (s : State) : State :=
  mapFault f.key (faultTile even odd)
    { s with
      remap :=
        { s.remap.freeSlotOf slot with
          entries := s.remap.entries.set f.entry .empty
          faulted := storeFaulted ⟨f.key, even, odd⟩ s.remap.faulted } }

theorem faultedRefill_remap (slot : Fin 2) (f : Refill) (even odd : MapRecord) (s : State) :
    (faultedRefill slot f even odd s).remap =
      { s.remap.freeSlotOf slot with
        entries := s.remap.entries.set f.entry .empty
        faulted := (if s.remap.faulted.length < 2 then s.remap.faulted else s.remap.faulted.drop 1) ++ [⟨f.key, even, odd⟩]
        mapFaults := satAdd s.remap.mapFaults 1
        fault :=
          if s.remap.fault.held then s.remap.fault
          else
            ⟨true, f.key,
              if recordInvalid even = true ∧ recordInvalid odd = true then .both
              else if recordInvalid even = true then .even else .odd⟩ } := by
  obtain ⟨hfault, hcount⟩ := freeSlotOf_fault s.remap slot
  rw [faultedRefill, mapFault_remap, storeFaulted_eq, faultTile_eq]
  simp only [hfault, hcount]

theorem faultedRefill_keeps (slot : Fin 2) (f : Refill) (even odd : MapRecord) (s : State) :
    KeepsBut [.remap, .ports] s (faultedRefill slot f even odd s) :=
  (mapRemap_keeps s fun r =>
    { r.freeSlotOf slot with
      entries := r.entries.set f.entry .empty
      faulted := storeFaulted ⟨f.key, even, odd⟩ r.faulted }).chain (mapFault_keeps f.key (faultTile even odd) _)

theorem faultedRefill_notices (slot : Fin 2) (f : Refill) (even odd : MapRecord) (s : State) :
    NoticesOnly s (faultedRefill slot f even odd s) ∧
      NoticesRaised (if s.remap.fault.held then [] else [.mapFault]) s (faultedRefill slot f even odd s) := by
  rw [← (freeSlotOf_fault s.remap slot).1]
  exact mapFault_notices f.key (faultTile even odd) _

/-! ### The completion (R66) -/

/-- A lookup that waits on a key takes the pair from `u` by `take`; without one `u` stands (R66, R67). -/
def afterRefill (s : State) (k : Key) (even odd : MapRecord) (use : Option Nat) (u : State) (take : State → State) : State :=
  match waitingFor s k with
  | some (l, n) => startDrawing l n even odd use (take u)
  | none => u

theorem afterRefill_waiting {s : State} {k : Key} {l : Layout} {n : Nat} (h : WaitsOn s k l n) (even odd : MapRecord)
    (use : Option Nat) (u : State) (take : State → State) :
    afterRefill s k even odd use u take = startDrawing l n even odd use (take u) := by
  rw [afterRefill, waitingFor_of_waits h]

theorem afterRefill_none {s : State} {k : Key} (h : ∀ l n, ¬ WaitsOn s k l n) (even odd : MapRecord) (use : Option Nat)
    (u : State) (take : State → State) : afterRefill s k even odd use u take = u := by
  rw [afterRefill, waitingFor_none h]

section Completion

variable {s : State} {slot : Fin 2} {f : Refill}

theorem refillCompletion_eq (h : s.remap.slot slot = some f) :
    exec (.refillCompletion slot) s = completeRefill f { s with remap := s.remap.freeSlotOf slot } := by
  show execRefillCompletion slot s = _
  rw [execRefillCompletion, h]
  rfl

theorem refillCompletion_orphan (h : s.remap.slot slot = some f) (horphan : ∀ cls, s.remap.entry f.entry ≠ .filling f.key cls) :
    exec (.refillCompletion slot) s = .next (issueWaiting { s with remap := s.remap.freeSlotOf slot }) := by
  rw [refillCompletion_eq h]
  refine if_pos (orphan_of_not_filling fun cls => ?_)
  rw [freeSlotOf_entry]
  exact horphan cls

variable {cls : SizeClass} (h : s.remap.slot slot = some f) (hfilling : s.remap.entry f.entry = .filling f.key cls)

include h hfilling

theorem refillCompletion_fault (hfetch : fetchPair s.loaded f.key = none) :
    exec (.refillCompletion slot) s = .fault (.outsideMapArea f.key) := by
  have horphan : (s.remap.freeSlotOf slot).orphan f = false := orphan_of_filling ((freeSlotOf_entry _ _ _).trans hfilling)
  rw [refillCompletion_eq h, completeRefill, if_neg (by simp [horphan])]
  simp only [hfetch]

variable {even odd : MapRecord} (hfetch : fetchPair s.loaded f.key = some (even, odd))

include hfetch

theorem refillCompletion_fetched :
    exec (.refillCompletion slot) s =
      .next (issueWaiting (completeFetched f even odd { s with remap := s.remap.freeSlotOf slot })) := by
  have horphan : (s.remap.freeSlotOf slot).orphan f = false := orphan_of_filling ((freeSlotOf_entry _ _ _).trans hfilling)
  rw [refillCompletion_eq h, completeRefill, if_neg (by simp [horphan])]
  simp only [hfetch]

/-- A refill of two valid records fills its entry; a lookup that waits on it begins rendering. -/
theorem refillCompletion_valid (heven : recordInvalid even = false) (hodd : recordInvalid odd = false) :
    exec (.refillCompletion slot) s =
      .next (issueWaiting (afterRefill s f.key even odd (some f.entry)
        { s with
          remap := { s.remap.freeSlotOf slot with entries := s.remap.entries.set f.entry (.valid f.key cls even odd) } }
        fun u => u)) := by
  have hclass : ((s.remap.freeSlotOf slot).entry f.entry).classOf = cls := by rw [freeSlotOf_entry, hfilling]; rfl
  rw [refillCompletion_fetched h hfilling hfetch, completeFetched, if_neg (by simp [heven, hodd]), completeValid]
  simp only [hclass, State.mapRemap, freeSlotOf_entries]
  rfl

/-- A faulted refill empties its entry, stores the pair and is a map fault; a lookup that waits on it takes the pair. -/
theorem refillCompletion_faulted (hinvalid : recordInvalid even = true ∨ recordInvalid odd = true) :
    exec (.refillCompletion slot) s =
      .next (issueWaiting (afterRefill s f.key even odd none (faultedRefill slot f even odd s)
        fun u => u.mapRemap fun r => r.takeFaulted f.key)) := by
  rw [refillCompletion_fetched h hfilling hfetch, completeFetched, if_pos (by simpa using hinvalid), completeFaulted]
  simp only [State.mapRemap, freeSlotOf_entries, freeSlotOf_faulted]
  rfl

end Completion

/-- Settles O28: an orphan, two valid records, or a map fault; and what waited goes on. -/
theorem refillCompletes : Obligations.RefillCompletes := by
  intro slot f even odd s hslot again waits stored faulted
  have hagain : ∀ u : State, u.compositor = s.compositor → u.loaded = s.loaded → issueWaiting u = again u := by
    intro u hc hl
    have heffect : effectLayout u = s.compositor.inEffect.map (resolveLayout s.loaded) := by rw [effectLayout, hc, hl]
    show _ = match s.compositor.work with | .waitSlot n => _ | _ => u
    cases hwork : s.compositor.work with
    | waitSlot n =>
      rw [issueWaiting_waitSlot (by rw [hc, hwork]), beginPair, heffect]
      cases s.compositor.inEffect with
      | none => rfl
      | some ref =>
        simp only [Option.map_some, Option.bind_some]
        cases locatePair (resolveLayout s.loaded ref) n <;> rfl
    | done | waitFill | drawing => exact issueWaiting_of_work fun n => by rw [hc, hwork]; exact fun hw => by cases hw
  refine ⟨fun horphan => ?_, fun cls hfilling hfetch => refillCompletion_fault hslot hfilling hfetch,
    fun cls hfilling hfetch => ⟨fun heven hodd => ⟨fun hnone => ?_, fun l n hwaits => ?_⟩,
      fun hinvalid => ⟨fun hnone => ?_, fun l n hwaits => ?_⟩⟩⟩
  · rw [refillCompletion_orphan hslot horphan]
    exact congrArg _ (hagain _ rfl rfl)
  · rw [refillCompletion_valid hslot hfilling hfetch heven hodd, afterRefill_none hnone]
    exact congrArg _ (hagain _ rfl rfl)
  · rw [refillCompletion_valid hslot hfilling hfetch heven hodd, afterRefill_waiting hwaits,
      issueWaiting_startDrawing]
    rfl
  · have hkeeps := faultedRefill_keeps slot f even odd s
    obtain ⟨honly, hraised⟩ := faultedRefill_notices slot f even odd s
    refine ⟨faultedRefill slot f even odd s, ?_, faultedRefill_remap slot f even odd s, honly, hraised, hkeeps⟩
    rw [refillCompletion_faulted hslot hfilling hfetch hinvalid, afterRefill_none hnone]
    exact congrArg _ (hagain _ (hkeeps .compositor (by decide)) (hkeeps .loaded (by decide)))
  · have hkeeps := faultedRefill_keeps slot f even odd s
    have hcompositor : (faultedRefill slot f even odd s).compositor = s.compositor := hkeeps .compositor (by decide)
    have hremap := faultedRefill_remap slot f even odd s
    obtain ⟨honly, hraised⟩ := faultedRefill_notices slot f even odd s
    refine ⟨setWork (.drawing n even odd) ((faultedRefill slot f even odd s).mapRemap fun r =>
      { r.takeFaulted f.key with inUse := none }), ?_, ?_, ?_, honly, hraised, ?_⟩
    · rw [refillCompletion_faulted hslot hfilling hfetch hinvalid, afterRefill_waiting hwaits,
        issueWaiting_startDrawing]
      rfl
    · show ({ (faultedRefill slot f even odd s).remap.takeFaulted f.key with inUse := none } : Remap) = _
      rw [hremap]
      rfl
    · show ({ (faultedRefill slot f even odd s).compositor with work := .drawing n even odd } : Compositor) = _
      rw [hcompositor]
    · have htaken : KeepsBut [.remap, .ports] s ((faultedRefill slot f even odd s).mapRemap fun r =>
        { r.takeFaulted f.key with inUse := none }) := hkeeps.chain (mapRemap_keeps _ _)
      exact htaken.chain (mapCompositor_keeps _ _)

end Sys2Proof.Machine
end

section
/-! PROOFS. Pairs, tiles and the first-frame report (R55, R79, R81, R144): O27. -/

namespace Sys2Proof.Machine

/-! ### Pairs of a layout's walk (R55) -/

theorem foldl_pairs (ps : List Pane) (a : Nat) :
    ps.foldl (fun n p => n + p.pairs) a = a + ps.foldl (fun n p => n + p.pairs) 0 := by
  induction ps generalizing a with
  | nil => rfl
  | cons p ps ih =>
    rw [List.foldl_cons, ih, List.foldl_cons, ih (0 + p.pairs)]
    omega

theorem locateFrom_some (ps : List Pane) {n : Nat} (k : Nat) (h : n < ps.foldl (fun n p => n + p.pairs) 0) :
    ∃ w, locateFrom k ps n = some w := by
  induction ps generalizing n k with
  | nil => exact absurd h (Nat.not_lt_zero n)
  | cons p ps ih =>
    rw [locateFrom]
    by_cases hn : n < p.pairs
    · exact ⟨_, if_pos hn⟩
    · rw [if_neg hn]
      rw [List.foldl_cons, foldl_pairs] at h
      exact ih (k + 1) (by omega)

theorem locatePair_some {l : Layout} {n : Nat} (h : n < l.pairs) : ∃ w, locatePair l n = some w :=
  locateFrom_some l.panes 0 h

/-- A located pair is one of its pane's pairs. -/
theorem locateFrom_pair {ps : List Pane} {n k : Nat} {w : PairPlace} (h : locateFrom k ps n = some w) :
    w.pair < w.pane.pairs := by
  induction ps generalizing n k with
  | nil => cases h
  | cons p ps ih =>
    rw [locateFrom] at h
    by_cases hn : n < p.pairs
    · rw [if_pos hn] at h
      cases h
      exact hn
    · rw [if_neg hn] at h
      exact ih h

theorem locatePair_pair {l : Layout} {n : Nat} {w : PairPlace} (h : locatePair l n = some w) : w.pair < w.pane.pairs :=
  locateFrom_pair h

theorem pairWidth_eq (k : SizeClass) : k.pairWidth = 2 * k.tile := by cases k <;> rfl

/-- A pair's tiles lie inside their pane, from left to right. -/
theorem tileOrigin_fits {p : Pane} {pair : Nat} (h : pair < p.pairs) (side : TileSide) :
    (tileOrigin p pair side).1 + p.cls.tile ≤ p.width := by
  have hcolumns : 0 < p.columns := by
    rcases Nat.eq_zero_or_pos p.columns with hzero | hpos
    · rw [Pane.pairs, hzero, Nat.zero_mul] at h
      exact absurd h (Nat.not_lt_zero pair)
    · exact hpos
  have hcolumn : p.cls.pairWidth * (pair % p.columns) + p.cls.pairWidth ≤ p.width :=
    calc p.cls.pairWidth * (pair % p.columns) + p.cls.pairWidth
        = p.cls.pairWidth * (pair % p.columns + 1) := by rw [Nat.mul_succ]
      _ ≤ p.cls.pairWidth * p.columns := Nat.mul_le_mul_left _ (Nat.mod_lt pair hcolumns)
      _ ≤ p.width := Nat.mul_div_le p.width p.cls.pairWidth
  have htile := pairWidth_eq p.cls
  cases side
  · show p.cls.pairWidth * (pair % p.columns) + p.cls.tile ≤ p.width
    omega
  · show p.cls.pairWidth * (pair % p.columns) + p.cls.pairWidth / 2 + p.cls.tile ≤ p.width
    omega

/-! ### Tiles in the output store (R79) -/

/-- A tile that ends before the end of the screen's rows. -/
def TileFits (w : PairPlace) (side : TileSide) : Prop :=
  w.pane.left + (tileOrigin w.pane w.pair side).1 + w.pane.cls.tile ≤ 1280

theorem tileAddress_inj {w : PairPlace} {side : TileSide} (h : TileFits w side) {i j i' j' : Nat}
    (hi : i < w.pane.cls.tile) (hi' : i' < w.pane.cls.tile) (heq : tileAddress w side i j = tileAddress w side i' j') :
    i = i' ∧ j = j' := by
  unfold TileFits at h
  unfold tileAddress screenAddress at heq
  omega

/-- The two tiles of a pair share no pixel. -/
theorem tileAddress_sides {w : PairPlace} (h : TileFits w .odd) {i j i' j' : Nat} (hi : i < w.pane.cls.tile)
    (hi' : i' < w.pane.cls.tile) : tileAddress w .even i j ≠ tileAddress w .odd i' j' := by
  have htile := pairWidth_eq w.pane.cls
  unfold TileFits at h
  unfold tileAddress screenAddress
  unfold tileOrigin at h ⊢
  dsimp only at h ⊢
  intro heq
  omega

theorem mem_tileEntries {w : PairPlace} {side : TileSide} {n : Nat} {f : Nat → Nat → Pixel} {e : Nat × Pixel} :
    e ∈ tileEntries w side n f ↔ ∃ i j, i < n ∧ j < n ∧ e = (tileAddress w side i j, f i j) := by
  simp only [tileEntries, List.mem_flatten, List.mem_map, List.mem_range]
  constructor
  · rintro ⟨_, ⟨j, hj, rfl⟩, hmem⟩
    obtain ⟨i, hi, rfl⟩ := List.mem_map.mp hmem
    exact ⟨i, j, List.mem_range.mp hi, hj, rfl⟩
  · rintro ⟨i, j, hi, hj, rfl⟩
    exact ⟨_, ⟨j, hj, rfl⟩, List.mem_map.mpr ⟨i, List.mem_range.mpr hi, rfl⟩⟩

section Store

variable {store : List (Nat × Pixel)} (hwf : sparseWf blackPixel store = true) (w : PairPlace) (side : TileSide)
  (f : Nat → Nat → Pixel)

include hwf

/-- A pixel of a tile that is written is the tile's. -/
theorem writeTile_inside (hfits : TileFits w side) {i j : Nat} (hi : i < w.pane.cls.tile) (hj : j < w.pane.cls.tile) :
    sparseRead blackPixel (writeTile store w side f) (tileAddress w side i j) = f i j := by
  rw [writeTile, sparseRead_writeAll hwf, lastWrite_of_forall (v := f i j) (mem_tileEntries.mpr ⟨i, j, hi, hj, rfl⟩)]
  · rfl
  · intro p hp hpa
    obtain ⟨i', j', hi', _, rfl⟩ := mem_tileEntries.mp hp
    obtain ⟨rfl, rfl⟩ := tileAddress_inj hfits hi' hi hpa
    rfl

/-- A pixel outside a tile that is written stands. -/
theorem writeTile_outside {a : Nat}
    (ha : ∀ i j, i < w.pane.cls.tile → j < w.pane.cls.tile → a ≠ tileAddress w side i j) :
    sparseRead blackPixel (writeTile store w side f) a = sparseRead blackPixel store a := by
  rw [writeTile, sparseRead_writeAll hwf, lastWrite_none]
  · rfl
  · intro p hp hpa
    obtain ⟨i, j, hi, hj, rfl⟩ := mem_tileEntries.mp hp
    exact ha i j hi hj hpa.symm

end Store

/-- The output store after both tiles of a pair. -/
theorem renderPair_store {s : State} (hwf : sparseWf blackPixel s.compositor.store = true) (snap : Snapshot) (ref : LayoutRef)
    (w : PairPlace) (even odd : MapRecord) (heven : TileFits w .even) (hodd : TileFits w .odd) :
    (∀ i j, i < w.pane.cls.tile → j < w.pane.cls.tile →
      sparseRead blackPixel (renderPair snap ref w even odd s).compositor.store (tileAddress w .even i j) =
          tilePixel s snap ref w .even even i j ∧
        sparseRead blackPixel (renderPair snap ref w even odd s).compositor.store (tileAddress w .odd i j) =
          tilePixel s snap ref w .odd odd i j) ∧
    ∀ a, (∀ i j, i < w.pane.cls.tile → j < w.pane.cls.tile →
        a ≠ tileAddress w .even i j ∧ a ≠ tileAddress w .odd i j) →
      sparseRead blackPixel (renderPair snap ref w even odd s).compositor.store a =
        sparseRead blackPixel s.compositor.store a := by
  have hfirst := writeTile_wf w .even (tilePixel s snap ref w .even even) hwf
  refine ⟨fun i j hi hj => ⟨?_, ?_⟩, fun a ha => ?_⟩
  · exact (writeTile_outside hfirst w .odd _ fun i' j' hi' _ => tileAddress_sides hodd hi hi').trans
      (writeTile_inside hwf w .even _ heven hi hj)
  · exact writeTile_inside hfirst w .odd _ hodd hi hj
  · exact (writeTile_outside hfirst w .odd _ fun i j hi hj => (ha i j hi hj).2).trans
      (writeTile_outside hwf w .even _ fun i j hi hj => (ha i j hi hj).1)

/-! ### A lookup reads the remap unit alone -/

theorem sendLookahead_remap_congr (l : Layout) (n : Nat) {s u : State} (h : u.remap = s.remap) :
    (sendLookahead l n u).remap = (sendLookahead l n s).remap := by
  rw [sendLookahead, sendLookahead]
  split
  next => exact h
  next => split <;> simp only [State.mapRemap, h]

theorem startDrawing_eq (l : Layout) (n : Nat) (even odd : MapRecord) (use : Option Nat) (s : State) :
    startDrawing l n even odd use s =
      { s with
        remap := (startDrawing l n even odd use s).remap
        compositor := { s.compositor with work := .drawing n even odd } } := by
  rw [startDrawing, sendLookahead_eq]
  rfl

theorem startDrawing_congr (l : Layout) (n : Nat) (even odd : MapRecord) (use : Option Nat) {s u : State}
    (h : u.remap = s.remap) :
    (startDrawing l n even odd use u).remap = (startDrawing l n even odd use s).remap ∧
      (startDrawing l n even odd use u).compositor.work = (startDrawing l n even odd use s).compositor.work := by
  refine ⟨sendLookahead_remap_congr l (n + 1) ?_, ?_⟩
  · show ({ u.remap with inUse := use } : Remap) = { s.remap with inUse := use }
    rw [h]
  · rw [startDrawing_eq, startDrawing_eq l n even odd use s]

theorem missPair_eq (n : Nat) (k : Key) (cls : SizeClass) (s : State) :
    missPair n k cls s =
      { s with
        remap := (missPair n k cls s).remap
        compositor := { s.compositor with work := (missPair n k cls s).compositor.work } } := by
  rw [missPair]
  split <;> rfl

theorem missPair_congr (n : Nat) (k : Key) (cls : SizeClass) {s u : State} (h : u.remap = s.remap) :
    (missPair n k cls u).remap = (missPair n k cls s).remap ∧
      (missPair n k cls u).compositor.work = (missPair n k cls s).compositor.work := by
  rw [missPair, missPair, h]
  split
  · exact ⟨congrArg (fun r => Remap.issue r n k cls) h, rfl⟩
  · exact ⟨h, rfl⟩

/-- A lookup changes the remap unit and what rendering stands at. -/
theorem lookupPair_eq (l : Layout) (n : Nat) (w : PairPlace) (s : State) :
    lookupPair l n w s =
      { s with
        remap := (lookupPair l n w s).remap
        compositor := { s.compositor with work := (lookupPair l n w s).compositor.work } } := by
  cases hbuilt : l.builtIn with
  | true =>
    rw [lookupPair_builtIn hbuilt, startDrawing_eq]
  | false =>
    cases hlook : s.remap.look (placeKey l w) with
    | hit i even odd => rw [lookupPair_hit hbuilt n hlook, startDrawing_eq]
    | filling => rw [lookupPair_filling hbuilt n hlook]; rfl
    | faulted even odd => rw [lookupPair_faulted hbuilt n hlook, startDrawing_eq]
    | nowhere => rw [lookupPair_nowhere hbuilt n hlook, missPair_eq]

theorem lookupPair_congr (l : Layout) (n : Nat) (w : PairPlace) {s u : State} (h : u.remap = s.remap) :
    (lookupPair l n w u).remap = (lookupPair l n w s).remap ∧
      (lookupPair l n w u).compositor.work = (lookupPair l n w s).compositor.work := by
  cases hbuilt : l.builtIn with
  | true =>
    rw [lookupPair_builtIn hbuilt, lookupPair_builtIn hbuilt]
    exact startDrawing_congr l n _ _ none h
  | false =>
    cases hlook : s.remap.look (placeKey l w) with
    | hit i even odd =>
      rw [lookupPair_hit hbuilt n hlook, lookupPair_hit hbuilt n (h ▸ hlook)]
      exact startDrawing_congr l n even odd (some i) h
    | filling =>
      rw [lookupPair_filling hbuilt n hlook, lookupPair_filling hbuilt n (h ▸ hlook)]
      exact ⟨h, rfl⟩
    | faulted even odd =>
      rw [lookupPair_faulted hbuilt n hlook, lookupPair_faulted hbuilt n (h ▸ hlook)]
      exact startDrawing_congr l n even odd none (congrArg (fun r => Remap.takeFaulted r (placeKey l w)) h)
    | nowhere =>
      rw [lookupPair_nowhere hbuilt n hlook, lookupPair_nowhere hbuilt n (h ▸ hlook)]
      exact missPair_congr n _ _ h

/-! ### The first-frame report (R81, R144) -/

/-- The arbiter after a first-frame report. -/
def arbiterReported (s : State) : Arbiter :=
  if s.arbiter.state = .firstFrame then
    if s.loaded.ports.dwell = 0 then
      if s.mode = .running then decideArbiter { s.arbiter with state := .settled, dwell := 0 }
      else { s.arbiter with state := .settled, dwell := 0 }
    else { s.arbiter with state := .dwell, dwell := s.loaded.ports.dwell }
  else s.arbiter

/-- The record of a first-frame report (R147). -/
def viewRecord (s : State) : EventRecord := .view s.compositor.inEffect (winningSource s.arbiter)

/-- The notice and the record of a first-frame report. -/
def reportedState (s : State) : State :=
  offerRecord (viewRecord s) (raiseNotice .viewChanged (s.mapCompositor fun k => { k with reportPending := false }))

theorem firstFrameReport_cases (s : State) :
    firstFrameReport s =
      if s.arbiter.state = .firstFrame ∧ s.loaded.ports.dwell = 0 then
        decisionEvent ((reportedState s).mapArbiter (reportedArbiter s.loaded.ports.dwell))
      else (reportedState s).mapArbiter (reportedArbiter s.loaded.ports.dwell) := rfl

theorem reportedState_keeps (s : State) : KeepsBut [.compositor, .ports, .incident] s (reportedState s) := by
  have hraised : KeepsBut [.compositor, .ports] s
      (raiseNotice .viewChanged (s.mapCompositor fun k => { k with reportPending := false })) :=
    (mapCompositor_keeps s _).chain (raiseNotice_keeps _ _)
  exact hraised.chain (offerRecord_keeps _ _)

theorem firstFrameReport_arbiter (s : State) : (firstFrameReport s).arbiter = arbiterReported s := by
  have harbiter : (reportedState s).arbiter = s.arbiter := reportedState_keeps s .arbiter (by decide)
  have hloader : (reportedState s).loader = s.loader := reportedState_keeps s .loader (by decide)
  rw [firstFrameReport_cases, arbiterReported]
  by_cases hstate : s.arbiter.state = .firstFrame
  · by_cases hdwell : s.loaded.ports.dwell = 0
    · rw [if_pos ⟨hstate, hdwell⟩, if_pos hstate, if_pos hdwell, decisionEvent_arbiter]
      simp only [State.mapArbiter, State.mode, harbiter, hloader, reportedArbiter, if_pos hstate, if_pos hdwell]
      rfl
    · rw [if_neg fun h => hdwell h.2, if_pos hstate, if_neg hdwell]
      simp only [State.mapArbiter, harbiter, reportedArbiter, if_pos hstate, if_neg hdwell]
  · rw [if_neg fun h => hstate h.1, if_neg hstate]
    simp only [State.mapArbiter, harbiter, reportedArbiter, if_neg hstate]

/-- A first-frame report is its notice and its record, and the arbiter's move. -/
theorem firstFrameReport_eq (s : State) :
    firstFrameReport s = { reportedState s with arbiter := arbiterReported s } := by
  have harbiter := firstFrameReport_arbiter s
  rw [← harbiter]
  rw [firstFrameReport_cases]
  split
  · rw [decisionEvent]
    split <;> rfl
  · rfl

theorem firstFrameReport_compositor (s : State) :
    (firstFrameReport s).compositor = { s.compositor with reportPending := false } := by
  rw [firstFrameReport_eq]
  exact offerRecord_compositor _ _

theorem firstFrameReport_remap (s : State) : (firstFrameReport s).remap = s.remap := by
  rw [firstFrameReport_eq]
  exact reportedState_keeps s .remap (by decide)

theorem firstFrameReport_incident (s : State) : (firstFrameReport s).incident = (offerRecord (viewRecord s) s).incident := by
  rw [firstFrameReport_eq]
  exact offerRecord_incident_congr rfl rfl rfl rfl rfl rfl rfl rfl

theorem firstFrameReport_keeps (s : State) : KeepsBut [.arbiter, .compositor, .incident, .ports] s (firstFrameReport s) := by
  rw [firstFrameReport_eq]
  exact (reportedState_keeps s).chain (mapArbiter_keeps _ fun _ => arbiterReported s)

theorem firstFrameReport_notices (s : State) :
    NoticesOnly s (firstFrameReport s) ∧ NoticesRaised [.viewChanged] s (firstFrameReport s) := by
  obtain ⟨honly, hraised⟩ := offerRecord_ports (viewRecord s)
    (raiseNotice .viewChanged (s.mapCompositor fun k => { k with reportPending := false }))
  rw [firstFrameReport_eq]
  exact ⟨(raiseNotice_noticesOnly .viewChanged (s.mapCompositor fun k => { k with reportPending := false })).trans honly,
    (raiseNotice_raised .viewChanged (s.mapCompositor fun k => { k with reportPending := false })).trans hraised rfl⟩

/-! ### The end of a pair (R79, R81) -/

theorem effectLayout_some {s : State} {ref : LayoutRef} (h : s.compositor.inEffect = some ref) :
    effectLayout s = some (resolveLayout s.loaded ref) := by
  rw [effectLayout, h]
  rfl

theorem beginPair_located {s : State} {l : Layout} {n : Nat} {w : PairPlace} (heffect : effectLayout s = some l)
    (hw : locatePair l n = some w) : beginPair n s = lookupPair l n w s := by
  rw [beginPair, heffect]
  simp only [hw]

theorem nextPair_further {s : State} {l : Layout} {n : Nat} {w : PairPlace} (heffect : effectLayout s = some l)
    (hn : n + 1 < l.pairs) (hw : locatePair l (n + 1) = some w) : nextPair n s = lookupPair l (n + 1) w s := by
  rw [nextPair, heffect]
  exact (if_pos hn).trans (beginPair_located heffect hw)

theorem nextPair_last {s : State} {l : Layout} {n : Nat} (heffect : effectLayout s = some l) (hn : l.pairs ≤ n + 1) :
    nextPair n s = reportIfPending (setWork .done s) := by
  rw [nextPair, heffect]
  exact if_neg (by omega)

theorem finishPair_eq {s : State} {n : Nat} {even odd : MapRecord} {ref : LayoutRef} {snap : Snapshot} {w : PairPlace}
    (hwork : s.compositor.work = .drawing n even odd) (href : s.compositor.inEffect = some ref)
    (hsnap : s.compositor.snapshot = some snap) (hw : locatePair (resolveLayout s.loaded ref) n = some w) :
    finishPair s = nextPair n (renderPair snap ref w even odd s) := by
  rw [finishPair, hwork, href, hsnap]
  simp only [hw]

/-- Settles O27: both tiles are written, and the next pair is looked up or the frame is complete. -/
theorem pairRenderedWritesItsTiles : Obligations.PairRenderedWritesItsTiles := by
  intro n even odd ref snap w s hwork href hsnap hw hpane hmemory
  have hfits : ∀ side, TileFits w side := fun side => by
    have hinside := tileOrigin_fits (locatePair_pair hw) side
    unfold TileFits
    omega
  have hwf : sparseWf blackPixel s.compositor.store = true := by
    simp only [memoryCanonical, Bool.and_eq_true] at hmemory
    exact hmemory.1.1.2
  obtain ⟨htiles, hothers⟩ := renderPair_store hwf snap ref w even odd (hfits .even) (hfits .odd)
  have heffect : effectLayout (renderPair snap ref w even odd s) = some (resolveLayout s.loaded ref) :=
    effectLayout_some (s := renderPair snap ref w even odd s) href
  have hfinish : exec .pairRendered s = .next (nextPair n (renderPair snap ref w even odd s)) :=
    congrArg Host.Outcome.next (finishPair_eq hwork href hsnap hw)
  by_cases hn : n + 1 < (resolveLayout s.loaded ref).pairs
  · obtain ⟨v, hv⟩ := locatePair_some hn
    obtain ⟨hremap, hnext⟩ := lookupPair_congr (resolveLayout s.loaded ref) (n + 1) v
      (s := s) (u := renderPair snap ref w even odd s) rfl
    rw [nextPair_further heffect hn hv, lookupPair_eq] at hfinish
    refine ⟨_, hfinish, htiles, hothers, fun _ => ⟨rfl, ?_, v, hv, hnext, hremap⟩, fun hlast => absurd hn (by omega),
      rfl, NoticesOnly.refl _, ⟨fun _ => rfl, fun _ => rfl⟩, fun _ _ _ => rfl, ?_⟩
    · intro b hb
      cases b <;> first | exact absurd (by decide) hb | rfl
    · intro b hb
      cases b <;> first | exact absurd (by decide) hb | rfl
  · rw [nextPair_last heffect (by omega)] at hfinish
    have hdone : KeepsBut [.compositor] s (setWork .done (renderPair snap ref w even odd s)) :=
      (mapCompositor_keeps s _).chain (mapCompositor_keeps _ _)
    cases hpending : s.compositor.reportPending with
    | false =>
      have hstands : reportIfPending (setWork .done (renderPair snap ref w even odd s)) =
          setWork .done (renderPair snap ref w even odd s) := if_neg (Bool.eq_false_iff.mp hpending)
      rw [hstands] at hfinish
      exact ⟨_, hfinish, htiles, hothers, fun hlt => absurd hlt hn,
        fun _ => ⟨rfl, hpending, rfl, fun _ => hdone, fun h => absurd h (by simp)⟩, rfl, NoticesOnly.refl _,
        ⟨fun _ => rfl, fun _ => rfl⟩, fun _ _ _ => rfl, hdone.mono (by decide)⟩
    | true =>
      have hreports : reportIfPending (setWork .done (renderPair snap ref w even odd s)) =
          firstFrameReport (setWork .done (renderPair snap ref w even odd s)) := if_pos hpending
      rw [hreports] at hfinish
      generalize hu : setWork .done (renderPair snap ref w even odd s) = u at hfinish hdone
      have hcompositor := firstFrameReport_compositor u
      have harbiter := firstFrameReport_arbiter u
      have hkeeps := firstFrameReport_keeps u
      obtain ⟨honly, hraised⟩ := firstFrameReport_notices u
      have hall : KeepsBut [.arbiter, .remap, .compositor, .incident, .ports] s (firstFrameReport u) := hdone.chain hkeeps
      have hrecord : (offerRecord (viewRecord u) u).incident =
          (offerRecord (.view (some ref) (winningSource s.arbiter)) s).incident := by
        subst hu
        rw [← href]
        exact offerRecord_incident_congr rfl rfl rfl rfl rfl rfl rfl rfl
      have hflash : (firstFrameReport u).flash = s.flash := hall .flash (by decide)
      have hloaded : (firstFrameReport u).loaded = s.loaded := hall .loaded (by decide)
      have hintake : (firstFrameReport u).intake = s.intake := hall .intake (by decide)
      have hreported : arbiterReported u = arbiterReported s := by subst hu; rfl
      have hports : u.ports = s.ports := hdone .ports (by decide)
      have hstore : (firstFrameReport u).compositor.store = (renderPair snap ref w even odd s).compositor.store := by
        rw [hcompositor]
        subst hu
        rfl
      refine ⟨_, hfinish, hstore ▸ htiles, hstore ▸ hothers, fun hlt => absurd hlt hn,
        fun _ => ⟨?_, ?_, ?_, fun h => absurd h (by simp), fun _ => ⟨?_, ?_, ?_, ?_, ?_⟩⟩, ?_, ?_,
        ⟨fun _ => by rw [hflash], fun _ => by rw [hloaded]⟩, fun _ _ _ => by rw [hintake], hall⟩
      · rw [hcompositor]; subst hu; rfl
      · rw [hcompositor]
      · rw [firstFrameReport_remap]; subst hu; rfl
      · subst hu
        exact hraised
      · exact (firstFrameReport_incident u).trans hrecord
      · exact fun hstate => (harbiter.trans hreported).trans (if_neg hstate)
      · exact fun hstate hdwell => (harbiter.trans hreported).trans ((if_pos hstate).trans (if_neg hdwell))
      · exact fun hstate hdwell => (harbiter.trans hreported).trans ((if_pos hstate).trans (if_pos hdwell))
      · rw [hcompositor]; subst hu; rfl
      · exact (NoticesOnly.of_ports hports).trans honly

end Sys2Proof.Machine
end

section
/-! PROOFS. The steps of an output frame start (R77), and the starting picture (R78): O25. -/

namespace Sys2Proof.Machine

/-! ### Steps that each name what they change -/

theorem dwellIf_keeps (b : Bool) (s : State) : KeepsBut [.arbiter] s (dwellIf b s) := by
  rw [dwellIf]
  split
  · rw [countDwell]
    split
    · split
      · exact (mapArbiter_keeps s _).chain (decisionEvent_keeps _)
      · exact mapArbiter_keeps s _
    · exact KeepsBut.refl _ s
  · exact KeepsBut.refl _ s

theorem dwellIf_false (s : State) : dwellIf false s = s := rfl

theorem countdownIf_keeps (b : Bool) (before : Quad TriggerState) (s : State) :
    KeepsBut [.incident, .ports] s (countdownIf b before s) := by
  rw [countdownIf]
  split
  · exact countTriggers_keeps before s
  · exact KeepsBut.refl _ s

theorem countdownIf_of_starting {s : State} (h : s.mode = .starting) (b : Bool) (before : Quad TriggerState) :
    countdownIf b before s = s := by
  rw [countdownIf, countTriggers_of_starting h]
  split <;> rfl

theorem frameBegun_keeps (s : State) : KeepsBut [.frame, .draws] s (frameBegun s) := by
  intro b hb
  cases b <;> first | exact absurd (by decide) hb | rfl

/-- The adoption of a target, block by block. -/
theorem adopt_eq (t : SwitchTarget) (s : State) :
    adopt t s =
      { s with
        ports := (noteShown t.layout s).ports
        compositor := (adoptLayout t s).compositor
        remap := takeEffect (resolveLayout s.loaded t.layout) s.remap
        arbiter := adoptTarget t s.arbiter } := by
  rw [adopt, noteShown]
  split <;> rfl

/-- The output store after an adoption: the layout's background in palette colour 0 (R79). -/
def adoptedStore (t : SwitchTarget) (s : State) : List (Nat × Pixel) :=
  sparseWriteAll blackPixel s.compositor.store
    (backgroundEntries (resolveLayout s.loaded t.layout) (colourOf s.loaded.palette 0))

theorem adoptLayout_compositor (t : SwitchTarget) (s : State) :
    (adoptLayout t s).compositor =
      { s.compositor with
        mode := .layout
        inEffect := some t.layout
        adoptedAt := s.frame
        reportPending := true
        store := adoptedStore t s } := by
  unfold adoptLayout adoptedStore
  dsimp only
  generalize backgroundEntries (resolveLayout s.loaded t.layout) (colourOf s.loaded.palette 0) = background
  rfl

theorem adoptStep_some {s : State} {t : SwitchTarget} (h : adoptable s = some t) :
    adoptStep s = adopt t (s.mapRemap frameStartRemap) := by
  rw [adoptStep, show adoptable (s.mapRemap frameStartRemap) = some t from h]

theorem adoptStep_none {s : State} (h : adoptable s = none) : adoptStep s = s.mapRemap frameStartRemap := by
  rw [adoptStep, show adoptable (s.mapRemap frameStartRemap) = none from h]

theorem adopt_keeps (t : SwitchTarget) (s : State) : KeepsBut [.ports, .compositor, .remap, .arbiter] s (adopt t s) := by
  rw [adopt_eq]
  intro b hb
  cases b <;> first | exact absurd (by decide) hb | rfl

theorem adoptStep_keeps (s : State) : KeepsBut [.ports, .compositor, .remap, .arbiter] s (adoptStep s) := by
  cases h : adoptable s with
  | none => exact adoptStep_none h ▸ (mapRemap_keeps s _).mono (by decide)
  | some t => exact adoptStep_some h ▸ (mapRemap_keeps s _).chain (adopt_keeps t _)

/-! ### The beginning of a frame (steps 4 to 7 of R77) -/

/-- Where the lookup of pair 0 finds its records leaves the remap unit and what rendering stands at. -/
def firstLookup (l : Layout) (s : State) : Remap × Work :=
  match locatePair l 0 with
  | none => (s.remap, .done)
  | some w => ((lookupPair l 0 w s).remap, (lookupPair l 0 w s).compositor.work)

theorem firstLookup_congr (l : Layout) {s u : State} (h : u.remap = s.remap) : firstLookup l u = firstLookup l s := by
  rw [firstLookup, firstLookup]
  cases locatePair l 0 with
  | none => exact congrArg (fun r => (r, Work.done)) h
  | some w =>
    obtain ⟨hremap, hwork⟩ := lookupPair_congr l 0 w h
    exact Prod.ext hremap hwork

theorem beginPair_zero {s : State} {l : Layout} (h : effectLayout s = some l) :
    beginPair 0 s =
      { s with remap := (firstLookup l s).1, compositor := { s.compositor with work := (firstLookup l s).2 } } := by
  rw [beginPair, h, firstLookup]
  dsimp only
  cases locatePair l 0 with
  | none => rfl
  | some w => exact lookupPair_eq l 0 w s

theorem beginFrame_layout {s : State} {l : Layout} (hmode : s.compositor.mode = .layout) (h : effectLayout s = some l) :
    beginFrame s =
      { s with
        intake := s.intake.mapIdx fun c k => slotRule s.ms (l.cameras.getLsbD c.val) k
        remap := (firstLookup l s).1
        compositor :=
          { s.compositor with
            generators := s.compositor.generators.map stepGenerator
            snapshot :=
              some (takeSnapshot ((s.compositor.generators.map stepGenerator).map gateOpen) (applySlotRule l s))
            work := (firstLookup l s).2 } } := by
  have hlookup : firstLookup l (fixSnapshot (applySlotRule l s)) = firstLookup l s := firstLookup_congr l rfl
  have heffect : effectLayout (fixSnapshot (applySlotRule l s)) = some l := h
  rw [beginFrame, hmode, h]
  dsimp only
  rw [beginPair_zero heffect, hlookup]
  rfl

theorem beginFrame_starting {s : State} (hmode : s.compositor.mode = .startingPicture) : beginFrame s = useNoCamera s := by
  rw [beginFrame, hmode]

theorem beginFrame_none {s : State} (hmode : s.compositor.mode = .layout) (h : effectLayout s = none) :
    beginFrame s = useNoCamera s := by
  rw [beginFrame, hmode, h]

theorem useNoCamera_keeps (s : State) : KeepsBut [.intake] s (useNoCamera s) := by
  intro b hb
  cases b <;> first | exact absurd (by decide) hb | rfl

theorem beginFrame_keeps (s : State) : KeepsBut [.intake, .remap, .compositor] s (beginFrame s) := by
  cases hmode : s.compositor.mode with
  | startingPicture => exact beginFrame_starting hmode ▸ (useNoCamera_keeps s).mono (by decide)
  | layout =>
    cases h : effectLayout s with
    | none => exact beginFrame_none hmode h ▸ (useNoCamera_keeps s).mono (by decide)
    | some l =>
      rw [beginFrame_layout hmode h]
      intro b hb
      cases b <;> first | exact absurd (by decide) hb | rfl

/-- The rest of the compositor that the beginning of a frame leaves. -/
theorem beginFrame_compositor (s : State) :
    (beginFrame s).compositor =
      { s.compositor with
        generators := (beginFrame s).compositor.generators
        snapshot := (beginFrame s).compositor.snapshot
        work := (beginFrame s).compositor.work } := by
  cases hmode : s.compositor.mode with
  | startingPicture => rw [beginFrame_starting hmode]; rfl
  | layout =>
    cases h : effectLayout s with
    | none => rw [beginFrame_none hmode h]; rfl
    | some l => rw [beginFrame_layout hmode h]

theorem beginFrame_sent (s : State) : (beginFrame s).compositor.sent = s.compositor.sent := by rw [beginFrame_compositor]

/-- The adoption leaves the picture sent and, with no target, the whole compositor. -/
theorem adoptStep_sent (s : State) : (adoptStep s).compositor.sent = s.compositor.sent := by
  cases h : adoptable s with
  | none => rw [adoptStep_none h]; rfl
  | some t => rw [adoptStep_some h, adopt_eq]; rfl

/-! ### The output frame start -/

/-- An output frame start after the events: line 2 with its mark, and line 1. -/
theorem outputFrame_eq (written : Option TileSide) (s : State) :
    ∃ line, (line = lineOne (frameBegun s) ∨ line = lineOne (embedMark (frameEvents written s))) ∧
      outputFrame written s = setLineOne line (embedMark (frameEvents written s)) := by
  refine ⟨if Config.lineOneFirst s.draws then lineOne (frameBegun s) else lineOne (embedMark (frameEvents written s)), ?_, rfl⟩
  split
  · exact .inl rfl
  · exact .inr rfl

theorem closeFrame_starting {s : State} (h : s.compositor.mode = .startingPicture) (written : Option TileSide) :
    closeFrame written s = sendPicture (placeStarting s) := by rw [closeFrame, h]

theorem closeFrame_layout {s : State} (h : s.compositor.mode = .layout) (written : Option TileSide) :
    closeFrame written s = sendPicture (endFrame written s) := by rw [closeFrame, h]

/-- What the starting picture changes at the close of a frame. -/
theorem placeStarting_keeps (s : State) : KeepsBut [.compositor] s (sendPicture (placeStarting s)) :=
  (mapCompositor_keeps s _).chain (mapCompositor_keeps _ _)

/-- What follows the close of a frame keeps the picture sent. -/
theorem opened_keeps (dwelling early first : Bool) (before : Quad TriggerState) (s : State) :
    KeepsBut [.arbiter, .ports, .compositor, .remap, .intake, .incident] s
      (countdownIf (!first) before (dwellIf (dwelling && !early) (openFrame (dwellIf (dwelling && early) s)))) := by
  have hadopted : KeepsBut [.arbiter, .ports, .compositor, .remap] s (adoptStep (dwellIf (dwelling && early) s)) :=
    (dwellIf_keeps _ s).chain (adoptStep_keeps _)
  have hopened : KeepsBut [.arbiter, .ports, .compositor, .remap, .intake] s (openFrame (dwellIf (dwelling && early) s)) :=
    hadopted.chain (beginFrame_keeps _)
  have hdwelt : KeepsBut [.arbiter, .ports, .compositor, .remap, .intake] s
      (dwellIf (dwelling && !early) (openFrame (dwellIf (dwelling && early) s))) := hopened.chain (dwellIf_keeps _ _)
  exact hdwelt.chain (countdownIf_keeps _ _ _)

theorem opened_sent (dwelling early first : Bool) (before : Quad TriggerState) (s : State) :
    (countdownIf (!first) before (dwellIf (dwelling && !early)
      (openFrame (dwellIf (dwelling && early) s)))).compositor.sent = s.compositor.sent := by
  have hcounted := countdownIf_keeps (!first) before
    (dwellIf (dwelling && !early) (openFrame (dwellIf (dwelling && early) s))) .compositor (by decide)
  have hdwelt := dwellIf_keeps (dwelling && !early) (openFrame (dwellIf (dwelling && early) s)) .compositor (by decide)
  have hdwelling := dwellIf_keeps (dwelling && early) s .compositor (by decide)
  calc _ = (openFrame (dwellIf (dwelling && early) s)).compositor.sent := congrArg Compositor.sent (hcounted.trans hdwelt)
    _ = (adoptStep (dwellIf (dwelling && early) s)).compositor.sent :=
        beginFrame_sent (adoptStep (dwellIf (dwelling && early) s))
    _ = (dwellIf (dwelling && early) s).compositor.sent := adoptStep_sent _
    _ = s.compositor.sent := congrArg Compositor.sent hdwelling

/-! ### The starting picture (R78) -/

theorem sparseRead_of_mem {α : Type} {d : α} {m : List (Nat × α)} {a : Nat} {v : α} (hmem : (a, v) ∈ m)
    (h : ∀ p ∈ m, p.1 = a → p.2 = v) : sparseRead d m a = v := by
  induction m with
  | nil => cases hmem
  | cons p m ih =>
    obtain ⟨k, x⟩ := p
    by_cases hk : k = a
    · rw [sparseRead, if_pos hk]
      exact h (k, x) List.mem_cons_self hk
    · rw [sparseRead, if_neg hk]
      refine ih ?_ fun p hp => h p (List.mem_cons_of_mem _ hp)
      rcases List.mem_cons.mp hmem with heq | hmem
      · exact absurd (congrArg Prod.fst heq).symm hk
      · exact hmem

theorem sparseRead_of_absent {α : Type} {d : α} {m : List (Nat × α)} {a : Nat} (h : ∀ p ∈ m, p.1 ≠ a) :
    sparseRead d m a = d := by
  have hread := sparseRead_append_left (d := d) (n := []) h
  rwa [List.append_nil] at hread

theorem mem_startingPicture {p : Nat × Pixel} :
    p ∈ startingPicture ↔ ∃ c r, c < 128 ∧ r < 32 ∧ p = (screenAddress (576 + c) (368 + r), whitePixel) := by
  unfold startingPicture
  simp only [List.mem_flatten, List.mem_map, List.mem_range]
  constructor
  · rintro ⟨_, ⟨r, hr, rfl⟩, hmem⟩
    obtain ⟨c, hc, rfl⟩ := List.mem_map.mp hmem
    exact ⟨c, r, List.mem_range.mp hc, hr, rfl⟩
  · rintro ⟨c, r, hc, hr, rfl⟩
    exact ⟨_, ⟨r, hr, rfl⟩, List.mem_map.mpr ⟨c, List.mem_range.mpr hc, rfl⟩⟩

/-- The centred white bar on black. -/
theorem startingPicture_read (x y : Nat) (hx : x < 1280) :
    sparseRead blackPixel startingPicture (y * 1280 + x) =
      if 576 ≤ x ∧ x ≤ 703 ∧ 368 ≤ y ∧ y ≤ 399 then ⟨235#8, 128#8, 128#8⟩ else ⟨16#8, 128#8, 128#8⟩ := by
  by_cases h : 576 ≤ x ∧ x ≤ 703 ∧ 368 ≤ y ∧ y ≤ 399
  · rw [if_pos h]
    have haddress : y * 1280 + x = screenAddress (576 + (x - 576)) (368 + (y - 368)) := by
      unfold screenAddress
      omega
    rw [haddress]
    refine sparseRead_of_mem (v := whitePixel) (mem_startingPicture.mpr ⟨x - 576, y - 368, by omega, by omega, rfl⟩) ?_
    · intro p hp _
      obtain ⟨c, r, _, _, rfl⟩ := mem_startingPicture.mp hp
      rfl
  · rw [if_neg h]
    refine sparseRead_of_absent fun p hp => ?_
    obtain ⟨c, r, hc, hr, rfl⟩ := mem_startingPicture.mp hp
    show screenAddress (576 + c) (368 + r) ≠ _
    rw [screenAddress]
    omega

theorem placeStarting_eq (s : State) :
    sendPicture (placeStarting s) =
      { s with compositor := { s.compositor with store := startingPicture, sent := startingPicture } } := by
  unfold placeStarting
  generalize startingPicture = picture
  rfl

/-- With the arbiter settled while STARTING, a frame of the starting picture adopts and counts nothing. -/
theorem frameEvents_settled {s : State} (hcompositor : s.compositor.mode = .startingPicture) (hmode : s.mode = .starting)
    (hstate : s.arbiter.state = .settled) (written : Option TileSide) :
    frameEvents written s = useNoCamera ((sendPicture (placeStarting (frameBegun s))).mapRemap frameStartRemap) := by
  have hnone : ∀ u : State, u.mode = .starting → adoptable u = none := fun u hu => if_pos hu
  have hdwelling : decide (s.arbiter.state = .dwell) = false := by rw [hstate]; rfl
  have hbegun : (frameBegun s).mode = .starting := hmode
  have hplaced := placeStarting_eq (frameBegun s)
  unfold frameEvents
  dsimp only
  rw [hdwelling, countdownIf_of_starting hbegun, closeFrame_starting (s := frameBegun s) hcompositor]
  simp only [Bool.false_and, dwellIf_false, openFrame]
  generalize hu : sendPicture (placeStarting (frameBegun s)) = u at hplaced ⊢
  have humode : u.mode = .starting := by rw [hplaced]; exact hmode
  have hucompositor : u.compositor.mode = .startingPicture := by rw [hplaced]; exact hcompositor
  rw [adoptStep_none (hnone u humode), beginFrame_starting (s := u.mapRemap frameStartRemap) hucompositor]
  exact countdownIf_of_starting (s := useNoCamera (u.mapRemap frameStartRemap)) humode _ _

/-- Metadata line 1 reads no pixel, no slot and no embedded flag. -/
theorem lineOne_congr {s u : State} (hloader : u.loader = s.loader) (hframe : u.frame = s.frame) (hms : u.ms = s.ms)
    (harbiter : u.arbiter = s.arbiter) (halert : u.alert = s.alert) (htracks : u.tracker = s.tracker)
    (hgenerators : u.compositor.generators = s.compositor.generators) (hloaded : u.loaded = s.loaded)
    (hmarks : u.incident.marks.length = s.incident.marks.length)
    (hlinks : ∀ c, (u.intake.get c).link = (s.intake.get c).link) (hexposure : u.exposure = s.exposure) :
    lineOne u = lineOne s := by
  have h0 := hlinks 0
  have h1 := hlinks 1
  have h2 := hlinks 2
  have h3 := hlinks 3
  simp only [Quad.get] at h0 h1 h2 h3
  unfold lineOne warningLine State.mode
  simp only [hloader, hframe, hms, harbiter, halert, htracks, hgenerators, hloaded, hmarks, hexposure, Quad.toList, List.map_cons, List.map_nil,
    h0, h1, h2, h3]

/-- A frame that shows the starting picture sends it, whatever follows. -/
theorem outputFrame_starting_sent {s : State} (h : s.compositor.mode = .startingPicture) (written : Option TileSide) :
    (outputFrame written s).compositor.sent = startingPicture := by
  obtain ⟨line, _, ht⟩ := outputFrame_eq written s
  have hcounted : (countdownIf (Config.countdownFirst s.draws) s.incident.triggers (frameBegun s)).compositor = s.compositor :=
    countdownIf_keeps _ _ (frameBegun s) .compositor (by decide)
  rw [ht]
  show (frameEvents written s).compositor.sent = _
  refine (opened_sent _ _ _ _ _).trans ?_
  rw [closeFrame_starting (by rw [hcounted]; exact h), placeStarting_eq]

/-! ### The close of a frame (steps 1 and 2 of R77) -/

theorem reportIfPending_keeps (s : State) : KeepsBut [.arbiter, .compositor, .incident, .ports] s (reportIfPending s) := by
  rw [reportIfPending]
  split
  · exact firstFrameReport_keeps s
  · exact KeepsBut.refl _ s

theorem writeEarly_keeps (written : Option TileSide) (s : State) : KeepsBut [.compositor] s (writeEarly written s) := by
  unfold writeEarly
  split
  · split
    · exact mapCompositor_keeps s _
    · exact KeepsBut.refl _ s
  · exact KeepsBut.refl _ s

theorem endFrame_keeps (written : Option TileSide) (s : State) :
    KeepsBut [.arbiter, .compositor, .incident, .ports] s (endFrame written s) := by
  rw [endFrame]
  split
  · exact reportIfPending_keeps s
  · next l _ =>
    have hheld : KeepsBut [.compositor] s (holdTiles (heldTiles l s.compositor.work written) (writeEarly written s)) :=
      (writeEarly_keeps written s).chain (mapCompositor_keeps _ _)
    exact hheld.chain (reportIfPending_keeps _)

theorem closeFrame_keeps (written : Option TileSide) (s : State) :
    KeepsBut [.arbiter, .compositor, .incident, .ports] s (closeFrame written s) := by
  rw [closeFrame]
  split
  · exact (endFrame_keeps written s).chain (mapCompositor_keeps _ _)
  · exact (placeStarting_keeps s).mono (by decide)

/-- What an output frame start leaves alone from the beginning of its frame on. -/
theorem frameEvents_keeps_begun (written : Option TileSide) (s : State) :
    KeepsBut [.arbiter, .ports, .compositor, .remap, .intake, .incident] (frameBegun s) (frameEvents written s) := by
  have hclosed : KeepsBut [.arbiter, .compositor, .incident, .ports] (frameBegun s)
      (closeFrame written (countdownIf (Config.countdownFirst s.draws) s.incident.triggers (frameBegun s))) :=
    (countdownIf_keeps _ _ (frameBegun s)).chain (closeFrame_keeps written _)
  exact hclosed.chain (opened_keeps _ _ _ _ _)

theorem outputFrame_keeps_begun (written : Option TileSide) (s : State) :
    KeepsBut [.arbiter, .ports, .compositor, .remap, .intake, .incident] (frameBegun s) (outputFrame written s) := by
  obtain ⟨line, _, ht⟩ := outputFrame_eq written s
  have hembed : KeepsBut [.compositor, .incident] (frameEvents written s) (embedMark (frameEvents written s)) := by
    intro b hb
    cases b <;> first | exact absurd (by decide) hb | rfl
  have hembedded : KeepsBut [.arbiter, .ports, .compositor, .remap, .intake, .incident] (frameBegun s)
      (embedMark (frameEvents written s)) := (frameEvents_keeps_begun written s).chain hembed
  exact ht ▸ hembedded.chain (mapCompositor_keeps _ _)

theorem outputFrame_frame (written : Option TileSide) (s : State) : (outputFrame written s).frame = s.frame + 1#32 :=
  outputFrame_keeps_begun written s .frame (by decide)

/-- With no dwell running as the event began, the dwell counts on neither side of the adoption. -/
theorem frameEvents_not_dwelling {s : State} (h : s.arbiter.state ≠ .dwell) (written : Option TileSide) :
    frameEvents written s =
      countdownIf (!Config.countdownFirst s.draws) s.incident.triggers
        (openFrame (closeFrame written (countdownIf (Config.countdownFirst s.draws) s.incident.triggers (frameBegun s)))) := by
  unfold frameEvents
  dsimp only
  rw [decide_eq_false h]
  rfl

/-- A target found at the end of the starting picture takes the compositor to the layout. -/
theorem outputFrame_adopts {s : State} {x : SwitchTarget} (h : s.compositor.mode = .startingPicture)
    (hstate : s.arbiter.state ≠ .dwell) (hx : adoptable s = some x) (written : Option TileSide) :
    (outputFrame written s).compositor.mode = .layout ∧ (outputFrame written s).compositor.inEffect = some x.layout ∧
      (outputFrame written s).arbiter.shown = some x.layout := by
  obtain ⟨line, _, ht⟩ := outputFrame_eq written s
  have hcounted := countdownIf_keeps (Config.countdownFirst s.draws) s.incident.triggers (frameBegun s)
  have hclosed := hcounted.trans (placeStarting_keeps _)
  have hcompositor : (countdownIf (Config.countdownFirst s.draws) s.incident.triggers (frameBegun s)).compositor =
      s.compositor := hcounted .compositor (by decide)
  rw [← closeFrame_starting (by rw [hcompositor]; exact h) written] at hclosed
  rw [ht, frameEvents_not_dwelling hstate]
  generalize hu : closeFrame written (countdownIf (Config.countdownFirst s.draws) s.incident.triggers (frameBegun s)) = u
    at hclosed ⊢
  have hfound : adoptable u = some x := by
    have hloader : u.loader = s.loader := hclosed .loader (by decide)
    have harbiter : u.arbiter = s.arbiter := hclosed .arbiter (by decide)
    rw [← hx, adoptable, adoptable, State.mode, hloader, harbiter]
    rfl
  have hlast := countdownIf_keeps (!Config.countdownFirst s.draws) s.incident.triggers (openFrame u)
  have hadopted := adoptStep_some hfound
  have hbegun := beginFrame_compositor (adoptStep u)
  have hadopt := adopt_eq x (u.mapRemap frameStartRemap)
  have hlayout := adoptLayout_compositor x (u.mapRemap frameStartRemap)
  have hcomp : (countdownIf (!Config.countdownFirst s.draws) s.incident.triggers (openFrame u)).compositor =
      (beginFrame (adoptStep u)).compositor := hlast .compositor (by decide)
  have harb : (countdownIf (!Config.countdownFirst s.draws) s.incident.triggers (openFrame u)).arbiter =
      (adoptStep u).arbiter :=
    (hlast .arbiter (by decide)).trans (beginFrame_keeps (adoptStep u) .arbiter (by decide))
  refine ⟨?_, ?_, ?_⟩
  · show (countdownIf _ _ (openFrame u)).compositor.mode = _
    rw [hcomp, hbegun, hadopted, hadopt, hlayout]
  · show (countdownIf _ _ (openFrame u)).compositor.inEffect = _
    rw [hcomp, hbegun, hadopted, hadopt, hlayout]
  · show (countdownIf _ _ (openFrame u)).arbiter.shown = _
    rw [harb, hadopted, hadopt]
    rfl

/-- Settles O25: the starting picture is sent; STARTING adopts nothing, and a held target ends the picture. -/
theorem startingPictureIsSent : Obligations.StartingPictureIsSent := by
  intro written s hcompositor
  have hsent := outputFrame_starting_sent hcompositor written
  refine ⟨outputFrame written s, rfl, outputFrame_frame written s,
    fun x y hx => hsent ▸ startingPicture_read x y hx, fun hmode hstate => ?_, fun x hheld hx => ?_⟩
  · obtain ⟨line, hline, ht⟩ := outputFrame_eq written s
    rw [frameEvents_settled hcompositor hmode hstate, placeStarting_eq] at hline ht
    have hlines : lineOne (embedMark (useNoCamera (State.mapRemap
        { frameBegun s with
          compositor := { (frameBegun s).compositor with store := startingPicture, sent := startingPicture } }
        frameStartRemap))) = lineOne (frameBegun s) :=
      lineOne_congr rfl rfl rfl rfl rfl rfl rfl rfl (mapFirst_length _ _ _)
        (fun c => by
          show ((s.intake.map (slotRule s.ms false)).get c).link = _
          rw [Quad.get_map]
          rfl) rfl
    rw [hlines, or_self] at hline
    have hline' : line = lineOne { s with frame := s.frame + 1#32 } :=
      hline.trans (lineOne_congr rfl rfl rfl rfl rfl rfl rfl rfl rfl (fun _ => rfl) rfl)
    have hintake : ∀ c, (outputFrame written s).intake.get c = { s.intake.get c with inUse := false } := fun c => by
      rw [ht]
      show (s.intake.map (slotRule s.ms false)).get c = _
      rw [Quad.get_map]
      rfl
    have hall : KeepsBut [.arbiter, .ports, .compositor, .remap, .intake, .incident, .frame, .draws] s
        (outputFrame written s) := (frameBegun_keeps s).chain (outputFrame_keeps_begun written s)
    refine ⟨?_, ?_, ?_, ?_, hintake, ⟨fun a => ?_, fun a => ?_⟩, fun c i a => ?_, ?_⟩
    · rw [ht, hline']
      rfl
    · rw [ht]
      rfl
    · rw [ht]
      rfl
    · rw [ht]
      rfl
    · rw [show (outputFrame written s).flash = s.flash from hall .flash (by decide)]
    · rw [show (outputFrame written s).loaded = s.loaded from hall .loaded (by decide)]
    · rw [hintake]
    · have harbiter : (outputFrame written s).arbiter = s.arbiter := by rw [ht]; rfl
      have hports : (outputFrame written s).ports = s.ports := by rw [ht]; rfl
      intro b hb
      cases b with
      | arbiter => exact harbiter
      | ports => exact hports
      | frame | intake | compositor | remap | incident | draws => exact absurd (by decide) hb
      | _ => exact hall _ (by decide)
  · have hfound : adoptable s = some x ∧ s.arbiter.state ≠ .dwell := by
      rcases hheld with ⟨hmode, hstate⟩ | ⟨hmode, hstate⟩ <;> simp [adoptable, hmode, hstate, hx]
    exact outputFrame_adopts hcompositor hfound.2 hfound.1 written

end Sys2Proof.Machine
end

section
/-! PROOFS. The close of an output frame in LAYOUT mode (steps 1 and 2 of R77): the trigger conditions, the held tiles and the report. -/

namespace Sys2Proof.Machine

/-! ### The trigger conditions read what a mark is built from -/

/-- Two states that agree on the incident unit and on what a firing reads (R152). -/
structure SameFirings (s t : State) : Prop where
  mode : t.loader.mode = s.loader.mode
  triggers : t.loaded.triggers = s.loaded.triggers
  incident : t.incident = s.incident
  frame : t.frame = s.frame
  ms : t.ms = s.ms
  alert : t.alert = s.alert
  shown : t.arbiter.shown = s.arbiter.shown
  tracks : t.tracker.tracks = s.tracker.tracks

theorem SameFirings.offer {s t : State} (h : SameFirings s t) (r : EventRecord) :
    (offerRecord r t).incident = (offerRecord r s).incident :=
  offerRecord_incident_congr h.mode h.triggers h.incident h.frame h.ms h.alert h.shown h.tracks

theorem SameFirings.fireMark {s t : State} (h : SameFirings s t) (src : MarkSource) :
    SameFirings (fireMark src s) (fireMark src t) := by
  have hmark : enteredMark src t = enteredMark src s := by
    unfold enteredMark buildMark
    simp only [h.incident, h.frame, h.ms, h.alert, h.shown, h.tracks]
  have hincident : (Machine.fireMark src t).incident = (Machine.fireMark src s).incident := by
    by_cases hfits : markFits s.incident.marks = true
    · rw [fireMark_incident_of_fits hfits, fireMark_incident_of_fits (h.incident ▸ hfits), hmark, h.incident]
    · rw [fireMark_of_full hfits, fireMark_of_full (h.incident ▸ hfits), h.incident]
  exact ⟨by simpa using h.mode, by simpa using h.triggers, hincident, by simpa using h.frame, by simpa using h.ms,
    by simpa using h.alert, by simpa using h.shown, by simpa using h.tracks⟩

theorem SameFirings.setTrigger {s t : State} (h : SameFirings s t) (i : Fin 4) (x : TriggerState) :
    SameFirings (setTrigger i x s) (setTrigger i x t) :=
  { h with incident := congrArg (fun k : Incident => { k with triggers := k.triggers.set i x }) h.incident }

theorem SameFirings.makeMove {s t : State} (h : SameFirings s t) (i : Fin 4) (v : TriggerMove) :
    SameFirings (makeMove i v s) (makeMove i v t) := by
  cases v with
  | stays => exact h
  | takes x => exact h.setTrigger i x
  | fires =>
    rw [Machine.makeMove, Machine.makeMove, fireTrigger, fireTrigger, h.triggers]
    exact (h.fireMark (.trigger i)).setTrigger i _

theorem SameFirings.count {s t : State} (h : SameFirings s t) (before : Quad TriggerState) :
    (countTriggers before t).incident = (countTriggers before s).incident := by
  by_cases hmode : s.mode = .starting
  · rw [countTriggers_of_starting hmode, countTriggers_of_starting (h.mode.trans hmode)]
    exact h.incident
  · have hmode' : t.mode ≠ .starting := fun ht => hmode (h.mode.symm.trans ht)
    rw [countTriggers_moves hmode, countTriggers_moves hmode', h.incident]
    simp only [List.foldl_cons, List.foldl_nil]
    exact ((((h.makeMove 0 _).makeMove 1 _).makeMove 2 _).makeMove 3 _).incident

theorem makeMove_ports (i : Fin 4) (v : TriggerMove) (s : State) :
    NoticesOnly s (makeMove i v s) ∧ NoticesRaised [] s (makeMove i v s) := by
  cases v with
  | stays => exact ⟨NoticesOnly.refl s, NoticesRaised.refl s⟩
  | takes x => exact ⟨NoticesOnly.of_ports rfl, NoticesRaised.of_ports rfl⟩
  | fires => exact fireMark_ports (.trigger i) s

theorem countTriggers_ports (before : Quad TriggerState) (s : State) :
    NoticesOnly s (countTriggers before s) ∧ NoticesRaised [] s (countTriggers before s) := by
  by_cases hmode : s.mode = .starting
  · rw [countTriggers_of_starting hmode]
    exact ⟨NoticesOnly.refl s, NoticesRaised.refl s⟩
  · rw [countTriggers_moves hmode]
    simp only [List.foldl_cons, List.foldl_nil]
    exact ports_chain (ports_chain (ports_chain (makeMove_ports 0 _ s) (makeMove_ports 1 _ _) (makeMove_loaded _ _ _))
      (makeMove_ports 2 _ _) (by simp only [makeMove_loaded])) (makeMove_ports 3 _ _) (by simp only [makeMove_loaded])

theorem countdownIf_ports (b : Bool) (before : Quad TriggerState) (s : State) :
    NoticesOnly s (countdownIf b before s) ∧ NoticesRaised [] s (countdownIf b before s) := by
  cases b with
  | false => exact ⟨NoticesOnly.refl s, NoticesRaised.refl s⟩
  | true => exact countTriggers_ports before s

/-! ### Held tiles (R80) -/

/-- An output store address inside a tile. -/
def InTile (p : PairPlace × TileSide) (a : Nat) : Prop :=
  ∃ i j, i < p.1.pane.cls.tile ∧ j < p.1.pane.cls.tile ∧ a = tileAddress p.1 p.2 i j

section Blank

variable {store : List (Nat × Pixel)} (hwf : sparseWf blackPixel store = true) (zero : Pixel)

include hwf

theorem blankTile_inside {p : PairPlace × TileSide} {a : Nat} (ha : InTile p a) :
    sparseRead blackPixel (writeTile store p.1 p.2 fun _ _ => zero) a = zero := by
  obtain ⟨i, j, hi, hj, rfl⟩ := ha
  rw [writeTile, sparseRead_writeAll hwf, lastWrite_of_forall (v := zero) (mem_tileEntries.mpr ⟨i, j, hi, hj, rfl⟩)]
  · rfl
  · intro e he _
    obtain ⟨_, _, _, _, rfl⟩ := mem_tileEntries.mp he
    rfl

theorem writeTile_outside_tile {p : PairPlace × TileSide} (f : Nat → Nat → Pixel) {a : Nat} (ha : ¬ InTile p a) :
    sparseRead blackPixel (writeTile store p.1 p.2 f) a = sparseRead blackPixel store a :=
  writeTile_outside hwf p.1 p.2 f fun i j hi hj heq => ha ⟨i, j, hi, hj, heq⟩

/-- Tiles set to one colour: their pixels are it, and the others stand. -/
theorem blankTiles_read (tiles : List (PairPlace × TileSide)) (a : Nat) :
    ((∃ p ∈ tiles, InTile p a) →
      sparseRead blackPixel (tiles.foldl (fun st p => writeTile st p.1 p.2 fun _ _ => zero) store) a = zero) ∧
    ((∀ p ∈ tiles, ¬ InTile p a) →
      sparseRead blackPixel (tiles.foldl (fun st p => writeTile st p.1 p.2 fun _ _ => zero) store) a =
        sparseRead blackPixel store a) := by
  induction tiles generalizing store with
  | nil => exact ⟨fun ⟨_, h, _⟩ => absurd h List.not_mem_nil, fun _ => rfl⟩
  | cons p tiles ih =>
    obtain ⟨hin, hout⟩ := ih (writeTile_wf p.1 p.2 (fun _ _ => zero) hwf)
    rw [List.foldl_cons]
    constructor
    · rintro ⟨q, hq, hqa⟩
      by_cases hlater : ∃ q ∈ tiles, InTile q a
      · exact hin hlater
      · rcases List.mem_cons.mp hq with rfl | hmem
        · rw [hout fun q hq hqa => hlater ⟨q, hq, hqa⟩]
          exact blankTile_inside hwf zero hqa
        · exact absurd ⟨q, hmem, hqa⟩ hlater
    · intro hnone
      rw [hout fun q hq => hnone q (List.mem_cons_of_mem p hq)]
      exact writeTile_outside_tile hwf _ (hnone p List.mem_cons_self)

end Blank

theorem mem_heldSides {work : Work} {written : Option TileSide} {n k : Nat} {side : TileSide} :
    side ∈ heldSides work written n k ↔ ¬ (k = n ∧ alreadyWritten work written side = true) := by
  unfold heldSides
  rw [List.mem_filter]
  have hmem : side ∈ ([.even, .odd] : List TileSide) := by cases side <;> simp
  simp [hmem, Decidable.imp_iff_not_or]

theorem alreadyWritten_none (work : Work) (side : TileSide) : alreadyWritten work none side = false := by
  cases work <;> rfl

theorem mem_heldTiles {l : Layout} {work : Work} {written : Option TileSide} {p : PairPlace × TileSide} :
    p ∈ heldTiles l work written ↔
      ∃ n, work.pair = some n ∧ ∃ k, n ≤ k ∧ k < l.pairs ∧ locatePair l k = some p.1 ∧
        p.2 ∈ heldSides work written n k := by
  unfold heldTiles
  cases hpair : work.pair with
  | none => simp
  | some n =>
    simp only [List.mem_flatten, List.mem_map, List.mem_range, Option.some.injEq, exists_eq_left']
    constructor
    · rintro ⟨_, ⟨i, hi, rfl⟩, hp⟩
      cases hw : locatePair l (n + i) with
      | none => simp [hw] at hp
      | some w =>
        simp only [hw, List.mem_map] at hp
        obtain ⟨side, hside, rfl⟩ := hp
        exact ⟨n + i, by omega, by omega, hw, hside⟩
    · rintro ⟨k, hn, hk, hw, hside⟩
      have hsum : n + (k - n) = k := by omega
      refine ⟨_, ⟨k - n, by omega, rfl⟩, ?_⟩
      rw [hsum, hw]
      exact List.mem_map.mpr ⟨p.2, hside, rfl⟩

/-- A held tile is held whatever was written early. -/
theorem heldTiles_unwritten {l : Layout} {work : Work} {written : Option TileSide} {p : PairPlace × TileSide}
    (h : p ∈ heldTiles l work written) : p ∈ heldTiles l work none := by
  obtain ⟨n, hn, k, hle, hlt, hw, _⟩ := mem_heldTiles.mp h
  exact mem_heldTiles.mpr ⟨n, hn, k, hle, hlt, hw, mem_heldSides.mpr fun h => by
    rw [alreadyWritten_none] at h
    exact absurd h.2 (by decide)⟩

theorem locateFrom_lt {ps : List Pane} {n k : Nat} {w : PairPlace} (h : locateFrom k ps n = some w) :
    n < ps.foldl (fun n p => n + p.pairs) 0 := by
  induction ps generalizing n k with
  | nil => cases h
  | cons p ps ih =>
    rw [List.foldl_cons, foldl_pairs]
    rw [locateFrom] at h
    by_cases hn : n < p.pairs
    · omega
    · rw [if_neg hn] at h
      have hrest := ih h
      omega

/-- The tile that was written early is one of the pair in progress. -/
theorem drawing_unwritten {l : Layout} {n : Nat} {even odd : MapRecord} {w : PairPlace} (hw : locatePair l n = some w)
    (side : TileSide) : (w, side) ∈ heldTiles l (.drawing n even odd) none :=
  mem_heldTiles.mpr ⟨n, rfl, n, Nat.le_refl n, locateFrom_lt hw, hw, mem_heldSides.mpr fun h => by
    rw [alreadyWritten_none] at h
    exact absurd h.2 (by decide)⟩

/-! ### The tile written early, and the tiles held -/

section Held

variable {s : State} {ref : LayoutRef} (href : s.compositor.inEffect = some ref) (written : Option TileSide)

/-- The layout's held tiles as the frame ends. -/
def endingTiles (ref : LayoutRef) (written : Option TileSide) (s : State) : List (PairPlace × TileSide) :=
  heldTiles (resolveLayout s.loaded ref) s.compositor.work written

theorem writeEarly_compositor (s : State) :
    (writeEarly written s).compositor = { s.compositor with store := (writeEarly written s).compositor.store } := by
  unfold writeEarly
  split
  · split <;> rfl
  · rfl

theorem writeEarly_store_wf (h : sparseWf blackPixel s.compositor.store = true) :
    sparseWf blackPixel (writeEarly written s).compositor.store = true := by
  unfold writeEarly
  split
  · split
    · exact writeTile_wf _ _ _ h
    · exact h
  · exact h

theorem writeEarly_of_none (s : State) : writeEarly none s = s := by
  unfold writeEarly
  split
  · next heq => cases heq
  · rfl

theorem writeEarly_of_done {s : State} (h : s.compositor.work = .done) : writeEarly written s = s := by
  unfold writeEarly
  split
  · next hwork _ _ => exact absurd (h.symm.trans hwork) (by simp)
  · rfl

include href

/-- What was written early lies in the tiles that had not been. -/
theorem writeEarly_read (hwf : sparseWf blackPixel s.compositor.store = true) {a : Nat}
    (ha : ∀ p ∈ endingTiles ref none s, ¬ InTile p a) :
    sparseRead blackPixel (writeEarly written s).compositor.store a = sparseRead blackPixel s.compositor.store a := by
  unfold writeEarly
  split
  · next n even odd ref' snap side hwork href' _ =>
    cases href.symm.trans href'
    split
    · next w hw =>
      refine writeTile_outside_tile (p := (w, side)) hwf _ (ha _ ?_)
      rw [endingTiles, hwork]
      exact drawing_unwritten hw side
    · rfl
  · rfl

end Held

/-! ### The close of a frame -/

/-- The state at the end of a frame, its held tiles counted and set, before the report. -/
def heldState (ref : LayoutRef) (written : Option TileSide) (s : State) : State :=
  holdTiles (endingTiles ref written s) (writeEarly written s)

theorem heldState_keeps (ref : LayoutRef) (written : Option TileSide) (s : State) :
    KeepsBut [.compositor] s (heldState ref written s) := (writeEarly_keeps written s).chain (mapCompositor_keeps _ _)

theorem closeFrame_held {s : State} {ref : LayoutRef} (hmode : s.compositor.mode = .layout)
    (href : s.compositor.inEffect = some ref) (written : Option TileSide) :
    closeFrame written s = sendPicture (reportIfPending (heldState ref written s)) := by
  rw [closeFrame_layout hmode, endFrame, effectLayout_some href]
  rfl

theorem heldState_compositor (ref : LayoutRef) (written : Option TileSide) (s : State) :
    (heldState ref written s).compositor =
      { s.compositor with
        held := satAdd s.compositor.held (endingTiles ref written s).length
        store := (heldState ref written s).compositor.store } := by
  have hearly := writeEarly_compositor written s
  show ({ (writeEarly written s).compositor with
    held := satAdd (writeEarly written s).compositor.held (endingTiles ref written s).length
    store := (heldState ref written s).compositor.store } : Compositor) = _
  rw [hearly]

/-- The output store with its held tiles: blanked in the first frame of a newly adopted layout. -/
theorem heldState_store (ref : LayoutRef) (written : Option TileSide) (s : State) :
    (heldState ref written s).compositor.store =
      if s.compositor.adoptedAt = s.frame - 1#32 then
        (endingTiles ref written s).foldl (fun st p => writeTile st p.1 p.2 fun _ _ => colourOf s.loaded.palette 0)
          (writeEarly written s).compositor.store
      else (writeEarly written s).compositor.store := by
  have hadopted : (writeEarly written s).compositor.adoptedAt = s.compositor.adoptedAt := by rw [writeEarly_compositor]
  have hframe : (writeEarly written s).frame = s.frame := writeEarly_keeps written s .frame (by decide)
  have hloaded : (writeEarly written s).loaded = s.loaded := writeEarly_keeps written s .loaded (by decide)
  simp only [heldState, holdTiles, State.mapCompositor, hadopted, hframe, hloaded, decide_eq_true_eq]

theorem endingTiles_of_done {s : State} (h : s.compositor.work = .done) (ref : LayoutRef) (written : Option TileSide) :
    endingTiles ref written s = [] := by
  rw [endingTiles, h]
  rfl

section HeldStore

variable {s : State} {ref : LayoutRef} (written : Option TileSide)

/-- With nothing left to render, or no first frame and nothing written early, the store is sent as it stands. -/
theorem heldState_store_stands
    (h : s.compositor.work = .done ∨ written = none ∧ s.compositor.adoptedAt ≠ s.frame - 1#32) :
    (heldState ref written s).compositor.store = s.compositor.store := by
  rw [heldState_store]
  rcases h with hdone | ⟨rfl, hlater⟩
  · rw [endingTiles_of_done hdone, writeEarly_of_done written hdone]
    exact ite_self _
  · rw [if_neg hlater, writeEarly_of_none]

variable (hwf : sparseWf blackPixel s.compositor.store = true)

include hwf

theorem heldState_first {a : Nat} (hfirst : s.compositor.adoptedAt = s.frame - 1#32)
    (ha : ∃ p ∈ endingTiles ref written s, InTile p a) :
    sparseRead blackPixel (heldState ref written s).compositor.store a = colourOf s.loaded.palette 0 := by
  rw [heldState_store, if_pos hfirst]
  exact (blankTiles_read (writeEarly_store_wf written hwf) _ _ a).1 ha

theorem heldState_others (href : s.compositor.inEffect = some ref) {a : Nat}
    (ha : ∀ p ∈ endingTiles ref none s, ¬ InTile p a) :
    sparseRead blackPixel (heldState ref written s).compositor.store a = sparseRead blackPixel s.compositor.store a := by
  have hearly := writeEarly_read href written hwf ha
  rw [heldState_store]
  split
  · refine ((blankTiles_read (writeEarly_store_wf written hwf) _ _ a).2 fun p hp => ha p ?_).trans hearly
    exact heldTiles_unwritten hp
  · exact hearly

theorem heldState_wf : sparseWf blackPixel (heldState ref written s).compositor.store = true := by
  have hfold : ∀ (tiles : List (PairPlace × TileSide)) (zero : Pixel) (store : List (Nat × Pixel)),
      sparseWf blackPixel store = true →
      sparseWf blackPixel (tiles.foldl (fun st p => writeTile st p.1 p.2 fun _ _ => zero) store) = true := by
    intro tiles zero
    induction tiles with
    | nil => exact fun _ => id
    | cons p tiles ih => exact fun store h => ih _ (writeTile_wf p.1 p.2 _ h)
  rw [heldState_store]
  split
  · exact hfold _ _ _ (writeEarly_store_wf written hwf)
  · exact writeEarly_store_wf written hwf

end HeldStore

/-! ### The report, if it is pending -/

theorem reportIfPending_arbiter (s : State) :
    (reportIfPending s).arbiter = if s.compositor.reportPending then arbiterReported s else s.arbiter := by
  rw [reportIfPending]
  split
  · exact firstFrameReport_arbiter s
  · rfl

theorem reportIfPending_compositor (s : State) :
    (reportIfPending s).compositor = { s.compositor with reportPending := false } := by
  cases h : s.compositor.reportPending with
  | true => rw [reportIfPending, if_pos h, firstFrameReport_compositor]
  | false =>
    rw [reportIfPending, if_neg (Bool.eq_false_iff.mp h), ← h]

theorem reportIfPending_incident (s : State) :
    (reportIfPending s).incident = if s.compositor.reportPending then (offerRecord (viewRecord s) s).incident else s.incident := by
  rw [reportIfPending]
  split
  · exact firstFrameReport_incident s
  · rfl

theorem reportIfPending_notices (s : State) :
    NoticesOnly s (reportIfPending s) ∧
      NoticesRaised (if s.compositor.reportPending then [.viewChanged] else []) s (reportIfPending s) := by
  rw [reportIfPending]
  split
  · exact firstFrameReport_notices s
  · exact ⟨NoticesOnly.refl s, NoticesRaised.refl s⟩

end Sys2Proof.Machine
end

section
/-! PROOFS. Adoption, the pinned region, the slot rule and the dwell at an output frame start (steps 3 to 7 of R77). -/

namespace Sys2Proof.Machine

/-! ### The adoption, block by block (R143, R68, R79) -/

/-- The arbiter after the adoption of a target, if there is one (R143). -/
def arbiterAfter (target : Option SwitchTarget) (a : Arbiter) : Arbiter :=
  match target with
  | none => a
  | some x =>
    { a with
      claims := a.claims.mapIdx fun i c => c.map fun k => { k with granted := decide (x.source.slot = some i) }
      state := if a.state = .service then .service else .firstFrame
      shown := some x.layout
      target := none }

/-- The layout in effect after the adoption of a target, if there is one. -/
def effectAfter (target : Option SwitchTarget) (ref : LayoutRef) : LayoutRef :=
  match target with
  | none => ref
  | some x => x.layout

section Adoption

variable (s : State)

theorem adoptStep_arbiter : (adoptStep s).arbiter = arbiterAfter (adoptable s) s.arbiter := by
  cases h : adoptable s with
  | none => rw [adoptStep_none h]; rfl
  | some x => rw [adoptStep_some h, adopt_eq]; rfl

theorem adoptStep_remap :
    (adoptStep s).remap =
      match adoptable s with
      | none => frameStartRemap s.remap
      | some x => takeEffect (resolveLayout s.loaded x.layout) (frameStartRemap s.remap) := by
  cases h : adoptable s with
  | none => rw [adoptStep_none h]; rfl
  | some x => rw [adoptStep_some h, adopt_eq]; rfl

theorem adoptStep_compositor_none (h : adoptable s = none) : (adoptStep s).compositor = s.compositor := by
  rw [adoptStep_none h]
  rfl

theorem adoptStep_compositor_some {x : SwitchTarget} (h : adoptable s = some x) :
    (adoptStep s).compositor =
      { s.compositor with
        mode := .layout
        inEffect := some x.layout
        adoptedAt := s.frame
        reportPending := true
        store := adoptedStore x s } := by
  rw [adoptStep_some h, adopt_eq]
  show (adoptLayout x (s.mapRemap frameStartRemap)).compositor = _
  rw [adoptLayout_compositor]
  unfold adoptedStore
  rfl

theorem oweBroadcasts_can (s : State) (p : Port) :
    (oweBroadcasts s).ports.can.get p = { s.ports.can.get p with owed := true } := by cases p <;> rfl

/-- An adoption owes each CAN port a broadcast just when it changes the shown layout (R170). -/
theorem adoptStep_ports :
    (adoptStep s).ports = { s.ports with can := (adoptStep s).ports.can } ∧
      ∀ p, (adoptStep s).ports.can.get p =
        { s.ports.can.get p with
          owed := (s.ports.can.get p).owed || match adoptable s with
            | none => false
            | some x => decide (s.arbiter.shown ≠ some x.layout) } := by
  cases h : adoptable s with
  | none =>
    rw [adoptStep_none h]
    exact ⟨rfl, fun p => by simp [State.mapRemap]⟩
  | some x =>
    rw [adoptStep_some h, adopt_eq]
    by_cases hshown : s.arbiter.shown = some x.layout
    · have hnote : noteShown x.layout (s.mapRemap frameStartRemap) = s.mapRemap frameStartRemap := if_pos hshown
      simp only [hnote]
      exact ⟨rfl, fun p => by simp [hshown, State.mapRemap]⟩
    · have hnote : noteShown x.layout (s.mapRemap frameStartRemap) = oweBroadcasts (s.mapRemap frameStartRemap) :=
        if_neg hshown
      simp only [hnote]
      exact ⟨rfl, fun p => by rw [oweBroadcasts_can]; simp [hshown, State.mapRemap]⟩

end Adoption

/-! ### The background of an adopted layout (R79) -/

theorem mem_backgroundEntries {l : Layout} {zero : Pixel} {e : Nat × Pixel} :
    e ∈ backgroundEntries l zero ↔ ∃ x y, x < 1280 ∧ y < 768 ∧ inSomePane l x y = false ∧ e = (screenAddress x y, zero) := by
  unfold backgroundEntries
  simp only [List.mem_flatten, List.mem_map, List.mem_range]
  constructor
  · rintro ⟨_, ⟨y, hy, rfl⟩, hmem⟩
    obtain ⟨x, hx, rfl⟩ := List.mem_map.mp hmem
    obtain ⟨hrange, hnone⟩ := List.mem_filter.mp hx
    exact ⟨x, y, List.mem_range.mp hrange, hy, by simpa using hnone, rfl⟩
  · rintro ⟨x, y, hx, hy, hnone, rfl⟩
    refine ⟨_, ⟨y, hy, rfl⟩, List.mem_map.mpr ⟨x, List.mem_filter.mpr ⟨List.mem_range.mpr hx, ?_⟩, rfl⟩⟩
    rw [hnone]
    rfl

theorem inSomePane_iff (l : Layout) (x y : Nat) :
    inSomePane l x y = true ↔
      ∃ p ∈ l.panes, p.left ≤ x ∧ x < p.left + p.width ∧ p.top ≤ y ∧ y < p.top + p.height := by
  simp [inSomePane, List.any_eq_true, and_assoc]

/-- A screen pixel of the store that an adoption leaves. -/
theorem adoptedStore_read {s : State} (hwf : sparseWf blackPixel s.compositor.store = true) (t : SwitchTarget) {x y : Nat}
    (hx : x < 1280) (hy : y < 768) :
    sparseRead blackPixel (adoptedStore t s) (y * 1280 + x) =
      if ∃ p ∈ (resolveLayout s.loaded t.layout).panes,
          p.left ≤ x ∧ x < p.left + p.width ∧ p.top ≤ y ∧ y < p.top + p.height then
        sparseRead blackPixel s.compositor.store (y * 1280 + x)
      else colourOf s.loaded.palette 0 := by
  rw [adoptedStore, sparseRead_writeAll hwf]
  by_cases hpane : inSomePane (resolveLayout s.loaded t.layout) x y = true
  · rw [if_pos ((inSomePane_iff _ x y).mp hpane), lastWrite_none]
    · rfl
    · intro e he
      obtain ⟨x', y', hx', hy', hnone, rfl⟩ := mem_backgroundEntries.mp he
      intro heq
      have hplace : x' = x ∧ y' = y := by
        dsimp only at heq
        unfold screenAddress at heq
        omega
      rw [hplace.1, hplace.2, hpane] at hnone
      cases hnone
  · rw [if_neg fun h => hpane ((inSomePane_iff _ x y).mpr h)]
    have hmem : (y * 1280 + x, colourOf s.loaded.palette 0) ∈
        backgroundEntries (resolveLayout s.loaded t.layout) (colourOf s.loaded.palette 0) :=
      mem_backgroundEntries.mpr ⟨x, y, hx, hy, by simpa using hpane, rfl⟩
    rw [lastWrite_of_forall hmem]
    · rfl
    · intro e he _
      obtain ⟨_, _, _, _, _, rfl⟩ := mem_backgroundEntries.mp he
      rfl

/-! ### The pinned region at a take-effect (R68) -/

theorem takeEffect_entry (l : Layout) (r : Remap) (n : Nat) :
    (takeEffect l r).entry n =
      if n < pinnedPairs l ∧ (r.entry n).key ≠ (locatePair l n).map (placeKey l) then .empty else r.entry n := by
  have hentry : ∀ q : Remap, q.entry n = (q.entries[n]?).getD .empty := fun q => List.getD_eq_getElem?_getD
  rw [hentry, hentry]
  show ((r.entries.mapIdx _)[n]?).getD _ = _
  rw [List.getElem?_mapIdx]
  cases h : r.entries[n]? with
  | none =>
    symm
    exact ite_self _
  | some e =>
    simp only [Option.map_some, Option.getD_some]
    by_cases hn : n < pinnedPairs l
    · rw [if_pos hn, keepDesignated]
      by_cases hkey : e.key = (locatePair l n).map (placeKey l)
      · rw [if_pos hkey, if_neg fun h => h.2 hkey]
      · rw [if_neg hkey, if_pos ⟨hn, hkey⟩]
    · rw [if_neg hn, if_neg fun h => hn h.1]

/-! ### The slot rule (R30) -/

theorem readyCount_eq (k : CameraIntake) : readyCount k.slots = slotCount .ready k := by
  rw [readyCount, slotCount, List.countP_eq_length_filter]

theorem slotRule_unused (now : Word) (k : CameraIntake) : slotRule now false k = { k with inUse := false } := rfl

/-- A camera in use with no READY slot keeps its slots. -/
theorem slotRule_not_ready {now : Word} {k : CameraIntake} (h : ∀ i, (k.slots.get i).state ≠ .ready) :
    slotRule now true k = { k with inUse := true } := by
  have hspec := newestReady_spec now k.slots
  rw [slotRule, if_pos rfl]
  cases hnewest : newestReady now k.slots with
  | none => rfl
  | some i =>
    rw [hnewest] at hspec
    exact absurd hspec.1 (h i)

theorem slotRuleAt_other {i j : Fin 3} (h : j ≠ i) (t : FrameSlot) :
    slotRuleAt i j t = { t with state := if t.state = .filling then .filling else .free } := by
  obtain ⟨state, _, _, _⟩ := t
  rw [slotRuleAt, if_neg h]
  cases state <;> rfl

theorem slotRuleAt_same (i : Fin 3) (t : FrameSlot) : slotRuleAt i i t = { t with state := .reading } := if_pos rfl

/-- A camera in use with a READY slot takes the newest, and frees what it held and what it passed over. -/
theorem slotRule_ready {now : Word} {k : CameraIntake} (h : ∃ i, (k.slots.get i).state = .ready) :
    ∃ i, (k.slots.get i).state = .ready ∧
      (∀ j, (k.slots.get j).state = .ready → slotAge now (k.slots.get i) ≤ slotAge now (k.slots.get j)) ∧
      (slotRule now true k).slots.get i = { k.slots.get i with state := .reading } ∧
      (∀ j, j ≠ i → (slotRule now true k).slots.get j =
        { k.slots.get j with state := if (k.slots.get j).state = .filling then .filling else .free }) ∧
      slotRule now true k =
        { k with
          slots := (slotRule now true k).slots
          inUse := true
          dropped := if k.inUse then satAdd k.dropped (slotCount .ready k - 1) else k.dropped } := by
  have hspec := newestReady_spec now k.slots
  cases hnewest : newestReady now k.slots with
  | none =>
    rw [hnewest] at hspec
    obtain ⟨i, hi⟩ := h
    exact absurd hi (hspec i)
  | some i =>
    rw [hnewest] at hspec
    have hrule : slotRule now true k =
        { k with
          slots := ⟨slotRuleAt i 0 k.slots.s0, slotRuleAt i 1 k.slots.s1, slotRuleAt i 2 k.slots.s2⟩
          dropped := if k.inUse then satAdd k.dropped (slotCount .ready k - 1) else k.dropped
          inUse := true } := by
      rw [slotRule, if_pos rfl, hnewest, ← readyCount_eq]
    have hslot : ∀ j, (slotRule now true k).slots.get j = slotRuleAt i j (k.slots.get j) := fun j => by
      rw [hrule]
      exact get_slotRuleAt i j k.slots
    refine ⟨i, hspec.1, hspec.2, (hslot i).trans (slotRuleAt_same i _), fun j hj => (hslot j).trans (slotRuleAt_other hj _), ?_⟩
    rw [hrule]

theorem slotRule_link (now : Word) (use : Bool) (k : CameraIntake) :
    (slotRule now use k).link = k.link ∧ (slotRule now use k).lost = k.lost := by
  rw [slotRule]
  split
  · split <;> exact ⟨rfl, rfl⟩
  · exact ⟨rfl, rfl⟩

theorem slotRule_picture (now : Word) (use : Bool) (k : CameraIntake) (i : Fin 3) :
    ((slotRule now use k).slots.get i).picture = (k.slots.get i).picture := by
  cases use with
  | false => rfl
  | true =>
    by_cases h : ∃ i, (k.slots.get i).state = .ready
    · obtain ⟨j, _, _, htaken, hothers, _⟩ := slotRule_ready (now := now) h
      by_cases hi : i = j
      · rw [hi, htaken]
      · rw [hothers i hi]
    · rw [slotRule_not_ready fun i hi => h ⟨i, hi⟩]

/-! ### The dwell (R145) -/

/-- The arbiter once its dwell has ended, with the decision while RUNNING. -/
def dwellEnded (running : Prop) [Decidable running] (a : Arbiter) : Arbiter :=
  if running then decideArbiter { a with state := .settled, dwell := 0 } else { a with state := .settled, dwell := 0 }

theorem countDwell_last {s : State} (hstate : s.arbiter.state = .dwell) (hdwell : s.arbiter.dwell ≤ 1) :
    (countDwell s).arbiter = dwellEnded (s.mode = .running) s.arbiter := by
  rw [countDwell, if_pos hstate, if_pos hdwell, decisionEvent_arbiter]
  rfl

theorem countDwell_further {s : State} (hstate : s.arbiter.state = .dwell) (hdwell : ¬ s.arbiter.dwell ≤ 1) :
    (countDwell s).arbiter = { s.arbiter with dwell := s.arbiter.dwell - 1 } := by
  rw [countDwell, if_pos hstate, if_neg hdwell]
  rfl

/-- No decision changes the shown layout. -/
theorem decideArbiter_shown (a : Arbiter) : (decideArbiter a).shown = a.shown := by
  have hgrant : ∀ (w : Winner) (b : Arbiter), (grantWinner w b).shown = b.shown := fun w b => by rw [grantWinner_eq]
  cases hstate : a.state with
  | service => rw [decideArbiter_of_service hstate]
  | firstFrame | dwell =>
    rw [decideArbiter_of_firstFrame_or_dwell (by simp [hstate])]
    split
    · rfl
    · split <;> rfl
  | settled =>
    by_cases h : a.shown = some (.stored (winner a).layout)
    · rw [decideArbiter_of_settled_of_shown hstate h, hgrant]
    · rw [decideArbiter_of_settled_or_targetHeld_of_not_shown (.inl hstate) h]
      rfl
  | targetHeld =>
    by_cases h : a.shown = some (.stored (winner a).layout)
    · rw [decideArbiter_of_targetHeld_of_shown hstate h, hgrant]
    · rw [decideArbiter_of_settled_or_targetHeld_of_not_shown (.inr hstate) h]
      rfl

theorem dwellEnded_shown (running : Prop) [Decidable running] (a : Arbiter) : (dwellEnded running a).shown = a.shown := by
  rw [dwellEnded]
  split
  · exact decideArbiter_shown _
  · rfl

theorem dwellIf_shown (b : Bool) (s : State) : (dwellIf b s).arbiter.shown = s.arbiter.shown := by
  rw [dwellIf]
  split
  · by_cases hstate : s.arbiter.state = .dwell
    · by_cases hdwell : s.arbiter.dwell ≤ 1
      · rw [countDwell_last hstate hdwell, dwellEnded_shown]
      · rw [countDwell_further hstate hdwell]
    · rw [countDwell, if_neg hstate]
  · rfl

theorem arbiterReported_shown (s : State) : (arbiterReported s).shown = s.arbiter.shown := by
  rw [arbiterReported]
  split
  · split
    · split
      · exact decideArbiter_shown _
      · rfl
    · rfl
  · rfl

end Sys2Proof.Machine
end

section
/-! PROOFS. The output frame start in LAYOUT mode, step by step (R77): O26. -/

namespace Sys2Proof.Machine

/-! ### The states between the steps -/

/-- The state once the trigger conditions that count first have counted (R151). -/
def countedState (s : State) : State :=
  countdownIf (Config.countdownFirst s.draws) s.incident.triggers (frameBegun s)

/-- The state after steps 1 and 2. -/
def closedState (written : Option TileSide) (s : State) : State := closeFrame written (countedState s)

/-- Whether the dwell counts before step 3, and whether it counts after step 7 (R145). -/
def dwellsEarly (s : State) : Bool := decide (s.arbiter.state = .dwell) && Config.dwellDecidesFirst s.draws

def dwellsLate (s : State) : Bool := decide (s.arbiter.state = .dwell) && !Config.dwellDecidesFirst s.draws

/-- The state as step 3 finds it. -/
def dweltState (written : Option TileSide) (s : State) : State := dwellIf (dwellsEarly s) (closedState written s)

/-- The state as step 3 leaves it. -/
def adoptedState (written : Option TileSide) (s : State) : State := adoptStep (dweltState written s)

/-- The state after step 7 and a dwell that counts late. -/
def openedState (written : Option TileSide) (s : State) : State :=
  dwellIf (dwellsLate s) (beginFrame (adoptedState written s))

theorem frameEvents_eq (written : Option TileSide) (s : State) :
    frameEvents written s =
      countdownIf (!Config.countdownFirst s.draws) s.incident.triggers (openedState written s) := rfl

theorem countedState_keeps (s : State) : KeepsBut [.frame, .draws, .incident, .ports] s (countedState s) :=
  (frameBegun_keeps s).chain (countdownIf_keeps _ _ _)

theorem countedState_frame (s : State) : (countedState s).frame = s.frame + 1#32 :=
  countdownIf_keeps (Config.countdownFirst s.draws) s.incident.triggers (frameBegun s) .frame (by decide)

theorem closedState_keeps (written : Option TileSide) (s : State) :
    KeepsBut [.frame, .draws, .incident, .ports, .arbiter, .compositor] s (closedState written s) :=
  (countedState_keeps s).chain (closeFrame_keeps written _)

theorem closedState_frame (written : Option TileSide) (s : State) : (closedState written s).frame = s.frame + 1#32 :=
  (closeFrame_keeps written (countedState s) .frame (by decide)).trans (countedState_frame s)

theorem dweltState_keeps (written : Option TileSide) (s : State) :
    KeepsBut [.arbiter] (closedState written s) (dweltState written s) := dwellIf_keeps _ _

theorem dweltState_keeps_all (written : Option TileSide) (s : State) :
    KeepsBut [.frame, .draws, .incident, .ports, .arbiter, .compositor] s (dweltState written s) :=
  (closedState_keeps written s).chain (dweltState_keeps written s)

theorem dweltState_frame (written : Option TileSide) (s : State) : (dweltState written s).frame = s.frame + 1#32 :=
  (dweltState_keeps written s .frame (by decide)).trans (closedState_frame written s)

theorem adoptedState_keeps (written : Option TileSide) (s : State) :
    KeepsBut [.frame, .draws, .incident, .ports, .arbiter, .compositor, .remap] s (adoptedState written s) :=
  (dweltState_keeps_all written s).chain (adoptStep_keeps _)

theorem openedState_keeps (written : Option TileSide) (s : State) :
    KeepsBut [.arbiter, .intake, .remap, .compositor] (adoptedState written s) (openedState written s) :=
  (beginFrame_keeps _).chain (dwellIf_keeps _ _)

/-! ### Steps 1 and 2 -/

/-- The output store and the picture sent at the end of a frame. -/
def sentStore (ref : LayoutRef) (written : Option TileSide) (s : State) : List (Nat × Pixel) :=
  (heldState ref written (countedState s)).compositor.store

section Closed

variable {s : State} {ref : LayoutRef} (hmode : s.compositor.mode = .layout) (href : s.compositor.inEffect = some ref)
  (written : Option TileSide)

theorem endingTiles_counted (ref : LayoutRef) (written : Option TileSide) (s : State) :
    endingTiles ref written (countedState s) = endingTiles ref written s := by
  have hcompositor : (countedState s).compositor = s.compositor := countedState_keeps s .compositor (by decide)
  have hloaded : (countedState s).loaded = s.loaded := countedState_keeps s .loaded (by decide)
  rw [endingTiles, endingTiles, hcompositor, hloaded]

theorem heldState_pending (ref : LayoutRef) (written : Option TileSide) (s : State) :
    (heldState ref written (countedState s)).compositor.reportPending = s.compositor.reportPending := by
  have hcompositor : (countedState s).compositor = s.compositor := countedState_keeps s .compositor (by decide)
  rw [heldState_compositor, hcompositor]

include hmode href

theorem closedState_held :
    closedState written s = sendPicture (reportIfPending (heldState ref written (countedState s))) := by
  have hcompositor : (countedState s).compositor = s.compositor := countedState_keeps s .compositor (by decide)
  exact closeFrame_held (by rw [hcompositor]; exact hmode) (by rw [hcompositor]; exact href) written

theorem closedState_compositor :
    (closedState written s).compositor =
      { s.compositor with
        held := satAdd s.compositor.held (endingTiles ref written s).length
        store := sentStore ref written s
        sent := sentStore ref written s
        reportPending := false } := by
  have hcompositor : (countedState s).compositor = s.compositor := countedState_keeps s .compositor (by decide)
  have hheld := heldState_compositor ref written (countedState s)
  rw [endingTiles_counted, hcompositor] at hheld
  rw [closedState_held hmode href]
  show ({ (reportIfPending (heldState ref written (countedState s))).compositor with
    sent := (reportIfPending (heldState ref written (countedState s))).compositor.store } : Compositor) = _
  rw [reportIfPending_compositor, hheld]
  rfl

theorem closedState_arbiter :
    (closedState written s).arbiter = if s.compositor.reportPending then arbiterReported s else s.arbiter := by
  have hkeeps := (countedState_keeps s).trans (heldState_keeps ref written (countedState s))
  have harbiter : (heldState ref written (countedState s)).arbiter = s.arbiter := hkeeps .arbiter (by decide)
  have hloaded : (heldState ref written (countedState s)).loaded = s.loaded := hkeeps .loaded (by decide)
  have hloader : (heldState ref written (countedState s)).loader = s.loader := hkeeps .loader (by decide)
  have hreported : arbiterReported (heldState ref written (countedState s)) = arbiterReported s := by
    unfold arbiterReported State.mode
    rw [harbiter, hloaded, hloader]
  rw [closedState_held hmode href]
  refine (reportIfPending_arbiter _).trans ?_
  rw [heldState_pending, hreported, harbiter]

theorem closedState_notices :
    NoticesOnly s (closedState written s) ∧
      NoticesRaised (if s.compositor.reportPending then [.viewChanged] else []) s (closedState written s) := by
  obtain ⟨hcounted, hmarked⟩ := countdownIf_ports (Config.countdownFirst s.draws) s.incident.triggers (frameBegun s)
  obtain ⟨honly, hraised⟩ := reportIfPending_notices (heldState ref written (countedState s))
  have hheld : (heldState ref written (countedState s)).ports = (countedState s).ports :=
    heldState_keeps ref written (countedState s) .ports (by decide)
  have hheldLoaded : (heldState ref written (countedState s)).loaded = (countedState s).loaded :=
    heldState_keeps ref written (countedState s) .loaded (by decide)
  have hloaded : (countedState s).loaded = s.loaded := countedState_keeps s .loaded (by decide)
  rw [heldState_pending] at hraised
  rw [closedState_held hmode href]
  have hbefore : NoticesOnly s (heldState ref written (countedState s)) := hcounted.trans (NoticesOnly.of_ports hheld)
  have hbeforeRaised : NoticesRaised [] s (heldState ref written (countedState s)) :=
    hmarked.trans (NoticesRaised.of_ports hheld) (by rw [show (countdownIf (Config.countdownFirst s.draws)
      s.incident.triggers (frameBegun s)).loaded = s.loaded from hloaded]; rfl)
  exact ⟨hbefore.trans honly, hbeforeRaised.trans hraised (by rw [hheldLoaded, hloaded])⟩

end Closed

/-! ### The incident unit (R151) -/

/-- The VIEW record of a report that is pending is offered (R81). -/
def viewOffered (ref : LayoutRef) (s x : State) : State :=
  if s.compositor.reportPending then offerRecord (.view (some ref) (winningSource s.arbiter)) x else x

theorem SameFirings.of_keeps {s t u : State} {bs : List Block} (h : SameFirings s t) (k : KeepsBut bs t u)
    (hbs : ∀ b ∈ ([.loader, .loaded, .incident, .frame, .ms, .alert, .arbiter, .tracker] : List Block), b ∉ bs := by decide) :
    SameFirings s u := by
  have hloader : u.loader = t.loader := k .loader (hbs _ (by simp))
  have hloaded : u.loaded = t.loaded := k .loaded (hbs _ (by simp))
  have hincident : u.incident = t.incident := k .incident (hbs _ (by simp))
  have hframe : u.frame = t.frame := k .frame (hbs _ (by simp))
  have hms : u.ms = t.ms := k .ms (hbs _ (by simp))
  have halert : u.alert = t.alert := k .alert (hbs _ (by simp))
  have harbiter : u.arbiter = t.arbiter := k .arbiter (hbs _ (by simp))
  have htracker : u.tracker = t.tracker := k .tracker (hbs _ (by simp))
  exact ⟨hloader ▸ h.mode, hloaded ▸ h.triggers, hincident.trans h.incident, hframe.trans h.frame, hms.trans h.ms,
    halert.trans h.alert, harbiter ▸ h.shown, htracker ▸ h.tracks⟩

section Incident

variable {s : State} {ref : LayoutRef} (hmode : s.compositor.mode = .layout) (href : s.compositor.inEffect = some ref)
  (written : Option TileSide)

include hmode href

/-- Steps 1 and 2 offer the VIEW record to the conditions as they stand. -/
theorem closedState_incident {x : State} (h : SameFirings x (countedState s)) :
    (closedState written s).incident = (viewOffered ref s x).incident := by
  have hfirings := h.of_keeps (heldState_keeps ref written (countedState s))
  have hkeeps := (countedState_keeps s).trans (heldState_keeps ref written (countedState s))
  have harbiter : (heldState ref written (countedState s)).arbiter = s.arbiter := hkeeps .arbiter (by decide)
  have heffect : (heldState ref written (countedState s)).compositor.inEffect = some ref := by
    have hcompositor : (countedState s).compositor = s.compositor := countedState_keeps s .compositor (by decide)
    rw [heldState_compositor, hcompositor]
    exact href
  rw [closedState_held hmode href]
  refine (reportIfPending_incident _).trans ?_
  rw [heldState_pending, viewOffered, viewRecord, harbiter, heffect]
  split
  · exact hfirings.offer _
  · exact hfirings.incident

/-- The incident unit after the countdown, on either side of the compositor's actions. -/
theorem frameEvents_incident :
    (frameEvents written s).incident =
        (viewOffered ref s (countTriggers s.incident.triggers { s with frame := s.frame + 1#32 })).incident ∨
      (frameEvents written s).incident =
        (countTriggers s.incident.triggers
          { viewOffered ref s { s with frame := s.frame + 1#32 } with arbiter := (openedState written s).arbiter }).incident := by
  have hbegun : SameFirings { s with frame := s.frame + 1#32 } (frameBegun s) :=
    ⟨rfl, rfl, rfl, rfl, rfl, rfl, rfl, rfl⟩
  have hadopted : (adoptedState written s).incident = (closedState written s).incident :=
    (adoptStep_keeps _ .incident (by decide)).trans (dweltState_keeps written s .incident (by decide))
  have hopened : (openedState written s).incident = (closedState written s).incident :=
    (openedState_keeps written s .incident (by decide)).trans hadopted
  rw [frameEvents_eq]
  cases hfirst : Config.countdownFirst s.draws with
  | true =>
    left
    refine hopened.trans (closedState_incident hmode href written ?_)
    have hcounted := hbegun.count s.incident.triggers
    rw [countedState, hfirst]
    show SameFirings _ (countTriggers s.incident.triggers (frameBegun s))
    exact ⟨by simp; rfl, by simp; rfl, hcounted, by simp; rfl, by simp; rfl, by simp; rfl, by simp; rfl, by simp; rfl⟩
  | false =>
    right
    have hoffered : (closedState written s).incident = (viewOffered ref s { s with frame := s.frame + 1#32 }).incident := by
      refine closedState_incident hmode href written ?_
      rw [countedState, hfirst]
      exact hbegun
    have hkeeps := (adoptedState_keeps written s).trans (openedState_keeps written s)
    have hview : KeepsBut [.incident, .ports] { s with frame := s.frame + 1#32 }
        (viewOffered ref s { s with frame := s.frame + 1#32 }) := by
      rw [viewOffered]
      split
      · exact offerRecord_keeps _ _
      · exact KeepsBut.refl _ _
    have hframe : (openedState written s).frame = s.frame + 1#32 :=
      ((openedState_keeps written s .frame (by decide)).trans (adoptStep_keeps _ .frame (by decide))).trans
        (dweltState_frame written s)
    have hloader : (openedState written s).loader = s.loader := hkeeps .loader (by decide)
    have hloaded : (openedState written s).loaded = s.loaded := hkeeps .loaded (by decide)
    have hms : (openedState written s).ms = s.ms := hkeeps .ms (by decide)
    have halert : (openedState written s).alert = s.alert := hkeeps .alert (by decide)
    have htracker : (openedState written s).tracker = s.tracker := hkeeps .tracker (by decide)
    have hvloader : (viewOffered ref s { s with frame := s.frame + 1#32 }).loader = s.loader := hview .loader (by decide)
    have hvloaded : (viewOffered ref s { s with frame := s.frame + 1#32 }).loaded = s.loaded := hview .loaded (by decide)
    have hvframe : (viewOffered ref s { s with frame := s.frame + 1#32 }).frame = s.frame + 1#32 :=
      hview .frame (by decide)
    have hvms : (viewOffered ref s { s with frame := s.frame + 1#32 }).ms = s.ms := hview .ms (by decide)
    have hvalert : (viewOffered ref s { s with frame := s.frame + 1#32 }).alert = s.alert := hview .alert (by decide)
    have hvtracker : (viewOffered ref s { s with frame := s.frame + 1#32 }).tracker = s.tracker :=
      hview .tracker (by decide)
    have hsame : SameFirings
        { viewOffered ref s { s with frame := s.frame + 1#32 } with arbiter := (openedState written s).arbiter }
        (openedState written s) :=
      { mode := congrArg Loader.mode (hloader.trans hvloader.symm)
        triggers := congrArg Loaded.triggers (hloaded.trans hvloaded.symm)
        incident := hopened.trans hoffered
        frame := hframe.trans hvframe.symm
        ms := hms.trans hvms.symm
        alert := halert.trans hvalert.symm
        shown := rfl
        tracks := congrArg Tracker.tracks (htracker.trans hvtracker.symm) }
    exact hsame.count s.incident.triggers

end Incident

end Sys2Proof.Machine
end

section
/-! PROOFS. The output frame start in LAYOUT mode: what step 3 adopts, what steps 4 to 7 begin, and O26. -/

namespace Sys2Proof.Machine

/-- The target that step 3 adopts (R143). -/
def adoptedTarget (written : Option TileSide) (s : State) : Option SwitchTarget := adoptable (dweltState written s)

/-! ### Step 3 -/

section Adopted

variable {s : State} {ref : LayoutRef} (hmode : s.compositor.mode = .layout) (href : s.compositor.inEffect = some ref)
  (written : Option TileSide)

theorem adoptedTarget_eq (written : Option TileSide) (s : State) :
    adoptedTarget written s =
      if s.mode ≠ .starting ∧
          ((dweltState written s).arbiter.state = .targetHeld ∨ (dweltState written s).arbiter.state = .service) then
        (dweltState written s).arbiter.target
      else none := by
  have hloader : (dweltState written s).loader = s.loader := dweltState_keeps_all written s .loader (by decide)
  unfold adoptedTarget adoptable State.mode
  rw [hloader]
  by_cases hstarting : s.loader.mode = .starting
  · rw [if_pos hstarting, if_neg fun h => h.1 hstarting]
  · rw [if_neg hstarting]
    simp only [ne_eq, hstarting, not_false_iff, true_and]

theorem adoptedState_arbiter (written : Option TileSide) (s : State) :
    (adoptedState written s).arbiter = arbiterAfter (adoptedTarget written s) (dweltState written s).arbiter :=
  adoptStep_arbiter _

include hmode href

theorem dweltState_compositor :
    (dweltState written s).compositor =
      { s.compositor with
        held := satAdd s.compositor.held (endingTiles ref written s).length
        store := sentStore ref written s
        sent := sentStore ref written s
        reportPending := false } :=
  (dweltState_keeps written s .compositor (by decide)).trans (closedState_compositor hmode href written)

/-- The compositor after step 3: the target that is adopted, and its background. -/
theorem adoptedState_compositor :
    (adoptedState written s).compositor =
      { s.compositor with
        mode := .layout
        inEffect := some (effectAfter (adoptedTarget written s) ref)
        adoptedAt := if adoptedTarget written s = none then s.compositor.adoptedAt else s.frame + 1#32
        reportPending := (adoptedTarget written s).isSome
        held := satAdd s.compositor.held (endingTiles ref written s).length
        store := (adoptedState written s).compositor.store
        sent := sentStore ref written s } := by
  have hdwelt := dweltState_compositor hmode href written
  cases htarget : adoptedTarget written s with
  | none =>
    have hadopted : (adoptedState written s).compositor = (dweltState written s).compositor :=
      adoptStep_compositor_none _ htarget
    rw [hadopted, hdwelt, if_pos rfl, effectAfter, ← hmode, ← href]
    rfl
  | some x =>
    have hadopted := adoptStep_compositor_some (dweltState written s) htarget
    rw [dweltState_frame, hdwelt] at hadopted
    have hstore : (adoptedState written s).compositor.store = adoptedStore x (dweltState written s) := by
      rw [adoptedState, hadopted]
    rw [hstore, if_neg (by simp)]
    exact hadopted

theorem adoptedState_store_none (htarget : adoptedTarget written s = none) :
    (adoptedState written s).compositor.store = sentStore ref written s := by
  have hadopted : (adoptedState written s).compositor = (dweltState written s).compositor :=
    adoptStep_compositor_none _ htarget
  rw [hadopted, dweltState_compositor hmode href]

theorem adoptedState_store_some (hwf : sparseWf blackPixel (sentStore ref written s) = true) {g : SwitchTarget}
    (htarget : adoptedTarget written s = some g) {x y : Nat} (hx : x < 1280) (hy : y < 768) :
    sparseRead blackPixel (adoptedState written s).compositor.store (y * 1280 + x) =
      if ∃ p ∈ (resolveLayout s.loaded g.layout).panes,
          p.left ≤ x ∧ x < p.left + p.width ∧ p.top ≤ y ∧ y < p.top + p.height then
        sparseRead blackPixel (sentStore ref written s) (y * 1280 + x)
      else colourOf s.loaded.palette 0 := by
  have hstore : (dweltState written s).compositor.store = sentStore ref written s := by
    rw [dweltState_compositor hmode href]
  have hloaded : (dweltState written s).loaded = s.loaded := dweltState_keeps_all written s .loaded (by decide)
  have hadopted : (adoptedState written s).compositor.store = adoptedStore g (dweltState written s) := by
    rw [adoptedState, adoptStep_compositor_some _ htarget]
  have hread := adoptedStore_read (s := dweltState written s) (by rw [hstore]; exact hwf) g hx hy
  rw [hloaded, hstore] at hread
  exact hadopted ▸ hread

theorem adoptedState_effect :
    effectLayout (adoptedState written s) = some (resolveLayout s.loaded (effectAfter (adoptedTarget written s) ref)) := by
  have hloaded : (adoptedState written s).loaded = s.loaded := adoptedState_keeps written s .loaded (by decide)
  rw [effectLayout, adoptedState_compositor hmode href, hloaded]
  rfl

end Adopted

/-- The remap unit after step 3 (R68, R70). -/
theorem adoptedState_remap (written : Option TileSide) (s : State) :
    (adoptedState written s).remap =
      match adoptedTarget written s with
      | none => frameStartRemap s.remap
      | some g => takeEffect (resolveLayout s.loaded g.layout) (frameStartRemap s.remap) := by
  have hremap : (dweltState written s).remap = s.remap := dweltState_keeps_all written s .remap (by decide)
  have hloaded : (dweltState written s).loaded = s.loaded := dweltState_keeps_all written s .loaded (by decide)
  have hadopted := adoptStep_remap (dweltState written s)
  rw [hremap, hloaded] at hadopted
  exact hadopted

theorem adoptedState_remap_only (written : Option TileSide) (s : State) :
    (adoptedState written s).remap =
      { s.remap with
        faulted := [], inUse := none, entries := (adoptedState written s).remap.entries
        pinned := (adoptedState written s).remap.pinned, pointer := (adoptedState written s).remap.pointer } := by
  rw [adoptedState_remap]
  cases adoptedTarget written s <;> rfl

theorem adoptedState_pins {written : Option TileSide} {s : State} {g : SwitchTarget} (h : adoptedTarget written s = some g) :
    (adoptedState written s).remap.pinned =
        (if (resolveLayout s.loaded g.layout).critical then min (resolveLayout s.loaded g.layout).pairs 32 else 0) ∧
      (adoptedState written s).remap.pointer =
        (if (adoptedState written s).remap.pinned = s.remap.pinned then s.remap.pointer else 39) ∧
      (adoptedState written s).remap.entries.length = s.remap.entries.length ∧
      ∀ n, (adoptedState written s).remap.entry n =
        if n < (adoptedState written s).remap.pinned ∧
            (s.remap.entry n).key ≠ (locatePair (resolveLayout s.loaded g.layout) n).map
              (placeKey (resolveLayout s.loaded g.layout)) then .empty
        else s.remap.entry n := by
  rw [adoptedState_remap, h]
  exact ⟨rfl, rfl, List.length_mapIdx, fun n => takeEffect_entry _ (frameStartRemap s.remap) n⟩

/-! ### Steps 4 to 7, and the lines -/

section Begun

variable {s : State} {ref : LayoutRef} (hmode : s.compositor.mode = .layout) (href : s.compositor.inEffect = some ref)
  (written : Option TileSide)

/-- The layout that the frame then beginning draws. -/
def begunLayout (written : Option TileSide) (ref : LayoutRef) (s : State) : Layout :=
  resolveLayout s.loaded (effectAfter (adoptedTarget written s) ref)

/-- The snapshot of the frame then beginning. -/
def begunSnapshot (written : Option TileSide) (ref : LayoutRef) (s : State) : Snapshot :=
  takeSnapshot ((s.compositor.generators.map stepGenerator).map gateOpen)
    (applySlotRule (begunLayout written ref s) (adoptedState written s))

include hmode href

theorem begun_eq :
    beginFrame (adoptedState written s) =
      { adoptedState written s with
        intake := s.intake.mapIdx fun c k => slotRule s.ms ((begunLayout written ref s).cameras.getLsbD c.val) k
        remap := (firstLookup (begunLayout written ref s) (adoptedState written s)).1
        compositor :=
          { (adoptedState written s).compositor with
            generators := s.compositor.generators.map stepGenerator
            snapshot := some (begunSnapshot written ref s)
            work := (firstLookup (begunLayout written ref s) (adoptedState written s)).2 } } := by
  have hcompositor := adoptedState_compositor hmode href written
  have hgenerators : (adoptedState written s).compositor.generators = s.compositor.generators := by rw [hcompositor]
  have hlayout : (adoptedState written s).compositor.mode = .layout := by rw [hcompositor]
  have hintake : (adoptedState written s).intake = s.intake := adoptedState_keeps written s .intake (by decide)
  have hms : (adoptedState written s).ms = s.ms := adoptedState_keeps written s .ms (by decide)
  have hslots : ((adoptedState written s).intake.mapIdx fun c k =>
      slotRule (adoptedState written s).ms ((begunLayout written ref s).cameras.getLsbD c.val) k) =
      s.intake.mapIdx fun c k => slotRule s.ms ((begunLayout written ref s).cameras.getLsbD c.val) k := by rw [hintake, hms]
  rw [beginFrame_layout hlayout (adoptedState_effect hmode href written), hgenerators, ← hslots]
  rfl

theorem openedState_compositor :
    (openedState written s).compositor =
      { (adoptedState written s).compositor with
        generators := s.compositor.generators.map stepGenerator
        snapshot := some (begunSnapshot written ref s)
        work := (firstLookup (begunLayout written ref s) (adoptedState written s)).2 } :=
  (dwellIf_keeps (dwellsLate s) (beginFrame (adoptedState written s)) .compositor (by decide)).trans
    (congrArg State.compositor (begun_eq hmode href written))

theorem openedState_remap :
    (openedState written s).remap = (firstLookup (begunLayout written ref s) (adoptedState written s)).1 :=
  (dwellIf_keeps (dwellsLate s) (beginFrame (adoptedState written s)) .remap (by decide)).trans
    (congrArg State.remap (begun_eq hmode href written))

theorem openedState_intake (c : Camera) :
    (openedState written s).intake.get c =
      slotRule s.ms ((begunLayout written ref s).cameras.getLsbD c.val) (s.intake.get c) := by
  have hopened : (openedState written s).intake =
      s.intake.mapIdx fun c k => slotRule s.ms ((begunLayout written ref s).cameras.getLsbD c.val) k :=
    (dwellIf_keeps (dwellsLate s) (beginFrame (adoptedState written s)) .intake (by decide)).trans
      (congrArg State.intake (begun_eq hmode href written))
  rw [hopened, Quad.get_mapIdx]

end Begun

/-- The lookup of pair 0 in the frame then beginning, from the remap unit as step 3 leaves it. -/
theorem firstLookup_adopted (l : Layout) (written : Option TileSide) (s : State) :
    match locatePair l 0 with
    | none => firstLookup l (adoptedState written s) = ((adoptedState written s).remap, .done)
    | some w =>
      firstLookup l (adoptedState written s) =
        ((lookupPair l 0 w { s with remap := (adoptedState written s).remap }).remap,
          (lookupPair l 0 w { s with remap := (adoptedState written s).remap }).compositor.work) := by
  have hsame : firstLookup l (adoptedState written s) =
      firstLookup l { s with remap := (adoptedState written s).remap } := firstLookup_congr l rfl
  rw [hsame, firstLookup]
  cases locatePair l 0 <;> rfl

/-! ### The arbiter (R143, R144, R145) -/

section Arbiter

variable {s : State} {ref : LayoutRef} (hmode : s.compositor.mode = .layout) (href : s.compositor.inEffect = some ref)
  (written : Option TileSide)

/-- With no dwell running as the event begins, the dwell counts nowhere. -/
theorem dwells_not {s : State} (h : s.arbiter.state ≠ .dwell) : dwellsEarly s = false ∧ dwellsLate s = false := by
  unfold dwellsEarly dwellsLate
  rw [decide_eq_false h]
  exact ⟨rfl, rfl⟩

theorem openedState_arbiter_not (h : s.arbiter.state ≠ .dwell) :
    (dweltState written s).arbiter = (closedState written s).arbiter ∧
      (openedState written s).arbiter = (adoptedState written s).arbiter := by
  obtain ⟨hearly, hlate⟩ := dwells_not h
  rw [dweltState, openedState, hearly, hlate, dwellIf_false, dwellIf_false]
  exact ⟨rfl, beginFrame_keeps _ .arbiter (by decide)⟩

theorem arbiterAfter_of_dwell {written : Option TileSide} {s : State} (h : (dweltState written s).arbiter.state = .dwell) :
    adoptedTarget written s = none := by
  rw [adoptedTarget_eq, h]
  exact if_neg (by simp)

include hmode href

theorem closedState_arbiter_dwelling (h : s.arbiter.state = .dwell) : (closedState written s).arbiter = s.arbiter := by
  have hreported : arbiterReported s = s.arbiter := if_neg (by rw [h]; decide)
  rw [closedState_arbiter hmode href, hreported]
  exact ite_self _

/-- A dwell counts on one side of the adoption. -/
theorem openedState_arbiter_dwelling (h : s.arbiter.state = .dwell) :
    ((dweltState written s).arbiter = (countDwell (closedState written s)).arbiter ∧
        (openedState written s).arbiter = (adoptedState written s).arbiter) ∨
      ((dweltState written s).arbiter = s.arbiter ∧
        (openedState written s).arbiter = (countDwell (closedState written s)).arbiter) := by
  have hclosed := closedState_arbiter_dwelling hmode href written h
  have hbegun : (beginFrame (adoptedState written s)).arbiter = (adoptedState written s).arbiter :=
    beginFrame_keeps _ .arbiter (by decide)
  cases hside : Config.dwellDecidesFirst s.draws with
  | true =>
    have hearly : dwellsEarly s = true := by rw [dwellsEarly, h, hside]; rfl
    have hlate : dwellsLate s = false := by rw [dwellsLate, h, hside]; rfl
    left
    rw [openedState, hlate, dwellIf_false, dweltState, hearly]
    exact ⟨rfl, hbegun⟩
  | false =>
    have hearly : dwellsEarly s = false := by rw [dwellsEarly, h, hside]; rfl
    have hlate : dwellsLate s = true := by rw [dwellsLate, h, hside]; rfl
    have hdwelt : (dweltState written s).arbiter = s.arbiter := by
      rw [dweltState, hearly, dwellIf_false, hclosed]
    have hadopted : (adoptedState written s).arbiter = s.arbiter := by
      rw [adoptedState_arbiter, arbiterAfter_of_dwell (by rw [hdwelt]; exact h), hdwelt]
      rfl
    right
    refine ⟨hdwelt, ?_⟩
    have hbefore : (beginFrame (adoptedState written s)).arbiter = s.arbiter := hbegun.trans hadopted
    have hloader : (beginFrame (adoptedState written s)).loader = (closedState written s).loader :=
      (beginFrame_keeps _ .loader (by decide)).trans
        ((adoptStep_keeps _ .loader (by decide)).trans (dweltState_keeps written s .loader (by decide)))
    rw [openedState, hlate]
    show (countDwell (beginFrame (adoptedState written s))).arbiter = _
    by_cases hdwell : s.arbiter.dwell ≤ 1
    · rw [countDwell_last (by rw [hbefore]; exact h) (by rw [hbefore]; exact hdwell),
        countDwell_last (by rw [hclosed]; exact h) (by rw [hclosed]; exact hdwell), hbefore, hclosed, State.mode, hloader]
      rfl
    · rw [countDwell_further (by rw [hbefore]; exact h) (by rw [hbefore]; exact hdwell),
        countDwell_further (by rw [hclosed]; exact h) (by rw [hclosed]; exact hdwell), hbefore, hclosed]

theorem countDwell_closed_last (h : s.arbiter.state = .dwell) (hdwell : s.arbiter.dwell ≤ 1) :
    (countDwell (closedState written s)).arbiter = dwellEnded (s.mode = .running) s.arbiter := by
  have hclosed := closedState_arbiter_dwelling hmode href written h
  have hloader : (closedState written s).loader = s.loader := closedState_keeps written s .loader (by decide)
  rw [countDwell_last (by rw [hclosed]; exact h) (by rw [hclosed]; exact hdwell), hclosed, State.mode, hloader]
  rfl

theorem countDwell_closed_further (h : s.arbiter.state = .dwell) (hdwell : ¬ s.arbiter.dwell ≤ 1) :
    (countDwell (closedState written s)).arbiter = { s.arbiter with dwell := s.arbiter.dwell - 1 } := by
  have hclosed := closedState_arbiter_dwelling hmode href written h
  rw [countDwell_further (by rw [hclosed]; exact h) (by rw [hclosed]; exact hdwell), hclosed]

theorem dweltState_shown : (dweltState written s).arbiter.shown = s.arbiter.shown := by
  rw [dweltState, dwellIf_shown, closedState_arbiter hmode href]
  split
  · exact arbiterReported_shown s
  · rfl

end Arbiter

/-! ### The ports -/

section Ports

variable {s : State} {ref : LayoutRef} (hmode : s.compositor.mode = .layout) (href : s.compositor.inEffect = some ref)
  (written : Option TileSide)

include hmode href

theorem openedState_can :
    (openedState written s).ports = { (closedState written s).ports with can := (openedState written s).ports.can } ∧
      ∀ p, (openedState written s).ports.can.get p =
        { (closedState written s).ports.can.get p with
          owed := ((closedState written s).ports.can.get p).owed || match adoptedTarget written s with
            | none => false
            | some x => decide (s.arbiter.shown ≠ some x.layout) } := by
  obtain ⟨honly, howed⟩ := adoptStep_ports (dweltState written s)
  have hdwelt : (dweltState written s).ports = (closedState written s).ports :=
    dweltState_keeps written s .ports (by decide)
  have hopened : (openedState written s).ports = (adoptedState written s).ports :=
    openedState_keeps written s .ports (by decide)
  rw [hdwelt] at honly howed
  rw [dweltState_shown hmode href] at howed
  rw [hopened]
  exact ⟨honly, howed⟩

theorem frameEvents_ports :
    (frameEvents written s).ports =
        { s.ports with
          sending := (frameEvents written s).ports.sending, waiting := (frameEvents written s).ports.waiting
          pendingSets := (frameEvents written s).ports.pendingSets, can := (frameEvents written s).ports.can } ∧
      (∀ p, (frameEvents written s).ports.can.get p =
        { s.ports.can.get p with
          owed := (s.ports.can.get p).owed || match adoptedTarget written s with
            | none => false
            | some x => decide (s.arbiter.shown ≠ some x.layout) }) ∧
      NoticesRaised (if s.compositor.reportPending then [.viewChanged] else []) s (frameEvents written s) := by
  obtain ⟨hclosed, hraised⟩ := closedState_notices hmode href written
  obtain ⟨hopened, howed⟩ := openedState_can hmode href written
  obtain ⟨hcounted, hmarked⟩ :=
    countdownIf_ports (!Config.countdownFirst s.draws) s.incident.triggers (openedState written s)
  rw [← frameEvents_eq] at hcounted hmarked
  have hcan : (frameEvents written s).ports.can = (openedState written s).ports.can := by
    rw [show (frameEvents written s).ports = _ from hcounted]
  have hclosedCan : (closedState written s).ports.can = s.ports.can := by
    rw [show (closedState written s).ports = _ from hclosed]
  have hloaded : (openedState written s).loaded.ports = s.loaded.ports :=
    congrArg Loaded.ports (((adoptedState_keeps written s).trans (openedState_keeps written s)) .loaded (by decide))
  have hclosedLoaded : (closedState written s).loaded.ports = s.loaded.ports :=
    congrArg Loaded.ports (closedState_keeps written s .loaded (by decide))
  have hpending : NoticesRaised [] (closedState written s) (openedState written s) := by
    intro m k _
    rw [hopened]
    simp
  refine ⟨?_, fun p => ?_, ?_⟩
  · rw [hcan, show (frameEvents written s).ports = _ from hcounted, hopened, show (closedState written s).ports = _ from hclosed]
  · rw [hcan, howed, hclosedCan]
  · have hall := (hraised.trans hpending hclosedLoaded).trans hmarked hloaded
    rwa [List.append_nil, List.append_nil] at hall

end Ports

end Sys2Proof.Machine
end

section
/-! PROOFS. The whole output frame start in LAYOUT mode (R77): O26. -/

namespace Sys2Proof.Machine

section Outcome

variable {s : State} {ref : LayoutRef} (hmode : s.compositor.mode = .layout) (href : s.compositor.inEffect = some ref)
  (written : Option TileSide)

/-- What the frame events leave to the metadata lines. -/
theorem outputFrame_fields (written : Option TileSide) (s : State) :
    ∃ line, (line = lineOne { s with frame := s.frame + 1#32 } ∨ line = lineOne (outputFrame written s)) ∧
      (outputFrame written s).compositor =
        { (openedState written s).compositor with
          line1 := line, line2 := lineTwo (frameEvents written s).incident.marks } ∧
      (outputFrame written s).arbiter = (openedState written s).arbiter ∧
      (outputFrame written s).remap = (openedState written s).remap ∧
      (outputFrame written s).intake = (openedState written s).intake ∧
      (outputFrame written s).ports = (frameEvents written s).ports ∧
      (outputFrame written s).incident =
        { (frameEvents written s).incident with
          marks := mapFirst (fun m => !m.embedded) (fun m => { m with embedded := true })
            (frameEvents written s).incident.marks } := by
  obtain ⟨line, hline, ht⟩ := outputFrame_eq written s
  have hcounted := countdownIf_keeps (!Config.countdownFirst s.draws) s.incident.triggers (openedState written s)
  rw [← frameEvents_eq] at hcounted
  have hcompositor : (frameEvents written s).compositor = (openedState written s).compositor :=
    hcounted .compositor (by decide)
  refine ⟨line, ?_, ?_, ?_, ?_, ?_, ?_, ?_⟩
  · rw [ht]
    refine hline.imp (fun h => h.trans ?_) fun h => h.trans ?_
    · exact lineOne_congr rfl rfl rfl rfl rfl rfl rfl rfl rfl (fun _ => rfl) rfl
    · exact (lineOne_congr rfl rfl rfl rfl rfl rfl rfl rfl rfl (fun _ => rfl) rfl).symm
  · rw [ht]
    show ({ (frameEvents written s).compositor with
      line1 := line, line2 := lineTwo (frameEvents written s).incident.marks } : Compositor) = _
    rw [hcompositor]
  · rw [ht]
    exact hcounted .arbiter (by decide)
  · rw [ht]
    exact hcounted .remap (by decide)
  · rw [ht]
    exact hcounted .intake (by decide)
  · rw [ht]
    rfl
  · rw [ht]
    rfl

theorem stepGenerator_eq (x : Generator) :
    stepGenerator x =
      if x.count ≤ 1 then
        match x.phase with
        | .off => { x with phase := .on, count := x.nextOn, effective := x.pending }
        | .on => { x with phase := .off, count := x.nextOff }
      else { x with count := x.count - 1 } := rfl

include hmode href

/-- The snapshot of the frame then beginning, field by field (step 5 of R77). -/
theorem begunSnapshot_fields :
    (begunSnapshot written ref s).tracks = s.tracker.tracks ∧ (begunSnapshot written ref s).level = s.alert.level ∧
      (begunSnapshot written ref s).occupancy = s.alert.occupancy ∧
      (begunSnapshot written ref s).switches = s.compositor.switches ∧
      (begunSnapshot written ref s).winner = winningSource (adoptedState written s).arbiter ∧
      (∀ c, (begunSnapshot written ref s).links.get c = (s.intake.get c).link ∧
        (begunSnapshot written ref s).lost.get c = (s.intake.get c).lost ∧
        (begunSnapshot written ref s).conditions.get c = (s.exposure.get c).condition) ∧
      ∀ g, (begunSnapshot written ref s).gates.get g =
        (!(stepGenerator (s.compositor.generators.get g)).effective ||
          decide ((stepGenerator (s.compositor.generators.get g)).phase = .on)) := by
  have hkeeps := adoptedState_keeps written s
  have htracker : (adoptedState written s).tracker = s.tracker := hkeeps .tracker (by decide)
  have halert : (adoptedState written s).alert = s.alert := hkeeps .alert (by decide)
  have hexposure : (adoptedState written s).exposure = s.exposure := hkeeps .exposure (by decide)
  have hintake : (adoptedState written s).intake = s.intake := hkeeps .intake (by decide)
  have hswitches : (adoptedState written s).compositor.switches = s.compositor.switches := by
    rw [adoptedState_compositor hmode href]
  refine ⟨congrArg Tracker.tracks htracker, congrArg Alert.level halert, congrArg Alert.occupancy halert, hswitches, rfl,
    fun c => ⟨?_, ?_, ?_⟩, fun g => ?_⟩
  · show (((adoptedState written s).intake.mapIdx _).map CameraIntake.link).get c = _
    rw [Quad.get_map, Quad.get_mapIdx, hintake]
    exact (slotRule_link _ _ _).1
  · show (((adoptedState written s).intake.mapIdx _).map CameraIntake.lost).get c = _
    rw [Quad.get_map, Quad.get_mapIdx, hintake]
    exact (slotRule_link _ _ _).2
  · show ((adoptedState written s).exposure.map Exposure.condition).get c = _
    rw [Quad.get_map, hexposure]
  · show ((s.compositor.generators.map stepGenerator).map gateOpen).get g = _
    rw [Quad.get_map, Quad.get_map]
    rfl

/-- The lookup of pair 0 in the layout that the frame begins with. -/
theorem openedState_lookup :
    match locatePair (begunLayout written ref s) 0 with
    | none =>
      (openedState written s).remap = (adoptedState written s).remap ∧ (openedState written s).compositor.work = .done
    | some w =>
      (openedState written s).remap =
          (lookupPair (begunLayout written ref s) 0 w { s with remap := (adoptedState written s).remap }).remap ∧
        (openedState written s).compositor.work =
          (lookupPair (begunLayout written ref s) 0 w { s with remap := (adoptedState written s).remap }).compositor.work := by
  have hfirst := firstLookup_adopted (begunLayout written ref s) written s
  rw [openedState_remap hmode href, openedState_compositor hmode href]
  cases hw : locatePair (begunLayout written ref s) 0 with
  | none =>
    simp only [hw] at hfirst
    simp only [hfirst, and_self]
  | some w =>
    simp only [hw] at hfirst
    simp only [hfirst, and_self]

/-- The arbiter after step 1: reported, with the decision at a dwell of 0 (R144). -/
theorem closedState_reported :
    (closedState written s).arbiter =
      if s.compositor.reportPending = true ∧ s.arbiter.state = .firstFrame then
        if s.loaded.ports.dwell = 0 then dwellEnded (s.mode = .running) s.arbiter
        else { s.arbiter with state := .dwell, dwell := s.loaded.ports.dwell }
      else s.arbiter := by
  rw [closedState_arbiter hmode href]
  by_cases hpending : s.compositor.reportPending = true
  · by_cases hstate : s.arbiter.state = .firstFrame
    · rw [if_pos hpending, if_pos ⟨hpending, hstate⟩]
      exact if_pos hstate
    · rw [if_pos hpending, if_neg fun h => hstate h.2]
      exact if_neg hstate
  · rw [if_neg hpending, if_neg fun h => hpending h.1]

/-- A dwell that goes on (R145). -/
theorem openedState_dwell_further (hstate : s.arbiter.state = .dwell) (hdwell : ¬ s.arbiter.dwell ≤ 1) :
    (dweltState written s).arbiter.state = .dwell ∧ (dweltState written s).arbiter.claims = s.arbiter.claims ∧
      (openedState written s).arbiter = { s.arbiter with dwell := s.arbiter.dwell - 1 } := by
  have hfurther := countDwell_closed_further hmode href written hstate hdwell
  rcases openedState_arbiter_dwelling hmode href written hstate with ⟨hdwelt, hlast⟩ | ⟨hdwelt, hlast⟩
  · rw [hfurther] at hdwelt
    have hnone : adoptedTarget written s = none := arbiterAfter_of_dwell (by rw [hdwelt]; exact hstate)
    have hstands : (adoptedState written s).arbiter = (dweltState written s).arbiter := by
      rw [adoptedState_arbiter, hnone]
      rfl
    exact ⟨by rw [hdwelt]; exact hstate, by rw [hdwelt], hlast.trans (hstands.trans hdwelt)⟩
  · exact ⟨by rw [hdwelt]; exact hstate, by rw [hdwelt], hlast.trans hfurther⟩

/-- A dwell that ends, on either side of the adoption (R145). -/
theorem openedState_dwell_ends (hstate : s.arbiter.state = .dwell) (hdwell : s.arbiter.dwell ≤ 1) :
    (dweltState written s).arbiter = dwellEnded (s.mode = .running) s.arbiter ∧
        (openedState written s).arbiter = (adoptedState written s).arbiter ∨
      (dweltState written s).arbiter = s.arbiter ∧
        (openedState written s).arbiter = dwellEnded (s.mode = .running) s.arbiter := by
  have hended := countDwell_closed_last hmode href written hstate hdwell
  rcases openedState_arbiter_dwelling hmode href written hstate with ⟨hdwelt, hlast⟩ | ⟨hdwelt, hlast⟩
  · exact .inl ⟨hdwelt.trans hended, hlast⟩
  · exact .inr ⟨hdwelt, hlast.trans hended⟩

end Outcome

/-! ### The picture sent (R79, R80) -/

section Sent

variable {s : State} {ref : LayoutRef} (written : Option TileSide)

theorem countedState_memory (s : State) :
    (countedState s).compositor = s.compositor ∧ (countedState s).loaded = s.loaded ∧
      (countedState s).frame - 1#32 = s.frame :=
  ⟨countedState_keeps s .compositor (by decide), countedState_keeps s .loaded (by decide), by
    rw [countedState_frame]
    exact BitVec.add_sub_cancel s.frame 1#32⟩

theorem sentStore_stands (h : s.compositor.work = .done ∨ written = none ∧ s.compositor.adoptedAt ≠ s.frame) :
    sentStore ref written s = s.compositor.store := by
  obtain ⟨hcompositor, _, hframe⟩ := countedState_memory s
  rw [sentStore, heldState_store_stands written (by rw [hcompositor, hframe]; exact h), hcompositor]

variable (hwf : sparseWf blackPixel s.compositor.store = true)

include hwf

theorem sentStore_wf : sparseWf blackPixel (sentStore ref written s) = true := by
  obtain ⟨hcompositor, _, _⟩ := countedState_memory s
  exact heldState_wf written (by rw [hcompositor]; exact hwf)

theorem sentStore_first (hfirst : s.compositor.adoptedAt = s.frame) {p : PairPlace × TileSide}
    (hp : p ∈ endingTiles ref written s) {i j : Nat} (hi : i < p.1.pane.cls.tile) (hj : j < p.1.pane.cls.tile) :
    sparseRead blackPixel (sentStore ref written s) (tileAddress p.1 p.2 i j) = colourOf s.loaded.palette 0 := by
  obtain ⟨hcompositor, hloaded, hframe⟩ := countedState_memory s
  rw [← endingTiles_counted] at hp
  rw [sentStore, heldState_first written (by rw [hcompositor]; exact hwf) (by rw [hcompositor, hframe]; exact hfirst)
    ⟨p, hp, i, j, hi, hj, rfl⟩, hloaded]

theorem sentStore_others (href : s.compositor.inEffect = some ref) {a : Nat}
    (ha : ∀ p ∈ endingTiles ref none s, ∀ i j, i < p.1.pane.cls.tile → j < p.1.pane.cls.tile → a ≠ tileAddress p.1 p.2 i j) :
    sparseRead blackPixel (sentStore ref written s) a = sparseRead blackPixel s.compositor.store a := by
  obtain ⟨hcompositor, _, _⟩ := countedState_memory s
  have hread := heldState_others written (s := countedState s) (a := a) (by rw [hcompositor]; exact hwf)
    (by rw [hcompositor]; exact href) fun p hp hin => by
      rw [endingTiles_counted] at hp
      obtain ⟨i, j, hi, hj, hij⟩ := hin
      exact ha p hp i j hi hj hij
  rw [hcompositor] at hread
  exact hread

end Sent

/-- The slot rule for one camera, by whether it is in use and has a READY slot (R30). -/
theorem slotRule_cases {now : Word} {use : Bool} {k k' : CameraIntake} (h : k' = slotRule now use k) :
    (use = false → k' = { k with inUse := false }) ∧
      (use = true → (∀ i, (k.slots.get i).state ≠ .ready) → k' = { k with inUse := true }) ∧
      (use = true → (∃ i, (k.slots.get i).state = .ready) →
        ∃ i, (k.slots.get i).state = .ready ∧
          (∀ j, (k.slots.get j).state = .ready → slotAge now (k.slots.get i) ≤ slotAge now (k.slots.get j)) ∧
          k'.slots.get i = { k.slots.get i with state := .reading } ∧
          (∀ j, j ≠ i → k'.slots.get j =
            { k.slots.get j with state := if (k.slots.get j).state = .filling then .filling else .free }) ∧
          k' =
            { k with
              slots := k'.slots
              inUse := true
              dropped := if k.inUse then satAdd k.dropped (slotCount .ready k - 1) else k.dropped }) := by
  subst h
  refine ⟨?_, ?_, ?_⟩
  · rintro rfl
    exact slotRule_unused now k
  · rintro rfl hnone
    exact slotRule_not_ready hnone
  · rintro rfl hready
    exact slotRule_ready hready

/-- The store is in canonical form when memory is. -/
theorem store_wf_of_canonical {s : State} (h : memoryCanonical s = true) :
    sparseWf blackPixel s.compositor.store = true := by
  simp only [memoryCanonical, Bool.and_eq_true] at h
  exact h.1.1.2

/-- Settles O26: the held tiles and the picture, the report, the adoption, the lookup of pair 0, the slot rule, the generators,
the snapshot, the trigger conditions on either side, the lines and the ports. -/
theorem layoutFrameStartActsInOrder : Obligations.LayoutFrameStartActsInOrder := by
  intro written ref s hmode href hcanonical
  have hwf := store_wf_of_canonical hcanonical
  obtain ⟨line, hline, hcompositor, harbiter, hremap, hintake, hports, hincident⟩ := outputFrame_fields written s
  have hframe := outputFrame_frame written s
  have hadopted := adoptedState_compositor hmode href written
  have hopened := openedState_compositor hmode href written
  have hall : KeepsBut [.arbiter, .ports, .compositor, .remap, .intake, .incident, .frame, .draws] s
      (outputFrame written s) := (frameBegun_keeps s).chain (outputFrame_keeps_begun written s)
  have heffect : (outputFrame written s).compositor.inEffect = some (effectAfter (adoptedTarget written s) ref) := by
    rw [hcompositor, hopened, hadopted]
  have hsent : (outputFrame written s).compositor.sent = sentStore ref written s := by
    rw [hcompositor, hopened, hadopted]
  have hstore : (outputFrame written s).compositor.store = (adoptedState written s).compositor.store := by
    rw [hcompositor, hopened]
  have hgenerators : ∀ g, (outputFrame written s).compositor.generators.get g =
      stepGenerator (s.compositor.generators.get g) := fun g => by
    rw [hcompositor, hopened]
    exact Quad.get_map _ _ _
  have hslots : ∀ c, (outputFrame written s).intake.get c =
      slotRule s.ms ((begunLayout written ref s).cameras.getLsbD c.val) (s.intake.get c) := fun c => by
    rw [hintake, openedState_intake hmode href]
  obtain ⟨hportsOnly, hcan, hraised⟩ := frameEvents_ports hmode href written
  obtain ⟨htracks, hlevel, hoccupancy, hswitches, hwinner, hcameras, hgates⟩ := begunSnapshot_fields hmode href written
  refine ⟨outputFrame written s, rfl, (dweltState written s).arbiter, (adoptedState written s).arbiter,
    (adoptedState written s).remap, (frameEvents written s).incident, begunSnapshot written ref s, ?_⟩
  intro settles ended reported target begun viewed
  have htarget : target = adoptedTarget written s := (adoptedTarget_eq written s).symm
  clear_value target
  subst htarget
  refine ⟨?adoption, ?reported, ?dwellOn, ?dwellEnd, hframe, ?effect, ?adoptedAt, ?pending, ?mode, ?switches, ?held, ?stands,
    ?first, ?others, ?unadopted, ?background, adoptedState_remap_only written s, ?unpinned, fun g => adoptedState_pins, ?lookup,
    ?cameras, ?generators, ?snapshot, htracks, hlevel, hoccupancy, hswitches, hwinner, hcameras, ?gates, ?incident, hincident,
    ?line2, ?line1, ?notices, ?ports, ?can, ?bytes, ?pictures, hall.mono (by decide)⟩
  case adoption =>
    rw [adoptedState_arbiter]
    cases adoptedTarget written s <;> rfl
  case reported =>
    intro hstate
    obtain ⟨hdwelt, hlast⟩ := openedState_arbiter_not written hstate
    exact ⟨hdwelt.trans (closedState_reported hmode href written), harbiter.trans hlast⟩
  case dwellOn =>
    intro hstate hdwell
    rw [harbiter]
    exact openedState_dwell_further hmode href written hstate (by omega)
  case dwellEnd =>
    intro hstate hdwell
    rw [harbiter]
    exact openedState_dwell_ends hmode href written hstate hdwell
  case effect =>
    rw [heffect]
    cases adoptedTarget written s <;> rfl
  case adoptedAt => rw [hframe, hcompositor, hopened, hadopted]
  case pending => rw [hcompositor, hopened, hadopted]
  case mode => rw [hcompositor, hopened, hadopted]
  case switches => rw [hcompositor, hopened, hadopted]
  case held =>
    rw [hcompositor, hopened, hadopted]
    rfl
  case stands => exact fun h => hsent.trans (sentStore_stands written h)
  case first =>
    intro hfirst p hp i j hi hj
    rw [hsent]
    exact sentStore_first written hwf hfirst hp hi hj
  case others =>
    intro x hx
    rw [hsent]
    exact sentStore_others written hwf href hx
  case unadopted =>
    intro hnone
    rw [hstore, hsent]
    exact adoptedState_store_none hmode href written hnone
  case background =>
    intro g hg x y hx hy
    rw [hstore, hsent]
    exact adoptedState_store_some hmode href written (sentStore_wf written hwf) hg hx hy
  case unpinned =>
    intro hnone
    rw [adoptedState_remap, hnone]
    exact ⟨rfl, rfl, rfl⟩
  case lookup =>
    intro e he
    cases Option.some.inj (heffect.symm.trans he)
    have hlookup := openedState_lookup hmode href written
    have hwork : (outputFrame written s).compositor.work = (openedState written s).compositor.work := by rw [hcompositor]
    rw [← hremap, ← hwork] at hlookup
    exact hlookup
  case cameras =>
    intro e he c
    cases Option.some.inj (heffect.symm.trans he)
    exact slotRule_cases (hslots c)
  case generators => exact fun g => (hgenerators g).trans (stepGenerator_eq _)
  case snapshot => rw [hcompositor, hopened]
  case gates =>
    intro g
    rw [hgenerators]
    exact hgates g
  case incident =>
    rw [harbiter]
    exact frameEvents_incident hmode href written
  case line2 => rw [hcompositor]
  case line1 =>
    rw [show (outputFrame written s).compositor.line1 = line from by rw [hcompositor]]
    exact hline
  case notices =>
    intro m k hk
    rw [hports]
    exact hraised m k hk
  case ports =>
    rw [hports]
    exact hportsOnly
  case can =>
    intro p
    rw [hports]
    exact hcan p
  case bytes =>
    exact ⟨fun _ => by rw [show (outputFrame written s).flash = s.flash from hall .flash (by decide)],
      fun _ => by rw [show (outputFrame written s).loaded = s.loaded from hall .loaded (by decide)]⟩
  case pictures =>
    intro c i a
    rw [hslots, slotRule_picture]

end Sys2Proof.Machine
end
